-- ==== Sys2Proof/Word.lean ====
section
/-! DEFINITION. The word types of the Mabrow 880 (spec/00_scope.md, Numbering and units). -/

namespace Sys2Proof

/-- A value of the part clock: a 32-bit count of microseconds that wraps (spec/00_scope.md). -/
abbrev Time := BitVec 32

/-- One byte of a frame, of the sound memory or of the take store. -/
abbrev Byte := BitVec 8

/-- One mono sample frame of the sound set: signed 16 bits in two's complement (06, section 6.1). -/
abbrev Sample := BitVec 16

/-- A statistics counter: 24 bits, rolling over from 16,777,215 to 0 (R190). -/
abbrev Tally := BitVec 24

/-- Microseconds from `a` to `b`, modulo the wrap of the part clock (R43). -/
def since (a b : Time) : Nat := (b - a).toNat

end Sys2Proof
end

