-- ==== Sys2Proof/Syntax.lean ====
section
/-! DEFINITION. The commands of the Mabrow 880: one constructor of `Instr` per row of spec/opcode_table.json,
with the operands its rule names. `t` is the part-clock time at which the command is taken (log 1).
An operand of type `Option α` that names one of a few values is `none` for any other value the field can carry,
so that the refusals with BAD_ARGUMENT are in the model. -/

namespace Sys2Proof

/-- The three pedals (00, Numbering and units). -/
inductive Pedal | damper | sostenuto | soft
  deriving DecidableEq, Repr

/-- The two velocity curves of CURVE_SET (R17). -/
inductive Curve | hammer | keyOnly
  deriving DecidableEq, Repr

/-- A calibration record (R4). -/
structure CalRecord where
  keyRest : Nat
  keyBottom : Nat
  hammerRest : Nat
  hammerTop : Nat
  hammerStopped : Option Nat
  trim : Int
  enabled : Bool
  deriving DecidableEq, Repr

/-- A threshold set, in the order of R7, in per mille. -/
structure Thresholds where
  rest : Nat
  start : Nat
  damper : Nat
  rearm : Nat
  kA : Nat
  kB : Nat
  hRest : Nat
  freeA : Nat
  freeB : Nat
  stoppedA : Nat
  stoppedB : Nat
  deriving DecidableEq, Repr

/-- One point of a velocity curve: a time in µs and a velocity (R16). -/
structure CurvePoint where
  time : Nat
  velocity : Nat
  deriving DecidableEq, Repr

/-- What FAULT_CLEAR names (R21, R37): a key index, a pedal, or neither. -/
inductive FaultTarget | key (k : Nat) | pedal (p : Pedal) | other
  deriving DecidableEq, Repr

/-- A pedal's reporting mode (R30). -/
inductive PedalMode | level | switch
  deriving DecidableEq, Repr

/-- The raw samples of the three pedals in one scan frame. -/
structure PedalRaws where
  damper : Nat
  sostenuto : Nat
  soft : Nat
  deriving DecidableEq, Repr

/-- A byte as the RX line delivers it: its value and whether its stop bit was good (R184). -/
structure RxByte where
  value : Byte
  stopOk : Bool
  deriving DecidableEq, Repr

/-- A change of the encoder signals (R53): one signal changes, a step up or down in the quadrature sequence,
or both change at once. Which sequence counts up is not stated; the command says it (log 16). -/
inductive EncoderChange | step (up : Bool) | illegal
  deriving DecidableEq, Repr

/-- The two end switches of the rail (R54). -/
inductive EndSwitch | acoustic | silent
  deriving DecidableEq, Repr

/-- The two configured rail targets (R58). -/
inductive RailTarget | acoustic | silent
  deriving DecidableEq, Repr

/-- The kill policy of a rail motion (R58). -/
inductive Policy | pause | retreat
  deriving DecidableEq, Repr

/-- The origin of a note (05). -/
inductive Source | live | playback
  deriving DecidableEq, Repr

/-- The scope of SOUND_OFF (R90). -/
inductive Scope | live | playback | both
  deriving DecidableEq, Repr

/-- The steal priority (R78). -/
inductive Priority | liveFirst | playbackFirst
  deriving DecidableEq, Repr

/-- The master attenuation: a code of 0.5 dB steps, or MUTED (R114). -/
inductive Master | code (n : Nat) | muted
  deriving DecidableEq, Repr

/-- The output source (R112, R116). -/
inductive OutSource | silence | both | liveOnly | playbackOnly
  deriving DecidableEq, Repr

/-- The channel mode (R112). -/
inductive ChannelMode | stereo | mono
  deriving DecidableEq, Repr

/-- The mode in which the mute line is read (R120). -/
inductive MuteMode | level | latch
  deriving DecidableEq, Repr

/-- The arm mode of REC_START (R146). -/
inductive ArmMode | immediate | onFirstKey
  deriving DecidableEq, Repr

/-- The Stream Packer's packing mode (R159). -/
inductive PackMode | packed | single
  deriving DecidableEq, Repr

/-- The part a hand of the take is given (R166). -/
inductive Part | sound | mute | practice
  deriving DecidableEq, Repr

/-- The parts argument of PLAY_START and PLAY_PARTS: one for each hand. -/
structure PartsArg where
  left : Option Part
  right : Option Part
  noHand : Option Part
  deriving DecidableEq, Repr

/-- NOW or AT_MARK (R165, R169). -/
inductive When | now | atMark
  deriving DecidableEq, Repr

/-- The two context slots (R178). -/
inductive SlotId | a | b
  deriving DecidableEq, Repr

/-- The commands, one constructor per row of spec/opcode_table.json. -/
inductive Instr
  | fullReset (strap : Bool)
  | setupAreaReadDone (t : Time)
  | autoHome (t : Time)
  | warmReset (t : Time)
  | rxFrame (t : Time) (b : RxByte)
  | rxGapTimeout (t : Time)
  | unknownKind (t : Time) (known : Bool)
  | txFrameDone (t : Time)
  | scanFrame (t : Time) (keys hammers : List Nat) (pedals : PedalRaws)
  | streamHoldTimer (t : Time)
  | settleTimer (t : Time)
  | encoderChange (t : Time) (c : EncoderChange)
  | indexEdge (t : Time) (active : Bool)
  | endSwitchClose (t : Time) (sw : EndSwitch)
  | endSwitchOpen (t : Time) (sw : EndSwitch)
  | railStall (t : Time)
  | railTravelTimeout (t : Time)
  | segmentReadDone (t : Time)
  | soundsetLoadDone (t : Time)
  | outputFrame (t : Time)
  | audioBlockBoundary (t : Time)
  | plugDetectChange (t : Time) (asserted : Bool)
  | plugSettleTimer (t : Time)
  | muteLineChange (t : Time) (asserted : Bool)
  | recTakeClockTick (t : Time)
  | cueDone (t : Time)
  | playerTick (t : Time)
  | waitTimer (t : Time)
  | calSet (t : Time) (key : Nat) (rec : CalRecord)
  | threshSet (t : Time) (set : Thresholds)
  | curveSet (t : Time) (curve : Option Curve) (points : List CurvePoint)
  | faultClear (t : Time) (target : FaultTarget)
  | captureBegin (t : Time)
  | captureEnd (t : Time)
  | captureCancel (t : Time)
  | keyQuery (t : Time) (key : Nat)
  | scanQuery (t : Time)
  | pedalCal (t : Time) (pedal : Option Pedal) (rest full : Nat)
  | pedalMode (t : Time) (pedal : Option Pedal) (mode : Option PedalMode) (deadBand : Nat)
  | pedalQuery (t : Time)
  | routeSet (t : Time) (monitor : Option Bool) (split : Nat) (streaming : Option Bool)
  | routeQuery (t : Time)
  | railMove (t : Time) (target : Option RailTarget) (policy : Option Policy)
  | railHome (t : Time)
  | railStop (t : Time)
  | railConfig (t : Time) (acoustic silent moveDuty homingDuty travelLimit settle : Nat) (autoHome : Option Bool)
  | railQuery (t : Time)
  | polySet (t : Time) (limit : Nat) (priority : Option Priority)
  | soundOff (t : Time) (scope : Option Scope)
  | voiceQuery (t : Time)
  | voiceRead (t : Time) (first count : Nat)
  | soundsetReload (t : Time)
  | soundsetQuery (t : Time)
  | zoneRead (t : Time) (first count : Nat)
  | streamRead (t : Time) (entry : Nat)
  | volumeSet (t : Time) (master : Master)
  | mixSet (t : Time) (liveTrim playTrim : Nat) (source : Option OutSource) (channel : Option ChannelMode)
  | hpConfig (t : Time) (width : Nat) (plug : Option Bool) (mode : Option MuteMode)
  | unmute (t : Time)
  | mixQuery (t : Time)
  | takeList (t : Time)
  | takeInfo (t : Time) (take : Nat)
  | takeRename (t : Time) (take : Nat) (name : List Byte)
  | takeDelete (t : Time) (take : Nat)
  | uploadOpen (t : Time) (take count : Nat) (name : List Byte)
  | uploadBlock (t : Time) (index : Nat) (data : List Byte)
  | downloadOpen (t : Time) (take first count : Nat)
  | downloadBlock (t : Time)
  | transferAbort (t : Time)
  | recStart (t : Time) (take : Nat) (arm : Option ArmMode) (name : List Byte)
  | recMark (t : Time) (number : Nat)
  | recPause (t : Time)
  | recResume (t : Time)
  | recStop (t : Time)
  | recQuery (t : Time)
  | streamConfig (t : Time) (mode : Option PackMode) (events hold : Nat)
  | streamQuery (t : Time)
  | playStart (t : Time) (take : Nat) (fromMark toMark : Option Nat) (loops tempo : Nat) (parts : PartsArg) (report : Bool)
  | playStop (t : Time) (when : Option When)
  | playPause (t : Time) (when : Option When)
  | playContinue (t : Time)
  | playTempo (t : Time) (tempo : Nat) (when : Option When)
  | playParts (t : Time) (parts : PartsArg)
  | waitConfig (t : Time) (window timeout : Nat)
  | playSuspend (t : Time) (slot : Option SlotId)
  | playResume (t : Time) (slot : Option SlotId)
  | slotDiscard (t : Time) (slot : Option SlotId)
  | playerQuery (t : Time)
  | status (t : Time)
  | identify (t : Time)
  | statsRead (t : Time) (clear : Nat)
  | restart (t : Time)
  | byteReceived (t : Time) (b : RxByte)
  deriving DecidableEq, Repr

end Sys2Proof
end

