-- ==== Sys2Proof/Decode.lean ====
section
/-! DEFINITION. The table of this block gives no row any bits (spec/opcode_table.json: every "fields" is empty), so
no word spells a command. -/

namespace Sys2Proof

/-- The command a word spells by the table's bits: none of the 93 rows gives any. -/
def decodeTableWord (_nbits _w : Nat) : Option Instr := none

end Sys2Proof
end

