-- ==== Sys2Proof/Config.lean ====
section
/-! DEFINITION. What an implementation of the Mabrow 880 fixes and the spec does not state: free values,
constants with no body. Nothing in Lean can evaluate them, so a claim about one holds whatever it is. -/

namespace Sys2Proof.Config

/-- The revision number IDENTIFY reports (R189); the spec does not give it. Log 38. -/
opaque revision : Byte

/-- How many bytes the `part`-th stretch of a payload takes whose layout the spec does not give (11, Formats), for content
`what`. Used only through `freeBytes`, which bounds it. Log 6. -/
opaque layoutLength {α : Type} (what : α) (part : Nat) : Nat

/-- Byte `i` of that stretch. Log 6. -/
opaque layoutByte {α : Type} (what : α) (part i : Nat) : Byte

/-- The kind byte of a notice, by its place in the list of R187; the spec gives no codes. Log 6. -/
opaque noticeKind : Nat → Byte

/-- The kind byte of a stream frame (R183); the spec gives no code. Log 6. -/
opaque streamKind : Byte

/-- The left-rest time of key `k`'s flight record when its hammer is found at or above H_rest in the frame of
time `t` without having crossed H_rest in it (R19 gives a time only for a crossing). Log 13. -/
opaque leftRestTime : Nat → Time → Time

/-- What a tally of a wait becomes when it stands at 65,535 and one more is counted (10 gives the range 0 to 65,535 and
does not say). Log 35. -/
opaque tallyBeyond : BitVec 16

end Sys2Proof.Config
end

