-- ==== Sys2Proof/Machine/State.lean ====
section
/-! DEFINITION. The state of the Mabrow 880, block by block, and the machine right after a full reset. Everything is
plain data. A field marked "model's own" is not named by the spec; INVENTORY.md says what it is for. -/

namespace Sys2Proof.Machine

/-- A running timer: the microseconds left, or none when it does not run. -/
abbrev Timer := Option Nat

/-! ### Sensing (01) -/

/-- Active and target modes (R8). -/
inductive Mode | free | stopped | keyOnly
  deriving DecidableEq, Repr

/-- The hammer scale setting (R2). -/
inductive Scale | free | stopped
  deriving DecidableEq, Repr

/-- Key states (section 1.5). -/
inductive KeyState | rest | pressing | down | lifting | released | faulted
  deriving DecidableEq, Repr

/-- The hammer state (R18), held as the presence of the key's flight record. -/
inductive HammerState | atRest | inFlight
  deriving DecidableEq, Repr

/-- The quality of a strike (R12). -/
inductive Quality | hammer | keyOnly
  deriving DecidableEq, Repr

/-- A flight record (R19); its key index is its place in the key list. -/
structure Flight where
  leftRest : Time
  peak : Nat
  struck : Bool
  deriving DecidableEq, Repr

/-- A sensor's last good raw sample with its frame time (R1). -/
structure GoodSample where
  raw : Nat
  time : Time
  deriving DecidableEq, Repr

/-- A capture record (R23): starting and farthest raw of both sensors. -/
structure Capture where
  keyStart : Option Nat
  keyFar : Option Nat
  hammerStart : Option Nat
  hammerFar : Option Nat
  deriving DecidableEq, Repr

/-- The scanner's state of one key (01, opening list). -/
structure Key where
  cal : CalRecord
  staged : Option CalRecord
  thr : Thresholds
  mode : Mode
  scale : Scale
  state : KeyState
  aTimeKey : Option Time
  aTimeHammer : Option Time
  returns : Nat
  flight : Option Flight
  keyGood : Option GoodSample
  hammerGood : Option GoodSample
  keyDepth : Nat
  hammerDepth : Nat
  keyFaults : Nat
  hammerFaults : Nat
  quality : Quality
  capture : Option Capture
  deriving DecidableEq, Repr

/-- The Action Scanner (01). -/
structure Scanner where
  keys : List Key
  thr : Thresholds
  hammerCurve : List CurvePoint
  keyCurve : List CurvePoint
  target : Mode
  settle : Timer
  capturing : Bool
  deriving DecidableEq, Repr

/-! ### Pedals (02) -/

/-- A pedal context (R34, and the playback context of 10): damper level, sostenuto DOWN, soft level and the
sostenuto set in ascending key index. -/
structure PedalContext where
  damper : Nat
  sostenuto : Bool
  soft : Nat
  set : List Nat
  deriving DecidableEq, Repr

/-- One pedal's state (02, opening list). -/
structure PedalUnit where
  restRaw : Nat
  fullRaw : Nat
  mode : PedalMode
  deadBand : Nat
  depth : Nat
  good : Option Nat
  switchDown : Bool
  last : Nat
  faults : Nat
  faulted : Bool
  deriving DecidableEq, Repr

/-- The Pedal Unit: three pedals and the live pedal context. -/
structure Pedals where
  damper : PedalUnit
  sostenuto : PedalUnit
  soft : PedalUnit
  context : PedalContext
  deriving DecidableEq, Repr

/-! ### Routing (03) -/

/-- The hand of an event or a take record. -/
inductive Hand | left | right | none
  deriving DecidableEq, Repr

/-- What the Action Scanner or the Pedal Unit hands over (R15, R33). -/
inductive EventBody
  | noteOn (key velocity : Nat) (again : Bool) (quality : Quality)
  | noteOff (key : Nat) (quality : Quality)
  | pedal (p : Pedal) (level : Nat)
  deriving DecidableEq, Repr

/-- A completed live event (R41). -/
structure LiveEvent where
  body : EventBody
  hand : Hand
  time : Time
  deriving DecidableEq, Repr

/-- Rail states (section 4.2). -/
inductive RailState | unhomed | homing | moving | held | acoustic | silent | parked | fault
  deriving DecidableEq, Repr

/-- The Event Router (03). -/
structure Router where
  monitor : Bool
  split : Nat
  streaming : Bool
  railState : RailState
  passage : Option LiveEvent
  deriving DecidableEq, Repr

/-! ### Rail (04) -/

/-- Drive modes of the motor bridge (R52). -/
inductive Drive | coast | brake | forward | reverse
  deriving DecidableEq, Repr

/-- The kind of a motion (R57). -/
inductive MotionKind | home | move
  deriving DecidableEq, Repr

/-- The origin state of a motion (R57); none is the absence of one. -/
inductive Origin | acoustic | silent | parked
  deriving DecidableEq, Repr

/-- The homing phase (R64). -/
inductive HomingPhase | escape | seek
  deriving DecidableEq, Repr

/-- Rail fault kinds (R55). -/
inductive RailFault | timeout | stall | limit | encoder | noIndex
  deriving DecidableEq, Repr

/-- The reason a RAIL_STATE notice carries (R55). -/
inductive RailReason
  | commanded | arrived | retreated | held | resumed | stopped | homed | fault (kind : RailFault)
  deriving DecidableEq, Repr

/-- The motion record (R57); driven time is held in µs. -/
structure Motion where
  kind : MotionKind
  target : Option RailTarget
  targetPos : Option Nat
  origin : Option Origin
  policy : Policy
  retreating : Bool
  driven : Nat
  lastChange : Time
  deriving DecidableEq, Repr

/-- The rail configuration (R56). -/
structure RailConfig where
  acoustic : Nat
  silent : Nat
  moveDuty : Nat
  homingDuty : Nat
  travelLimit : Nat
  settle : Nat
  autoHome : Bool
  deriving DecidableEq, Repr

/-- The Rail Controller (04). The rail is homed exactly while `position` is present. `faultNow` says that the rail has just
faulted with STALL or TIMEOUT and no time has passed since (R67: a step of that same moment still moves the position; model's
own, log 18). -/
structure Rail where
  state : RailState
  position : Option Nat
  drive : Drive
  duty : Nat
  motion : Option Motion
  phase : Option HomingPhase
  occupied : Bool
  lastFault : Option RailFault
  config : RailConfig
  autoHomeDue : Bool
  faultNow : Bool
  deriving DecidableEq, Repr

/-! ### Voices (05) -/

/-- The state of an allocated voice (R74) with the fields that state alone holds. Release attenuation is in units of
`attUnit`. In FADING, `started` says whether the fade's first boundary has come and `level` is the release
attenuation the voice had when it entered (model's own). -/
inductive VoicePhase
  | starting
  | sounding
  | damped (releaseTime att : Nat)
  | fading (blocks : Nat) (started : Bool) (level : Nat)
  deriving DecidableEq, Repr

/-- A voice record of an entry that is not FREE (R74); a FREE entry is `none` in the table. -/
structure Voice where
  phase : VoicePhase
  source : Source
  key : Nat
  velocity : Nat
  zone : Nat
  gain : Nat
  released : Bool
  seq : BitVec 32
  deriving DecidableEq, Repr

/-- The Voice Engine (05). -/
structure Voices where
  table : List (Option Voice)
  limit : Nat
  priority : Priority
  counter : BitVec 32
  deriving DecidableEq, Repr

/-! ### Sample fetch (06) -/

/-- A zone of the zone table (R95). -/
structure Zone where
  lowKey : Nat
  highKey : Nat
  lowVel : Nat
  highVel : Nat
  start : Nat
  length : Nat
  loopStart : Option Nat
  gain : Nat
  pan : Nat
  deriving DecidableEq, Repr

/-- The header of the sound set (R94), its signature apart. -/
structure SetHeader where
  version : Nat
  zoneCount : Nat
  memorySize : Nat
  setupOffset : Nat
  deriving DecidableEq, Repr

/-- Failure reasons of a load (R96). -/
inductive LoadFailure
  | signature | zoneCount | memorySize | keyRange | velocityRange | extent | loop | levels
  deriving DecidableEq, Repr

/-- The sound-set status (R97). -/
inductive SetStatus | valid | loading | invalid
  deriving DecidableEq, Repr

/-- Fill states of a buffer half (R99). -/
inductive Fill | empty | queued | reading | full
  deriving DecidableEq, Repr

/-- One half of a stream buffer (R99): fill state, the segment it holds or wants, and its data. -/
structure Half where
  fill : Fill
  segment : Nat
  data : List Sample
  deriving DecidableEq, Repr

/-- What allocation a stream buffer serves (R99): a sequence number and a zone. -/
structure Serves where
  seq : BitVec 32
  zone : Nat
  deriving DecidableEq, Repr

/-- A voice entry's stream buffer (R99). `due` marks a voice that has entered SOUNDING and begins to play at the
next boundary (R100; model's own). -/
structure StreamBuf where
  a : Half
  b : Half
  pos : Option Nat
  serves : Option Serves
  due : Bool
  deriving DecidableEq, Repr

/-- The class of a fetch entry (R103). -/
inductive FetchClass | prime | refill
  deriving DecidableEq, Repr

/-- A fetch queue entry (R103). -/
structure FetchEntry where
  cls : FetchClass
  voice : Nat
  seq : BitVec 32
  segment : Nat
  deriving DecidableEq, Repr

/-- What the memory port carries (R103, R107, R109). -/
inductive PortRead | segment (e : FetchEntry) | load | setup
  deriving DecidableEq, Repr

/-- The Sample Fetch Unit (06). -/
structure Fetch where
  status : SetStatus
  header : Option SetHeader
  failure : Option (LoadFailure × Option Nat)
  zones : List Zone
  bufs : List StreamBuf
  queue : List FetchEntry
  port : Option PortRead
  deriving DecidableEq, Repr

/-! ### Headphone output (07) -/

/-- The gain path's settings (R115). -/
structure GainPath where
  master : Master
  liveTrim : Nat
  playTrim : Nat
  source : OutSource
  channel : ChannelMode
  deriving DecidableEq, Repr

/-- The ramp of the current audio block (R115, R116). -/
inductive Ramp | none | settings (old : GainPath) | silence
  deriving DecidableEq, Repr

/-- The plug monitor's states (R118). -/
inductive PlugState | empty | settling | seated
  deriving DecidableEq, Repr

/-- The frame on the serial audio port: its two 32-bit slots (R117). -/
structure AudioFrame where
  left : BitVec 32
  right : BitVec 32
  deriving DecidableEq, Repr

/-- The Headphone Mixer (07). `inForce` and `widthInForce` are what the current block uses; `silentOut` stands from
a silence condition until the boundary after the last one ends (R116); `frameInBlock` counts the output frames of
the block (model's own). -/
structure Mixer where
  settings : GainPath
  inForce : GainPath
  ramp : Ramp
  width : Nat
  widthInForce : Nat
  silenceFlag : Bool
  silentOut : Bool
  plugDetect : Bool
  plug : PlugState
  plugTimer : Timer
  muteMode : MuteMode
  latched : Bool
  frameInBlock : Nat
  port : AudioFrame
  deriving DecidableEq, Repr

/-! ### Take store (08) -/

/-- The states of a take that is not EMPTY (R125). -/
inductive TakePhase | recording | loading | closed
  deriving DecidableEq, Repr

/-- How a take came into the store (R125). -/
inductive TakeOrigin | recorded | uploaded
  deriving DecidableEq, Repr

/-- The holders of pins (R133). -/
inductive Holder | player | slotA | slotB | download
  deriving DecidableEq, Repr

/-- The set of holders of a take: one flag each, so that equal sets are equal data. -/
structure Holders where
  player : Bool
  slotA : Bool
  slotB : Bool
  download : Bool
  deriving DecidableEq, Repr

/-- A directory entry that is not EMPTY (R125); an EMPTY entry is `none` in the directory. -/
structure Take where
  phase : TakePhase
  name : Option (List Byte)
  origin : TakeOrigin
  truncated : Bool
  blocks : List Nat
  count : Nat
  duration : Nat
  marks : Nat
  holders : Holders
  deriving DecidableEq, Repr

/-- The transfer record (section 8.8): `none` is kind NONE. -/
inductive Transfer
  | none
  | upload (take next remaining : Nat)
  | download (take next remaining : Nat)
  deriving DecidableEq, Repr

/-- Memory: address and byte pairs in canonical form, see `Memory.wf`. -/
abbrev Memory := List Host.Cell

/-- The Take Store (08). The pool is in ascending block number. -/
structure Store where
  takes : List (Option Take)
  pool : List Nat
  mem : Memory
  transfer : Transfer
  deriving DecidableEq, Repr

/-- A take record as its fields read it (R128). -/
inductive RecordBody
  | fill
  | noteOn (key velocity : Nat)
  | noteOff (key : Nat)
  | pedal (pedal level : Nat)
  | mark (number : Nat)
  | gap (amount : Nat)
  | endTake
  | unknown (kind : Nat)
  deriving DecidableEq, Repr

/-- A take record: its body, its hand code (0 LEFT, 1 RIGHT, 2 NONE, 3 none of them) and its delta (R128). -/
structure TakeRecord where
  body : RecordBody
  hand : Nat
  delta : Nat
  deriving DecidableEq, Repr

/-- Failure reasons of a validation (R131). -/
inductive InvalidReason
  | kind | afterEnd | range | noteOpen | noteNotOpen | duration | openAtEnd | noEnd
  deriving DecidableEq, Repr

/-! ### Recorder and Stream Packer (09) -/

/-- Recorder states (section 9.1). -/
inductive RecState | idle | armed | recording | paused
  deriving DecidableEq, Repr

/-- The Recorder. `left` is the time to the take clock's next rise (model's own). -/
structure Recorder where
  state : RecState
  take : Option Nat
  clock : Nat
  last : Nat
  opens : List (Nat × Hand)
  left : Nat
  deriving DecidableEq, Repr

/-- The Stream Packer (section 9.2). -/
structure Packer where
  enabled : Bool
  mode : PackMode
  perPacket : Nat
  hold : Nat
  queue : List (List LiveEvent)
  openPacket : List LiveEvent
  ready : Bool
  backlog : List LiveEvent
  timer : Timer
  gap : Nat
  deriving DecidableEq, Repr

/-! ### Practice Player (10) -/

/-- Player states (section 10.1). -/
inductive PlayerState | idle | cueing | playing | waiting | paused
  deriving DecidableEq, Repr

/-- The repeats remaining (R162). -/
inductive Repeats | endless | times (n : Nat)
  deriving DecidableEq, Repr

/-- A pending halt (R169). -/
inductive Halt | stop | pause
  deriving DecidableEq, Repr

/-- The parts routing. -/
structure Parts where
  left : Part
  right : Part
  noHand : Part
  deriving DecidableEq, Repr

/-- The pedal snapshot (R163). -/
structure Snapshot where
  damper : Nat
  sostenuto : Bool
  soft : Nat
  deriving DecidableEq, Repr

/-- A saved context (R178). -/
structure Saved where
  take : Nat
  clock : Nat
  pos : Nat
  tempo : Nat
  staged : Option Nat
  halt : Option Halt
  repeats : Repeats
  fromMark : Option Nat
  toMark : Option Nat
  parts : Parts
  reportMarks : Bool
  window : Nat
  timeout : Nat
  context : PedalContext
  mark : Option Nat
  deriving DecidableEq, Repr

/-- A fraction of a microsecond, in lowest terms (R164). -/
structure Frac where
  num : Nat
  den : Nat
  deriving DecidableEq, Repr

/-- The Practice Player with its Wait Matcher (10). `tickLeft`, `cueLeft`, `resume` are the model's own. -/
structure Player where
  state : PlayerState
  take : Option Nat
  pos : Nat
  clock : Nat
  tickStart : Nat
  tempo : Nat
  staged : Option Nat
  fromMark : Option Nat
  toMark : Option Nat
  loopPos : Nat
  loopTime : Nat
  repeats : Repeats
  parts : Parts
  reportMarks : Bool
  mark : Option Nat
  halt : Option Halt
  snapshot : Snapshot
  context : PedalContext
  openNotes : List Nat
  waitPending : Bool
  slotA : Option Saved
  slotB : Option Saved
  expected : List Nat
  recent : List (Nat × Time)
  window : Nat
  timeout : Nat
  waitTimer : Timer
  waitStart : Time
  waitSpent : Nat
  hits : Nat
  misses : Nat
  wrong : Nat
  carry : Frac
  tickLeft : Timer
  cueLeft : Nat
  resume : Option Saved
  deriving DecidableEq, Repr

/-! ### Link (11) -/

/-- A request frame that passed its CRC (R183): class byte, kind, tag and payload. -/
structure Frame where
  cls : Byte
  kind : Byte
  tag : Byte
  payload : List Byte
  deriving DecidableEq, Repr

/-- Reply status codes (R186). -/
inductive Status
  | ok | applied | staged | busy | refusedState | badArgument | badTag | badLength | unknownKind | notFound | pinned
  | storeFull | badSequence | takeInvalid | notHomed | faulted | noSoundSet
  deriving DecidableEq, Repr

/-- Why the setup fell back to the defaults (R191). -/
inductive FallbackReason | noArea | signature | length | crc | content
  deriving DecidableEq, Repr

/-- The setup source of a full start-up (R191). -/
inductive SetupSource | strap | stored | fallback (why : FallbackReason)
  deriving DecidableEq, Repr

/-- Why the player changed state (R161). -/
inductive PlayReason | started | resumed | cued | paused | continued | ended | stopped | suspended
  deriving DecidableEq, Repr

/-- How a wait ended (R176). -/
inductive WaitEnd | allStruck | timeout
  deriving DecidableEq, Repr

/-- Why the recorder changed state (R154). -/
inductive RecReason | firstKey | stopped | storeFull
  deriving DecidableEq, Repr

/-- The READY notice (R192): `retained` after a warm reset, then the source of the latest full start-up. -/
structure ReadyNotice where
  retained : Bool
  source : Option SetupSource
  status : SetStatus
  header : Option (Nat × Nat)
  failure : Option (LoadFailure × Option Nat)
  deriving DecidableEq, Repr

/-- Notices that use the notice queue (R187), each with its content. -/
inductive Notice
  | keyFault (key : Nat) (keyRaw hammerRaw : Option Nat)
  | pedalFault (pedal : Pedal) (raw : Nat)
  | railState (state : RailState) (reason : RailReason) (position : Option Nat)
      (motion : Option (MotionKind × Option RailTarget × Bool))
  | soundSet (status : SetStatus) (header : Option (Nat × Nat × Nat)) (failure : Option (LoadFailure × Option Nat))
  | plug (state : PlugState) (line detect : Bool)
  | mute (active : Bool) (mode : MuteMode) (line latched : Bool)
  | playerState (state : PlayerState) (reason : PlayReason) (take : Option Nat) (clock : Nat) (mark : Option Nat)
      (repeats : Repeats)
  | playerMark (number time : Nat) (repeats : Repeats)
  | waitResult (take : Option Nat) (clock : Nat) (mark : Option Nat) (hits misses wrong duration : Nat) (how : WaitEnd)
  | recorderState (state : RecState) (take : Nat) (reason : RecReason) (count duration : Nat) (truncated : Bool)
  deriving DecidableEq, Repr

/-- KEY_QUERY's content (R25). -/
structure KeyReport where
  state : KeyState
  hammer : HammerState
  mode : Mode
  scale : Scale
  keyDepth : Nat
  hammerDepth : Nat
  keyFaults : Nat
  hammerFaults : Nat
  cal : CalRecord
  staged : Option CalRecord
  adopting : Bool
  flight : Option Flight
  deriving DecidableEq, Repr

/-- SCAN_QUERY's content (R25). -/
structure ScanReport where
  thr : Thresholds
  hammerCurve : List CurvePoint
  keyCurve : List CurvePoint
  target : Mode
  settleLeft : Nat
  capturing : Bool
  waiting : Nat
  flights : List (Nat × Flight)
  deriving DecidableEq, Repr

/-- ROUTE_QUERY's content (R50). -/
structure RouteReport where
  monitor : Bool
  split : Nat
  streaming : Bool
  railState : RailState
  soundGate : Bool
  recorderGate : Bool
  matcherGate : Bool
  packerGate : Bool
  voiceGate : Bool
  deriving DecidableEq, Repr

/-- RAIL_QUERY's content (R71). -/
structure RailReport where
  state : RailState
  position : Option Nat
  drive : Drive
  duty : Option Nat
  occupied : Bool
  index : Bool
  acousticSwitch : Bool
  silentSwitch : Bool
  motion : Option Motion
  phase : Option HomingPhase
  lastFault : Option RailFault
  config : RailConfig
  deriving DecidableEq, Repr

/-- The number of a source's voices in each state (R91). -/
structure PhaseCounts where
  starting : Nat
  sounding : Nat
  damped : Nat
  fading : Nat
  deriving DecidableEq, Repr

/-- VOICE_QUERY's content (R91). -/
structure VoiceSummary where
  limit : Nat
  priority : Priority
  counter : BitVec 32
  counted : Nat
  live : PhaseCounts
  playback : PhaseCounts
  free : Nat
  deriving DecidableEq, Repr

/-- The states of a voice record (R74). -/
inductive VoiceState | free | starting | sounding | damped | fading
  deriving DecidableEq, Repr

/-- One record of VOICE_READ (R91): the fields of R74 that the state holds, a DAMPED voice's release attenuation in whole
0.5 dB steps, and whether a released SOUNDING voice is held. -/
structure VoiceReport where
  state : VoiceState
  source : Option Source
  key : Option Nat
  velocity : Option Nat
  zone : Option Nat
  gain : Option Nat
  released : Option Bool
  seq : Option (BitVec 32)
  releaseTime : Option Nat
  attSteps : Option Nat
  fadeBlocks : Option Nat
  held : Option Bool
  deriving DecidableEq, Repr

/-- SOUNDSET_QUERY's content (R108). -/
structure SetReport where
  status : SetStatus
  header : Option SetHeader
  failure : Option (LoadFailure × Option Nat)
  primes : Nat
  refills : Nat
  inFlight : Option (Nat × FetchClass × Nat)
  deriving DecidableEq, Repr

/-- STREAM_READ's content (R108); halves give fill state and segment, the segment absent in EMPTY. -/
structure StreamReport where
  serves : Option Serves
  pos : Option Nat
  a : Fill × Option Nat
  b : Fill × Option Nat
  waiting : Option (FetchClass × Nat)
  inFlight : Bool
  deriving DecidableEq, Repr

/-- MIX_QUERY's content (R122). -/
structure MixReport where
  settings : GainPath
  width : Nat
  plugDetect : Bool
  muteMode : MuteMode
  plug : PlugState
  plugLine : Bool
  plugLeft : Nat
  muteLine : Bool
  latched : Bool
  muteActive : Bool
  silent : Bool
  rampBlock : Bool
  silenceRamp : Bool
  deriving DecidableEq, Repr

/-- The state of a directory entry as TAKE_LIST codes it (R137). -/
inductive TakeState | empty | recording | loading | closed
  deriving DecidableEq, Repr

/-- One summary of TAKE_LIST (R137); an EMPTY entry has no origin. -/
structure TakeSummary where
  state : TakeState
  origin : Option TakeOrigin
  truncated : Bool
  pins : Nat
  blocks : Nat
  duration : Nat
  deriving DecidableEq, Repr

/-- TAKE_INFO's content (R137). -/
structure TakeReport where
  state : TakeState
  name : Option (List Byte)
  origin : TakeOrigin
  truncated : Bool
  blocks : Nat
  count : Nat
  duration : Nat
  marks : Nat
  holders : Holders
  pins : Nat
  received : Option Nat
  reserveBeyond : Option Nat
  deriving DecidableEq, Repr

/-- REC_QUERY's content (R155). -/
structure RecReport where
  state : RecState
  take : Option Nat
  clock : Nat
  last : Nat
  writePos : Nat
  reserve : Nat
  opens : List (Nat × Hand)
  deriving DecidableEq, Repr

/-- STREAM_QUERY's content (R159). -/
structure PackReport where
  enabled : Bool
  mode : PackMode
  perPacket : Nat
  hold : Nat
  held : Nat
  queued : Nat
  openCount : Nat
  ready : Bool
  backlog : Nat
  gap : Nat
  timeLeft : Nat
  deriving DecidableEq, Repr

/-- PLAYER_QUERY's content (R180). -/
structure PlayReport where
  state : PlayerState
  take : Option Nat
  pos : Nat
  clock : Nat
  tickStart : Nat
  tempo : Nat
  staged : Option Nat
  halt : Option Halt
  fromMark : Option Nat
  toMark : Option Nat
  repeats : Repeats
  parts : Parts
  reportMarks : Bool
  mark : Option Nat
  context : PedalContext
  openNotes : List Nat
  waitPending : Bool
  expected : List Nat
  recent : List (Nat × Time)
  window : Nat
  timeout : Nat
  waitLeft : Nat
  hits : Nat
  misses : Nat
  wrong : Nat
  slotA : Option (Nat × Nat)
  slotB : Option (Nat × Nat)
  deriving DecidableEq, Repr

/-- The transfer kinds (section 8.8). -/
inductive TransferKind | none | upload | download
  deriving DecidableEq, Repr

/-- STATUS's content (R189). -/
structure StatusReport where
  ready : Bool
  requests : Nat
  notices : Nat
  rail : RailState
  position : Option Nat
  faultedKeys : Nat
  damperFaulted : Bool
  sostenutoFaulted : Bool
  softFaulted : Bool
  setStatus : SetStatus
  counted : Nat
  limit : Nat
  plug : PlugState
  muteActive : Bool
  freeBlocks : Nat
  transfer : TransferKind
  recorder : RecState
  recTake : Option Nat
  player : PlayerState
  playTake : Option Nat
  slotA : Bool
  slotB : Bool
  streamEvents : Nat
  deriving DecidableEq, Repr

/-- IDENTIFY's content (R189). -/
structure Identity where
  part : String
  revision : Byte
  keys : Nat
  voices : Nat
  limit : Nat
  zones : Nat
  blocks : Nat
  blockBytes : Nat
  takes : Nat
  slots : Nat
  expected : Nat
  streamEvents : Nat
  requests : Nat
  notices : Nat
  payload : Nat
  deriving DecidableEq, Repr

/-- What a reply carries after its status byte. -/
inductive Content
  | nothing
  | count (n : Nat)
  | captureCounts (updated applied staged : Nat)
  | key (r : KeyReport)
  | scan (r : ScanReport)
  | pedals (damper sostenuto soft : PedalUnit) (context : PedalContext)
  | route (r : RouteReport)
  | rail (r : RailReport)
  | voices (r : VoiceSummary)
  | voiceRecords (rs : List VoiceReport)
  | soundSet (r : SetReport)
  | zones (zs : List Zone)
  | stream (r : StreamReport)
  | mix (r : MixReport)
  | takeList (ts : List TakeSummary) (free : Nat) (transfer : Transfer)
  | take (r : TakeReport)
  | takeClosed (blocks count duration marks : Nat)
  | takeInvalid (reason : InvalidReason) (pos : Nat) (key : Option Nat)
  | downloadOpened (blocks count duration : Nat)
  | block (index : Nat) (data : List Byte) (remaining : Nat)
  | recStarted (take : Nat) (arm : ArmMode)
  | markTime (time : Nat)
  | recClosed (take count duration : Nat) (truncated : Bool)
  | recorder (r : RecReport)
  | packer (r : PackReport)
  | tempo (tempo : Nat) (staged : Option Nat)
  | player (r : PlayReport)
  | status (r : StatusReport)
  | identity (r : Identity)
  | stats (counters : List Tally)
  deriving DecidableEq, Repr

/-- A reply (R186): the kind and tag of the request it answers, its status and its content. -/
structure Reply where
  kind : Byte
  tag : Byte
  status : Status
  content : Content
  deriving DecidableEq, Repr

/-- The reply place holding one reply (R186): how many of its frames have begun, and how many it has. -/
structure ReplyPlace where
  reply : Reply
  begun : Nat
  parts : Nat
  deriving DecidableEq, Repr

/-- A frame of the transmit arbiter (R188). A stream frame carries its gap count (R158). -/
inductive TxFrame
  | ready (n : ReadyNotice)
  | reply (r : Reply) (part parts : Nat)
  | notice (n : Notice)
  | stream (gap : Nat) (events : List LiveEvent)
  deriving DecidableEq, Repr

/-- The phase of a start-up (R191; model's own): loading the sound set (in a full or a warm start-up), the setup, or
over. -/
inductive StartPhase | loading (full : Bool) | setup | over
  deriving DecidableEq, Repr

/-- Between RESTART and the warm reset (R193; model's own). -/
inductive RestartPhase | none | replying | replied
  deriving DecidableEq, Repr

/-- The Link Controller (11). The framer is in FRAME exactly while `rxFrame` is present. -/
structure Link where
  ready : Bool
  start : StartPhase
  rxFrame : Option (List Byte)
  rxLast : Time
  requests : List Frame
  reply : Option ReplyPlace
  notices : List Notice
  readyPlace : Option ReadyNotice
  tx : Option TxFrame
  restart : RestartPhase
  source : Option SetupSource
  deriving DecidableEq, Repr

/-! ### Request kinds (R183, R185; model's own) -/

/-- The requests of the thirteen chapters' tables: what a kind byte can name. -/
inductive Request
  | calSet | threshSet | curveSet | faultClear | captureBegin | captureEnd | captureCancel | keyQuery | scanQuery
  | pedalCal | pedalMode | pedalQuery | routeSet | routeQuery
  | railMove | railHome | railStop | railConfig | railQuery
  | polySet | soundOff | voiceQuery | voiceRead | soundsetReload | soundsetQuery | zoneRead | streamRead
  | volumeSet | mixSet | hpConfig | unmute | mixQuery
  | takeList | takeInfo | takeRename | takeDelete | uploadOpen | uploadBlock | downloadOpen | downloadBlock | transferAbort
  | recStart | recMark | recPause | recResume | recStop | recQuery | streamConfig | streamQuery
  | playStart | playStop | playPause | playContinue | playTempo | playParts | waitConfig | playSuspend | playResume
  | slotDiscard | playerQuery
  | status | identify | statsRead | restart
  deriving DecidableEq, Repr

/-- A kind the part knows: its code, the request it names, and the payload lengths it allows. The spec gives no kind codes
and few lengths: the table is a free value that State holds (log 36). -/
structure KindRow where
  code : Byte
  request : Request
  lengths : List Nat
  deriving DecidableEq, Repr

/-- The levels of the part's logical inputs (00, Signal summary). -/
structure Pins where
  plug : Bool
  mute : Bool
  index : Bool
  acousticSwitch : Bool
  silentSwitch : Bool
  strap : Bool
  deriving DecidableEq, Repr

/-- The 27 statistics counters in the order of R190; velocity band 0 is 1 to 16. -/
inductive Counter
  | band (i : Fin 8)
  | keyOnlyStrikes | repetitions | silentPresses | keyFaults | pedalFaults
  | railMoves | railFaults
  | voiceSteals | notesDropped | fetchUnderruns | mixerClips
  | waitHits | waitMisses | waitWrong
  | streamDrops
  | linkCrc | linkTruncated | linkOverrun | noticesLost
  deriving DecidableEq, Repr

/-- The whole part, its inputs, the sound memory beside it, the commands that wait, and the request kinds the part knows
(model's own: a free value, log 36). -/
structure State where
  clock : Time
  scanner : Scanner
  pedals : Pedals
  router : Router
  rail : Rail
  voices : Voices
  fetch : Fetch
  mixer : Mixer
  store : Store
  recorder : Recorder
  packer : Packer
  player : Player
  link : Link
  stats : List Tally
  pins : Pins
  soundMem : Memory
  pending : List Instr
  kinds : List KindRow
  deriving DecidableEq, Repr

/-- Reasons for which the part stops. None: no command of the table stops it (R186: a refused request is answered and
the part goes on), so no step of this model raises a fault. -/
inductive Fault
  /-- Raised by nobody: the type must not be empty for a reader who writes a faulting outcome. Safe. -/
  | stopped
  deriving DecidableEq, Repr

/-- Reasons for which the model gives a command no meaning. -/
inductive Refusal
  /-- A command whose arm has no meaning yet, by its mnemonic. Raised by no arm. Safe. -/
  | notModelled (mnemonic : String)
  deriving DecidableEq, Repr

/-! ### The built-in defaults -/

/-- R4: the built-in default calibration record. -/
def defaultCal : CalRecord :=
  { keyRest := 400, keyBottom := 3600, hammerRest := 300, hammerTop := 3800, hammerStopped := none, trim := 0, enabled := true }

/-- R7: the built-in default threshold set. -/
def defaultThr : Thresholds :=
  { rest := 40, start := 60, damper := 350, rearm := 700, kA := 700, kB := 950, hRest := 30, freeA := 500, freeB := 880,
    stoppedA := 450, stoppedB := 760 }

/-- The velocities of both built-in default curves (R17). -/
def defaultVelocities : List Nat := [127, 118, 108, 98, 89, 80, 71, 63, 55, 47, 39, 31, 23, 16, 9, 1]

/-- R17: the built-in default hammer curve. -/
def defaultHammerCurve : List CurvePoint :=
  List.zipWith CurvePoint.mk
    [400, 600, 850, 1200, 1600, 2100, 2700, 3400, 4300, 5400, 6800, 8600, 11000, 14500, 19500, 27000] defaultVelocities

/-- R17: the built-in default key-only curve. -/
def defaultKeyCurve : List CurvePoint :=
  List.zipWith CurvePoint.mk
    [1000, 1400, 1900, 2500, 3200, 4000, 5000, 6200, 7700, 9500, 11800, 14700, 18500, 23500, 30000, 40000] defaultVelocities

/-- R56: the built-in default rail configuration. -/
def defaultRailConfig : RailConfig :=
  { acoustic := 1040, silent := 2600, moveDuty := 60, homingDuty := 25, travelLimit := 2500, settle := 100, autoHome := true }

/-- A key after a full reset under a calibration record and a threshold set (R26). -/
def Key.fresh (cal : CalRecord) (thr : Thresholds) : Key :=
  { cal, staged := none, thr, mode := .keyOnly, scale := .free, state := .rest, aTimeKey := none, aTimeHammer := none,
    returns := 0, flight := none, keyGood := none, hammerGood := none, keyDepth := 0, hammerDepth := 0, keyFaults := 0,
    hammerFaults := 0, quality := .hammer, capture := none }

/-- R26: the scanner after a full reset, the setup not yet taken. -/
def Scanner.reset : Scanner :=
  { keys := List.replicate 88 (Key.fresh defaultCal defaultThr), thr := defaultThr, hammerCurve := defaultHammerCurve,
    keyCurve := defaultKeyCurve, target := .keyOnly, settle := none, capturing := false }

/-- A cleared pedal context: damper level 0, sostenuto UP, soft level 0, empty set (R39, R181). -/
def PedalContext.clear : PedalContext := { damper := 0, sostenuto := false, soft := 0, set := [] }

/-- R39: a pedal after a full reset under the built-in defaults of R29 and R30. -/
def PedalUnit.fresh (mode : PedalMode) : PedalUnit :=
  { restRaw := 600, fullRaw := 3000, mode, deadBand := 2, depth := 0, good := none, switchDown := false, last := 0,
    faults := 0, faulted := false }

/-- R39: the Pedal Unit after a full reset. -/
def Pedals.reset : Pedals :=
  { damper := PedalUnit.fresh .level, sostenuto := PedalUnit.fresh .switch, soft := PedalUnit.fresh .level,
    context := PedalContext.clear }

/-- R51: the Event Router after a full reset. -/
def Router.reset : Router :=
  { monitor := false, split := 39, streaming := false, railState := .unhomed, passage := none }

/-- R72: the Rail Controller after a full reset. -/
def Rail.reset : Rail :=
  { state := .unhomed, position := none, drive := .coast, duty := 0, motion := none, phase := none, occupied := false,
    lastFault := none, config := defaultRailConfig, autoHomeDue := false, faultNow := false }

/-- R92: the Voice Engine after a full reset. -/
def Voices.reset : Voices := { table := List.replicate 80 none, limit := 64, priority := .liveFirst, counter := 0 }

/-- An EMPTY half. -/
def Half.empty : Half := { fill := .empty, segment := 0, data := [] }

/-- R109: a stream buffer after a full reset. -/
def StreamBuf.reset : StreamBuf := { a := Half.empty, b := Half.empty, pos := none, serves := none, due := false }

/-- R109: the Sample Fetch Unit after a full reset, its start-up load begun. -/
def Fetch.reset : Fetch :=
  { status := .loading, header := none, failure := none, zones := [], bufs := List.replicate 80 StreamBuf.reset,
    queue := [], port := some .load }

/-- R123: the gain path after a full reset. -/
def GainPath.reset : GainPath := { master := .code 60, liveTrim := 0, playTrim := 0, source := .both, channel := .stereo }

/-- R123: the Headphone Mixer after a full reset. -/
def Mixer.reset : Mixer :=
  { settings := GainPath.reset, inForce := GainPath.reset, ramp := .none, width := 24, widthInForce := 24,
    silenceFlag := true, silentOut := true, plugDetect := true, plug := .settling, plugTimer := some 50000,
    muteMode := .level, latched := false, frameInBlock := 0, port := { left := 0, right := 0 } }

/-- R144: the Take Store after a full reset. -/
def Store.reset : Store :=
  { takes := List.replicate 32 none, pool := List.range 2048, mem := [], transfer := .none }

/-- R155: the Recorder after a full reset. -/
def Recorder.reset : Recorder := { state := .idle, take := none, clock := 0, last := 0, opens := [], left := 0 }

/-- R160: the Stream Packer after a full reset. -/
def Packer.reset : Packer :=
  { enabled := false, mode := .packed, perPacket := 16, hold := 4, queue := [], openPacket := [], ready := false,
    backlog := [], timer := none, gap := 0 }

/-- R181: the Practice Player after a full reset. -/
def Player.reset : Player :=
  { state := .idle, take := none, pos := 0, clock := 0, tickStart := 0, tempo := 100, staged := none, fromMark := none,
    toMark := none, loopPos := 0, loopTime := 0, repeats := .times 0, parts := { left := .sound, right := .sound, noHand := .sound },
    reportMarks := false, mark := none, halt := none, snapshot := { damper := 0, sostenuto := false, soft := 0 },
    context := PedalContext.clear, openNotes := [], waitPending := false, slotA := none, slotB := none, expected := [],
    recent := [], window := 120, timeout := 0, waitTimer := none, waitStart := 0, waitSpent := 0, hits := 0, misses := 0,
    wrong := 0, carry := { num := 0, den := 1 }, tickLeft := none, cueLeft := 0, resume := none }

/-- R193: the Link Controller after a full reset. -/
def Link.reset : Link :=
  { ready := false, start := .loading true, rxFrame := none, rxLast := 0, requests := [], reply := none, notices := [],
    readyPlace := none, tx := none, restart := .none, source := none }

/-- Every request, in the order of the chapters. -/
def allRequests : List Request :=
  [.calSet, .threshSet, .curveSet, .faultClear, .captureBegin, .captureEnd, .captureCancel, .keyQuery, .scanQuery,
   .pedalCal, .pedalMode, .pedalQuery, .routeSet, .routeQuery,
   .railMove, .railHome, .railStop, .railConfig, .railQuery,
   .polySet, .soundOff, .voiceQuery, .voiceRead, .soundsetReload, .soundsetQuery, .zoneRead, .streamRead,
   .volumeSet, .mixSet, .hpConfig, .unmute, .mixQuery]
  ++ [.takeList, .takeInfo, .takeRename, .takeDelete, .uploadOpen, .uploadBlock, .downloadOpen, .downloadBlock,
   .transferAbort,
   .recStart, .recMark, .recPause, .recResume, .recStop, .recQuery, .streamConfig, .streamQuery,
   .playStart, .playStop, .playPause, .playContinue, .playTempo, .playParts, .waitConfig, .playSuspend, .playResume,
   .slotDiscard, .playerQuery,
   .status, .identify, .statsRead, .restart]

/-- The payload length of a request where the spec gives it: 0 for a request without arguments, 13 for CAL_SET, whose
calibration record of 12 bytes follows its key index (11, Formats). -/
def Request.fixedLength : Request → Option Nat
  | .captureBegin | .captureEnd | .captureCancel | .scanQuery | .pedalQuery | .routeQuery | .railHome | .railStop
  | .railQuery | .voiceQuery | .soundsetReload | .soundsetQuery | .unmute | .mixQuery | .takeList | .downloadBlock
  | .transferAbort | .recPause | .recResume | .recStop | .recQuery | .streamQuery | .playContinue | .playerQuery
  | .status | .identify | .restart => some 0
  | .calSet => some 13
  | _ => none

/-- The payload lengths a kind allows in the reset value of the table: the one the spec gives, or every length a frame can
have (DESIGN CHOICE, log 36). -/
def Request.lengths (r : Request) : List Nat :=
  match r.fixedLength with
  | some n => [n]
  | none => List.range 241

/-- Rows with the codes from `n` on. -/
def kindRows : Nat → List Request → List KindRow
  | _, [] => []
  | n, r :: rs => { code := BitVec.ofNat 8 n, request := r, lengths := r.lengths } :: kindRows (n + 1) rs

/-- The reset value of the table of kinds: codes from 0 in the order of the chapters (DESIGN CHOICE, log 36). -/
def resetKinds : List KindRow := kindRows 0 allRequests

/-- Input levels before anything is known of them (DESIGN CHOICE, log 15). -/
def Pins.reset : Pins :=
  { plug := false, mute := false, index := false, acousticSwitch := false, silentSwitch := false, strap := false }

/-- The machine right after a full reset, the start-up load of the sound set under way (R191). -/
def State.reset : State :=
  { clock := 0, scanner := Scanner.reset, pedals := Pedals.reset, router := Router.reset, rail := Rail.reset,
    voices := Voices.reset, fetch := Fetch.reset, mixer := Mixer.reset, store := Store.reset, recorder := Recorder.reset,
    packer := Packer.reset, player := Player.reset, link := Link.reset, stats := List.replicate 27 0, pins := Pins.reset,
    soundMem := [], pending := [], kinds := resetKinds }

end Sys2Proof.Machine
end

