-- ==== Sys2Proof/Machine/Ops.lean ====
section
/-! DEFINITION. Named operations every block shares: list places, key sets, memory, the passing of time, statistics and
notices. -/

namespace Sys2Proof.Machine

/-! ### Lists -/

/-- Apply `f` at place `n` of a list; nothing past its end. -/
def updateAt {α : Type} (f : α → α) : Nat → List α → List α
  | _, [] => []
  | 0, a :: as => f a :: as
  | n + 1, a :: as => a :: updateAt f n as

/-- Insert into a list of numbers in ascending order without duplicates. -/
def insertNat (n : Nat) : List Nat → List Nat
  | [] => [n]
  | a :: as => if n < a then n :: a :: as else if n = a then a :: as else a :: insertNat n as

/-- Insert several. -/
def insertAll (ns xs : List Nat) : List Nat := ns.foldl (fun acc n => insertNat n acc) xs

/-- Remove a number. -/
def removeNat (n : Nat) (xs : List Nat) : List Nat := xs.filter (· != n)

/-- The first place whose element satisfies `p`. -/
def placeOf {α : Type} (p : α → Bool) : List α → Option Nat
  | [] => none
  | a :: as => if p a then some 0 else (placeOf p as).map (· + 1)

/-! ### Memory -/

/-- Canonical form: addresses strictly rise and no cell holds what an unlisted address reads as. -/
def Memory.wf (d : Byte) : Memory → Bool
  | [] => true
  | [c] => c.2 != d
  | c :: c' :: m => c.2 != d && c.1 < c'.1 && Memory.wf d (c' :: m)

/-- Read one byte; an unlisted address reads `d`. -/
def Memory.read (d : Byte) : Memory → Nat → Byte
  | [], _ => d
  | c :: m, a => if c.1 = a then c.2 else Memory.read d m a

/-- Write one byte, keeping the canonical form. -/
def Memory.write (d : Byte) : Memory → Nat → Byte → Memory
  | [], a, b => if b = d then [] else [(a, b)]
  | c :: m, a, b =>
    if a < c.1 then (if b = d then c :: m else (a, b) :: c :: m)
    else if a = c.1 then (if b = d then m else (a, b) :: m)
    else c :: Memory.write d m a b

/-- Write bytes at rising addresses. -/
def Memory.writeAll (d : Byte) : Memory → Nat → List Byte → Memory
  | m, _, [] => m
  | m, a, b :: bs => Memory.writeAll d (Memory.write d m a b) (a + 1) bs

/-- Read `n` bytes at rising addresses. -/
def Memory.readAll (d : Byte) (m : Memory) (a : Nat) : Nat → List Byte
  | 0 => []
  | n + 1 => Memory.read d m a :: Memory.readAll d m (a + 1) n

/-- What a byte of the sound memory that nothing lists reads as: an erased flash (DESIGN CHOICE, log 21). -/
def flashByte : Byte := 0xFF

/-- What a byte of the take store that nothing has written reads as (DESIGN CHOICE, log 22). -/
def storeByte : Byte := 0

/-- A number stored least significant byte first (06, section 6.1; 11, Formats). -/
def leNat : List Byte → Nat
  | [] => 0
  | b :: bs => b.toNat + 256 * leNat bs

/-- `n` bytes of a number, least significant first. -/
def leBytes : Nat → Nat → List Byte
  | 0, _ => []
  | n + 1, v => BitVec.ofNat 8 v :: leBytes n (v / 256)

/-- A number of `n` bytes of the sound memory. -/
def State.flashNat (s : State) (a n : Nat) : Nat := leNat (Memory.readAll flashByte s.soundMem a n)

/-! ### Arithmetic -/

/-- `n / d` to the nearest whole number, halves rounded up (R3, R16). -/
def roundDiv (n d : Nat) : Nat := (2 * n + d) / (2 * d)

/-- The distance between two numbers. -/
def dist (a b : Nat) : Nat := (a - b) + (b - a)

/-! ### Time -/

/-- A timer after `dt` µs: it stops falling at 0, where its expiry is due. -/
def Timer.after (dt : Nat) (x : Timer) : Timer := x.map (· - dt)

/-- A timer whose time has come. -/
def Timer.due (x : Timer) : Bool := x == some 0

/-- The time left on a timer, 0 when none runs. -/
def Timer.left (x : Timer) : Nat := x.getD 0

/-- A timer of `ms` milliseconds, none for 0 (R8, R156, R175: a time of 0 starts no timer). -/
def Timer.ofMs (ms : Nat) : Timer := if ms = 0 then none else some (ms * 1000)

/-- The motor is driven (R52). -/
def Rail.driven (r : Rail) : Bool := r.drive == .forward || r.drive == .reverse

/-- R57: driven time grows while the motor is driven and stands still otherwise. The moment of a STALL or TIMEOUT ends as soon
as any time passes (R67, log 18). -/
def Rail.elapse (dt : Nat) (r : Rail) : Rail :=
  { r with
    motion := if r.driven then r.motion.map fun m => { m with driven := m.driven + dt } else r.motion
    faultNow := r.faultNow && dt == 0 }

/-- The player's times: the tick interval, the cue's reading, the wait timer, and the time spent in WAITING. -/
def Player.elapse (dt : Nat) (p : Player) : Player :=
  { p with
    tickLeft := Timer.after dt p.tickLeft
    cueLeft := p.cueLeft - dt
    waitTimer := Timer.after dt p.waitTimer
    waitSpent := if p.state = .waiting then p.waitSpent + dt else p.waitSpent }

/-- `dt` µs pass: the part clock rises and every running timer falls. Nothing else happens by itself; what is due at an
expiry is a command of the table (log 1). -/
def State.elapse (dt : Nat) (s : State) : State :=
  { s with
    clock := s.clock + BitVec.ofNat 32 dt
    scanner := { s.scanner with settle := Timer.after dt s.scanner.settle }
    rail := s.rail.elapse dt
    mixer := { s.mixer with plugTimer := Timer.after dt s.mixer.plugTimer }
    recorder := { s.recorder with left := s.recorder.left - dt }
    packer := { s.packer with timer := Timer.after dt s.packer.timer }
    player := s.player.elapse dt }

/-- The state at part-clock time `t`, the next moment the clock reads `t` (log 1). -/
def State.upTo (t : Time) (s : State) : State := s.elapse (since s.clock t)

/-! ### Statistics and notices -/

/-- A counter's place in the order of R190. -/
def Counter.place : Counter → Nat
  | .band i => i.val
  | .keyOnlyStrikes => 8 | .repetitions => 9 | .silentPresses => 10 | .keyFaults => 11 | .pedalFaults => 12
  | .railMoves => 13 | .railFaults => 14
  | .voiceSteals => 15 | .notesDropped => 16 | .fetchUnderruns => 17 | .mixerClips => 18
  | .waitHits => 19 | .waitMisses => 20 | .waitWrong => 21
  | .streamDrops => 22
  | .linkCrc => 23 | .linkTruncated => 24 | .linkOverrun => 25 | .noticesLost => 26

/-- A counter's value. -/
def State.stat (s : State) (c : Counter) : Tally := s.stats.getD c.place 0

/-- "Counts": adds one to a counter, which rolls over (R190). -/
def State.tally (c : Counter) (s : State) : State := { s with stats := updateAt (· + 1) c.place s.stats }

/-- Count `n` times. -/
def State.tallyN (c : Counter) : Nat → State → State
  | 0, s => s
  | n + 1, s => State.tallyN c n (s.tally c)

/-- R187: a notice joins the tail of the notice queue, or is discarded with NOTICES_LOST when 16 are queued. -/
def State.notify (n : Notice) (s : State) : State :=
  if s.link.notices.length < 16 then { s with link := { s.link with notices := s.link.notices ++ [n] } }
  else s.tally .noticesLost

/-! ### Places of the state -/

/-- Key `i` of the scanner. -/
def State.key? (s : State) (i : Nat) : Option Key := s.scanner.keys[i]?

/-- Replace key `i`. -/
def State.setKey (i : Nat) (k : Key) (s : State) : State :=
  { s with scanner := { s.scanner with keys := updateAt (fun _ => k) i s.scanner.keys } }

/-- Directory entry of take id `id` (ids 1 to 32, R125): none when the id is EMPTY or names no entry. -/
def Store.take? (st : Store) (id : Nat) : Option Take := if id = 0 then none else (st.takes[id - 1]?).join

/-- Replace the directory entry of take id `id`. -/
def Store.setTake (id : Nat) (x : Option Take) (st : Store) : Store :=
  { st with takes := updateAt (fun _ => x) (id - 1) st.takes }

/-- The voice of an entry, none when it is FREE. -/
def Voices.voice? (v : Voices) (i : Nat) : Option Voice := (v.table[i]?).join

/-- Replace a voice entry. -/
def Voices.setVoice (i : Nat) (x : Option Voice) (v : Voices) : Voices :=
  { v with table := updateAt (fun _ => x) i v.table }

/-- The stream buffer of a voice entry. -/
def Fetch.buf (f : Fetch) (i : Nat) : StreamBuf := f.bufs.getD i StreamBuf.reset

/-- Replace a stream buffer. -/
def Fetch.setBuf (i : Nat) (b : StreamBuf) (f : Fetch) : Fetch := { f with bufs := updateAt (fun _ => b) i f.bufs }

/-- One pedal's state. -/
def Pedals.unit (p : Pedals) : Pedal → PedalUnit
  | .damper => p.damper
  | .sostenuto => p.sostenuto
  | .soft => p.soft

/-- Replace one pedal's state. -/
def Pedals.setUnit (q : Pedal) (u : PedalUnit) (p : Pedals) : Pedals :=
  match q with
  | .damper => { p with damper := u }
  | .sostenuto => { p with sostenuto := u }
  | .soft => { p with soft := u }

/-- Every pending command but `c` unchanged: put `c` in front of the queue. -/
def State.queueFront (c : Instr) (s : State) : State := { s with pending := c :: s.pending }

end Sys2Proof.Machine
end

