-- ==== Sys2Proof/Machine/Operands.lean ====
section
/-! DEFINITION. The checks of request arguments: which values each request takes, rule by rule. A request whose check
fails is refused with BAD_ARGUMENT. The setup area's contents pass the same checks (R191). -/

namespace Sys2Proof.Machine

/-- A number in a range inclusive at both ends (00, Numbering and units). -/
def inRange (lo hi n : Nat) : Bool := lo ≤ n && n ≤ hi

/-- A key index (00). -/
def keyOk (k : Nat) : Bool := k < 88

/-- A take id (R125). -/
def takeIdOk (id : Nat) : Bool := inRange 1 32 id

/-- A name: at most 16 characters, each 20h to 7Eh; 0 characters leave the name absent (R125). -/
def nameOk (n : List Byte) : Bool := n.length ≤ 16 && n.all fun c => inRange 0x20 0x7E c.toNat

/-- The name a request gives: absent for 0 characters. -/
def nameOf (n : List Byte) : Option (List Byte) := if n = [] then none else some n

/-- R4: a stopped top, when present, differs from the hammer rest raw and lies on the same side of it as the free top. -/
def stoppedOk (rest top : Nat) : Option Nat → Bool
  | none => true
  | some x => (rest < top && rest < x) || (top < rest && x < rest)

/-- R4: the Values and Check columns of a calibration record. -/
def calOk (r : CalRecord) : Bool :=
  r.keyRest ≤ 4095 && r.keyBottom ≤ 4095 && r.hammerRest ≤ 4095 && r.hammerTop ≤ 4095
    && (r.hammerStopped.all (· ≤ 4095))
    && (r.keyRest != r.keyBottom) && (r.hammerRest != r.hammerTop)
    && stoppedOk r.hammerRest r.hammerTop r.hammerStopped
    && decide (-16 ≤ r.trim) && decide (r.trim ≤ 15)

/-- R7: the orderings a threshold set satisfies. -/
def thrOk (x : Thresholds) : Bool :=
  (0 < x.rest && x.rest < x.start && x.start < x.damper && x.damper < x.rearm)
    && (x.rearm ≤ x.kA && x.kA < x.kB && x.kB ≤ 1000)
    && (x.hRest < x.freeA && x.freeA < x.freeB && x.freeB ≤ 1000)
    && (x.hRest < x.stoppedA && x.stoppedA < x.stoppedB && x.stoppedB ≤ 1000)

/-- Times strictly increasing (R16). -/
def risingTimes : List CurvePoint → Bool
  | [] => true
  | [_] => true
  | p :: q :: ps => p.time < q.time && risingTimes (q :: ps)

/-- R17: the points of a curve. -/
def curveOk (ps : List CurvePoint) : Bool :=
  ps.all (fun p => inRange 1 1000000 p.time && inRange 1 127 p.velocity) && risingTimes ps

/-- R29: a pedal's rest and full raws. -/
def pedalCalOk (rest full : Nat) : Bool := rest ≤ 4095 && full ≤ 4095 && rest != full

/-- R30: SOSTENUTO takes no LEVEL mode, and the dead band is 1 to 16. -/
def pedalModeOk (p : Pedal) (m : PedalMode) (dead : Nat) : Bool :=
  !(p == .sostenuto && m == .level) && inRange 1 16 dead

/-- R56: the seven rail settings. -/
def railConfigOk (c : RailConfig) : Bool :=
  c.acoustic ≤ 4095 && c.silent ≤ 4095 && inRange 10 100 c.moveDuty && inRange 10 100 c.homingDuty
    && inRange 500 10000 c.travelLimit && c.settle ≤ 2000 && c.acoustic + 17 ≤ c.silent

/-- R49: the split point. -/
def splitOk (n : Nat) : Bool := n ≤ 88

/-- R89: the polyphony limit. -/
def limitOk (n : Nat) : Bool := inRange 8 64 n

/-- R114: a master attenuation. -/
def masterOk : Master → Bool
  | .code n => n ≤ 191
  | .muted => true

/-- R114: a bus trim in 0.5 dB steps. -/
def trimOk (n : Nat) : Bool := n ≤ 60

/-- R121: the sample width. -/
def widthOk (n : Nat) : Bool := n == 24 || n == 16

/-- R159: the packing settings, of the ranges of 9.2's state list. -/
def packOk (events hold : Nat) : Bool := inRange 1 28 events && hold ≤ 50

/-- A mark number (R150, R162). -/
def markOk (n : Nat) : Bool := inRange 1 255 n

/-- A tempo in per cent (R162, R165). -/
def tempoOk (n : Nat) : Bool := inRange 25 200 n

/-- R177: the early window and the wait timeout. -/
def waitOk (window timeout : Nat) : Bool := window ≤ 500 && timeout ≤ 60000

/-- The parts of PLAY_START and PLAY_PARTS when all three are named (R162, R167). -/
def partsOf (a : PartsArg) : Option Parts :=
  match a.left, a.right, a.noHand with
  | some l, some r, some n => some { left := l, right := r, noHand := n }
  | _, _, _ => none

/-- The scope of SOUND_OFF holds a source (R90). -/
def scopeHolds : Scope → Source → Bool
  | .live, .live => true
  | .live, .playback => false
  | .playback, .playback => true
  | .playback, .live => false
  | .both, _ => true

end Sys2Proof.Machine
end

