-- ==== Sys2Proof/Machine/Flags.lean ====
section
/-! DEFINITION. Conditions read off the state: hammer states, the flight table, gates, counted and held voices, the mute,
the silence conditions. None of them is stored twice. -/

namespace Sys2Proof.Machine

/-! ### Sensing -/

/-- A key's hammer is IN_FLIGHT exactly while it has a flight record (R18, R19). -/
def Key.hammer (k : Key) : HammerState := if k.flight.isSome then .inFlight else .atRest

/-- Pair the elements of a list with their places, from `i`. -/
def numbered {α : Type} (i : Nat) : List α → List (Nat × α)
  | [] => []
  | a :: as => (i, a) :: numbered (i + 1) as

/-- R19: the flight table, every record in ascending key index. -/
def Scanner.flights (sc : Scanner) : List (Nat × Flight) :=
  (numbered 0 sc.keys).filterMap fun (i, k) => k.flight.map fun f => (i, f)

/-- R7: the number of keys that have not adopted the current threshold set. -/
def Scanner.waiting (sc : Scanner) : Nat := sc.keys.countP fun k => k.thr != sc.thr

/-- The keys the sostenuto pedal takes hold of: those DOWN or LIFTING, in ascending key index (R35). -/
def Scanner.heldKeys (sc : Scanner) : List Nat :=
  (numbered 0 sc.keys).filterMap fun (i, k) => if k.state = .down ∨ k.state = .lifting then some i else none

/-- The number of FAULTED keys (R189). -/
def Scanner.faultedKeys (sc : Scanner) : Nat := sc.keys.countP fun k => k.state == .faulted

/-! ### Voices -/

/-- R75: the counted states. -/
def Voice.counted (v : Voice) : Bool :=
  match v.phase with
  | .starting | .sounding | .damped _ _ => true
  | .fading _ _ _ => false

/-- R75: the counted number. -/
def Voices.counted (v : Voices) : Nat := v.table.countP fun x => x.any Voice.counted

/-- The place of the counted voice of a source and key (R75: at most one). -/
def Voices.find (v : Voices) (src : Source) (key : Nat) : Option Nat :=
  placeOf (fun x => x.any fun w => w.counted && w.source == src && w.key == key) v.table

/-- The pedal context of a source (R76). -/
def State.context (s : State) : Source → PedalContext
  | .live => s.pedals.context
  | .playback => s.player.context

/-- R80: a voice is held. -/
def PedalContext.holds (c : PedalContext) (key : Nat) : Bool := c.set.contains key || 64 ≤ c.damper

/-- R80: the release time for a damper level, in ms. -/
def releaseTime (damper : Nat) : Nat :=
  if damper ≤ 31 then 120 else if damper ≤ 63 then 120 + (damper - 31) * 60 else 4000

/-! ### Gates (03) -/

/-- R45: the live sound gate. -/
def State.soundGate (s : State) : Bool := s.router.railState == .silent || s.router.monitor

/-- R47: the Recorder's gate. -/
def State.recorderGate (s : State) : Bool := s.recorder.state == .armed || s.recorder.state == .recording

/-- R47: at least one hand is assigned PRACTICE. -/
def Parts.practises (p : Parts) : Bool := p.left == .practice || p.right == .practice || p.noHand == .practice

/-- R47: the Wait Matcher's gate. -/
def State.matcherGate (s : State) : Bool :=
  (s.player.state == .playing || s.player.state == .waiting) && s.player.parts.practises

/-- R48: the Stream Packer's gate. -/
def State.packerGate (s : State) : Bool := s.router.streaming

/-- R46: a NOTE_OFF of `key` reaches the Voice Engine. -/
def State.noteOffGate (s : State) (key : Nat) : Bool := s.soundGate || (s.voices.find .live key).isSome

/-! ### Headphone output -/

/-- R116: a mute is active. -/
def State.muteActive (s : State) : Bool :=
  match s.mixer.muteMode with
  | .level => s.pins.mute
  | .latch => s.mixer.latched

/-- R116, R117, R123, R124: a silence condition stands. Until READY the output is silent whatever else holds; that this stands
in the flag as a fourth condition is the model's form (log 56). -/
def State.silenceCondition (s : State) : Bool :=
  s.mixer.plug != .seated || s.muteActive || s.mixer.settings.source == .silence || !s.link.ready

/-- R116: the silence flag follows the conditions. A condition that begins silences the output at once and abandons any
ramp; after the last one ends the output stays silent until the next boundary. -/
def State.followSilence (s : State) : State :=
  if s.silenceCondition then
    if s.mixer.silenceFlag then s
    else { s with mixer := { s.mixer with silenceFlag := true, silentOut := true, ramp := .none } }
  else { s with mixer := { s.mixer with silenceFlag := false } }

/-! ### Take store and stream buffer -/

/-- The pin count of a take: the number of its holders (R133). -/
def Holders.count (h : Holders) : Nat :=
  h.player.toNat + h.slotA.toNat + h.slotB.toNat + h.download.toNat

/-- R156: the number of events the Stream Packer holds. -/
def Packer.held (p : Packer) : Nat := (p.queue.map List.length).sum + p.openPacket.length + p.backlog.length

/-- The packet maximum (9.2). -/
def Packer.maximum (p : Packer) : Nat := if p.mode = .single then 1 else p.perPacket

end Sys2Proof.Machine
end

