-- ==== Sys2Proof/Machine/StoreOps.lean ====
section
/-! DEFINITION. The Take Store's shared operations (08): blocks and the pool, take records and their bytes, validation, pins,
transfers, and the directory's reports. -/

namespace Sys2Proof.Machine

/-! ### Blocks (R126) -/

/-- R126: a take gets the `n` lowest blocks of the pool, which the pool loses. The pool holds at least `n`. -/
def Store.allocate (id n : Nat) (tk : Take) (st : Store) : Store :=
  { st.setTake id (some { tk with blocks := tk.blocks ++ st.pool.take n }) with pool := st.pool.drop n }

/-- R126: blocks return to the pool. -/
def Store.release (bs : List Nat) (st : Store) : Store := { st with pool := insertAll bs st.pool }

/-- A take is deleted: its blocks are released and its entry becomes EMPTY (R132, R139, R143, R145). -/
def Store.delete (id : Nat) (tk : Take) (st : Store) : Store := (st.release tk.blocks).setTake id none

/-- R132, R136: every block that lies wholly after the block of position `p` is released. -/
def Store.trim (id p : Nat) (tk : Take) (st : Store) : Store :=
  (st.release (tk.blocks.drop (p / 32 + 1))).setTake id (some { tk with blocks := tk.blocks.take (p / 32 + 1) })

/-- R126: the address of the record at position `p` of a take. -/
def Take.recordAddr (tk : Take) (p : Nat) : Nat := 128 * tk.blocks.getD (p / 32) 0 + 4 * (p % 32)

/-! ### Take records (R128; 11, Formats) -/

/-- The hand code of a hand. -/
def Hand.code : Hand → Nat
  | .left => 0
  | .right => 1
  | .none => 2

/-- The hand of a code; a code of 3 is none of them. -/
def handOf : Nat → Option Hand
  | 0 => some .left
  | 1 => some .right
  | 2 => some .none
  | _ => none

/-- The pedal's code in a take record and a stream event. -/
def pedalCode : Pedal → Nat
  | .damper => 0
  | .sostenuto => 1
  | .soft => 2

/-- The kind code of a record and its bytes 2 and 3. -/
def RecordBody.fields : RecordBody → Nat × Nat × Nat
  | .fill => (0, 0, 0)
  | .noteOn k v => (1, k, v)
  | .noteOff k => (2, k, 0)
  | .pedal p l => (3, p, l)
  | .mark n => (4, n, 0)
  | .gap a => (5, a % 256, a / 256)
  | .endTake => (6, 0, 0)
  | .unknown k => (k, 0, 0)

/-- The four bytes of a take record. -/
def TakeRecord.bytes (r : TakeRecord) : List Byte :=
  let f := r.body.fields
  [BitVec.ofNat 8 (16 * f.1 + 4 * r.hand), BitVec.ofNat 8 r.delta, BitVec.ofNat 8 f.2.1, BitVec.ofNat 8 f.2.2]

/-- The record four bytes hold. Bytes the format gives as 0 are not looked at (R131). -/
def recordOf (b0 b1 b2 b3 : Byte) : TakeRecord :=
  let body : RecordBody :=
    match b0.toNat / 16 with
    | 0 => .fill
    | 1 => .noteOn b2.toNat b3.toNat
    | 2 => .noteOff b2.toNat
    | 3 => .pedal b2.toNat b3.toNat
    | 4 => .mark b2.toNat
    | 5 => .gap (b2.toNat + 256 * b3.toNat)
    | 6 => .endTake
    | k => .unknown k
  { body, hand := b0.toNat / 4 % 4, delta := b1.toNat }

/-- The record at a byte address of the store. -/
def Store.recordAt (st : Store) (a : Nat) : TakeRecord :=
  recordOf (st.mem.read storeByte a) (st.mem.read storeByte (a + 1)) (st.mem.read storeByte (a + 2))
    (st.mem.read storeByte (a + 3))

/-- R133: a holder reads the record at a position. -/
def Store.record (st : Store) (tk : Take) (p : Nat) : TakeRecord := st.recordAt (tk.recordAddr p)

/-- Write a record at a position of a take. -/
def Store.putRecord (tk : Take) (p : Nat) (r : TakeRecord) (st : Store) : Store :=
  { st with mem := st.mem.writeAll storeByte (tk.recordAddr p) r.bytes }

/-- R128: the ticks a record adds to the take time. -/
def TakeRecord.ticks (r : TakeRecord) : Nat := r.delta + match r.body with | .gap a => a | _ => 0

/-- R128: every field, the hand and the delta lie in the ranges of the kind. -/
def TakeRecord.inRanges (r : TakeRecord) : Bool :=
  r.delta ≤ 255 &&
    match r.body with
    | .fill => r.hand ≤ 2 && r.delta == 0
    | .noteOn k v => r.hand ≤ 2 && k ≤ 87 && inRange 1 127 v
    | .noteOff k => r.hand ≤ 2 && k ≤ 87
    | .pedal p l => r.hand == 2 && p ≤ 2 && l ≤ 127 && (p != 1 || l == 0 || 64 ≤ l)
    | .mark n => r.hand == 2 && inRange 1 255 n
    | .gap a => r.hand == 2 && a ≤ 65535
    | .endTake => r.hand == 2
    | .unknown _ => false

/-! ### Validation (R131) -/

/-- What a validation answers: END's position, its take time and the MARKs before it, or the failure. -/
inductive Verdict
  | passed (endPos duration marks : Nat)
  | failed (reason : InvalidReason) (pos : Nat) (key : Option Nat)
  deriving DecidableEq, Repr

/-- What a validation has found so far: the open keys in ascending order, the running take time, the MARKs, and END's
position once it has been read. -/
structure Reading where
  opens : List Nat
  time : Nat
  marks : Nat
  ended : Option Nat
  deriving DecidableEq, Repr

/-- The greatest take time (R128). -/
def maxTakeTime : Nat := 4294967295

/-- R131, checks 4 and 5: the open set with this record, or the failure. -/
def Reading.notes (c : Reading) : RecordBody → Except (InvalidReason × Nat) (List Nat)
  | .noteOn k _ => if c.opens.contains k then .error (.noteOpen, k) else .ok (insertNat k c.opens)
  | .noteOff k => if c.opens.contains k then .ok (removeNat k c.opens) else .error (.noteNotOpen, k)
  | _ => .ok c.opens

/-- R131: checks 1 to 7 on the record at position `p`. -/
def Reading.check (c : Reading) (p : Nat) (r : TakeRecord) : Except (InvalidReason × Option Nat) Reading :=
  match r.body with
  | .unknown _ => .error (.kind, none)
  | body =>
    if c.ended.isSome && body != .fill then .error (.afterEnd, none)
    else if !r.inRanges then .error (.range, none)
    else
      match c.notes body with
      | .error e => .error (e.1, some e.2)
      | .ok opens =>
        if maxTakeTime < c.time + r.ticks then .error (.duration, none)
        else if body = .endTake ∧ opens ≠ [] then .error (.openAtEnd, opens.head?)
        else
          .ok { opens, time := c.time + r.ticks
                marks := match body with | .mark _ => c.marks + 1 | _ => c.marks
                ended := if body = .endTake then some p else c.ended }

/-- R131: read records in position order from position `p`. -/
def Reading.run (c : Reading) (p : Nat) : List TakeRecord → Verdict
  | [] =>
    match c.ended with
    | some e => .passed e c.time c.marks
    | none => .failed .noEnd p none
  | r :: rs =>
    match c.check p r with
    | .error e => .failed e.1 p e.2
    | .ok c' => c'.run (p + 1) rs

/-- The records of one block. -/
def Store.blockRecords (st : Store) (b : Nat) : List TakeRecord :=
  (List.range 32).map fun j => st.recordAt (128 * b + 4 * j)

/-- R131: the validation of a take. FILL after END adds no time and no MARK, so the last sums are END's. -/
def Store.validate (st : Store) (tk : Take) : Verdict :=
  Reading.run { opens := [], time := 0, marks := 0, ended := none } 0 (tk.blocks.flatMap st.blockRecords)

/-! ### Pins (R133) -/

/-- No holder. -/
def Holders.none : Holders := { player := false, slotA := false, slotB := false, download := false }

/-- Add or remove one holder. -/
def Holders.set (h : Holder) (x : Bool) (hs : Holders) : Holders :=
  match h with
  | .player => { hs with player := x }
  | .slotA => { hs with slotA := x }
  | .slotB => { hs with slotB := x }
  | .download => { hs with download := x }

/-- Change the holders of a take. -/
def Store.setHolder (h : Holder) (x : Bool) (id : Nat) (st : Store) : Store :=
  match st.take? id with
  | none => st
  | some tk => st.setTake id (some { tk with holders := tk.holders.set h x })

/-- R133: Pin(holder, take). -/
def Store.pin (h : Holder) (id : Nat) (st : Store) : Store := st.setHolder h true id

/-- R133: Unpin(holder, take). -/
def Store.unpin (h : Holder) (id : Nat) (st : Store) : Store := st.setHolder h false id

/-- R133: Move(holder, holder, take). -/
def Store.movePin (a b : Holder) (id : Nat) (st : Store) : Store := (st.setHolder a false id).setHolder b true id

/-- A take that is CLOSED. -/
def Store.closed? (st : Store) (id : Nat) : Option Take := (st.take? id).filter fun tk => tk.phase == .closed

/-! ### Opening (R134, R140) -/

/-- A take as it is opened: no block, no record (R134, R140). -/
def Take.fresh (phase : TakePhase) (origin : TakeOrigin) (name : List Byte) : Take :=
  { phase, name := nameOf name, origin, truncated := false, blocks := [], count := 0, duration := 0, marks := 0,
    holders := Holders.none }

/-- R134: the Recorder's opening of a take settled by the take's state. -/
def Store.openRecording (id : Nat) (name : List Byte) (st : Store) : Store × Status :=
  if !(takeIdOk id && nameOk name) then (st, .badArgument)
  else
    match st.take? id with
    | some tk => if tk.phase = .closed then (st, .refusedState) else (st, .busy)
    | none =>
      if st.pool.length < 4 then (st, .storeFull)
      else (st.allocate id 4 (Take.fresh .recording .recorded name), .ok)

/-- R140: UPLOAD_OPEN. -/
def Store.openUpload (id count : Nat) (name : List Byte) (st : Store) : Store × Status :=
  if !(takeIdOk id && inRange 1 2048 count && nameOk name) then (st, .badArgument)
  else if st.transfer ≠ .none then (st, .busy)
  else
    match st.take? id with
    | some tk => if tk.phase = .closed then (st, .refusedState) else (st, .busy)
    | none =>
      if st.pool.length < count then (st, .storeFull)
      else
        ({ st.allocate id count (Take.fresh .loading .uploaded name) with transfer := .upload id 0 count }, .ok)

/-! ### Transfers (R132, R141 to R143) -/

/-- R132: the outcome of a validation. -/
def Store.endUpload (id : Nat) (tk : Take) (st : Store) : Store × Status × Content :=
  let st' := { st with transfer := .none }
  match st.validate tk with
  | .passed e duration marks =>
    let closed := { tk with phase := .closed, origin := .uploaded, truncated := false, count := e + 1, duration, marks }
    (st'.trim id e closed, .ok, .takeClosed (min tk.blocks.length (e / 32 + 1)) (e + 1) duration marks)
  | .failed reason pos key => (st'.delete id tk, .takeInvalid, .takeInvalid reason pos key)

/-- R141: the next block of an upload is taken. -/
def Store.takeBlock (id next remaining : Nat) (tk : Take) (data : List Byte) (st : Store) : Store × Status × Content :=
  let st' := { st with mem := st.mem.writeAll storeByte (128 * tk.blocks.getD next 0) data }
  if remaining ≤ 1 then st'.endUpload id tk
  else ({ st' with transfer := .upload id (next + 1) (remaining - 1) }, .ok, .count (remaining - 1))

/-- R141: UPLOAD_BLOCK. -/
def Store.uploadBlock (index : Nat) (data : List Byte) (st : Store) : Store × Status × Content :=
  match st.transfer with
  | .upload id next remaining =>
    if index ≠ next then (st, .badSequence, .count next)
    else
      match st.take? id with
      | some tk => st.takeBlock id next remaining tk data
      | none => (st, .refusedState, .nothing)
  | _ => (st, .refusedState, .nothing)

/-- R142: DOWNLOAD_OPEN. -/
def Store.openDownload (id first count : Nat) (st : Store) : Store × Status × Content :=
  if !(takeIdOk id && inRange 1 2048 count) then (st, .badArgument, .nothing)
  else if st.transfer ≠ .none then (st, .busy, .nothing)
  else
    match st.take? id with
    | none => (st, .notFound, .nothing)
    | some tk =>
      if tk.phase ≠ .closed then (st, .refusedState, .nothing)
      else if tk.blocks.length < first + count then (st, .badArgument, .nothing)
      else
        ({ st.pin .download id with transfer := .download id first count }, .ok,
          .downloadOpened tk.blocks.length tk.count tk.duration)

/-- R142: DOWNLOAD_BLOCK. -/
def Store.downloadBlock (st : Store) : Store × Status × Content :=
  match st.transfer with
  | .download id next remaining =>
    let block := ((st.take? id).elim [] (·.blocks)).getD next 0
    let data := st.mem.readAll storeByte (128 * block) 128
    let st' :=
      if remaining ≤ 1 then { st.unpin .download id with transfer := .none }
      else { st with transfer := .download id (next + 1) (remaining - 1) }
    (st', .ok, .block next data (remaining - 1))
  | _ => (st, .refusedState, .nothing)

/-- R143: TRANSFER_ABORT. -/
def Store.abort (st : Store) : Store × Status :=
  match st.transfer with
  | .none => (st, .refusedState)
  | .upload id _ _ =>
    let st' := { st with transfer := .none }
    match st.take? id with
    | some tk => (st'.delete id tk, .ok)
    | none => (st', .ok)
  | .download id _ _ => ({ st.unpin .download id with transfer := .none }, .ok)

/-! ### Directory requests (R137 to R139) -/

/-- The state of an entry as R125 names it. -/
def takeState : Option Take → TakeState
  | none => .empty
  | some tk =>
    match tk.phase with
    | .recording => .recording
    | .loading => .loading
    | .closed => .closed

/-- R137: one summary of TAKE_LIST; the other fields of an EMPTY entry are zero. -/
def takeSummary (x : Option Take) : TakeSummary :=
  { state := takeState x, origin := x.map (·.origin), truncated := x.any (·.truncated),
    pins := x.elim 0 (·.holders.count), blocks := x.elim 0 (·.blocks.length), duration := x.elim 0 (·.duration) }

/-- R137: TAKE_LIST's content. -/
def Store.listing (st : Store) : Content := .takeList (st.takes.map takeSummary) st.pool.length st.transfer

/-- R151: the blocks of the reserve: the block that holds the write position and every block after it. -/
def Take.reserve (tk : Take) : Nat := tk.blocks.length - tk.count / 32

/-- R137: TAKE_INFO's content. A RECORDING take reports the reserve's blocks after the one that holds the write position
(log 33). -/
def Store.info (st : Store) (tk : Take) : TakeReport :=
  { state := takeState (some tk), name := tk.name, origin := tk.origin, truncated := tk.truncated,
    blocks := tk.blocks.length, count := tk.count, duration := tk.duration, marks := tk.marks, holders := tk.holders,
    pins := tk.holders.count,
    received := if tk.phase = .loading then
        match st.transfer with | .upload _ next _ => some next | _ => none
      else none
    reserveBeyond := if tk.phase = .recording then some (tk.reserve - 1) else none }

/-- R137: TAKE_INFO. -/
def Store.takeInfo (id : Nat) (st : Store) : Status × Content :=
  if !takeIdOk id then (.badArgument, .nothing)
  else
    match st.take? id with
    | none => (.notFound, .nothing)
    | some tk => (.ok, .take (st.info tk))

/-- R138: TAKE_RENAME. -/
def Store.rename (id : Nat) (name : List Byte) (st : Store) : Store × Status :=
  if !(takeIdOk id && nameOk name) then (st, .badArgument)
  else
    match st.take? id with
    | none => (st, .notFound)
    | some tk => (st.setTake id (some { tk with name := nameOf name }), .ok)

/-- R139: TAKE_DELETE. -/
def Store.deleteTake (id : Nat) (st : Store) : Store × Status :=
  if !takeIdOk id then (st, .badArgument)
  else
    match st.take? id with
    | none => (st, .notFound)
    | some tk =>
      if tk.phase ≠ .closed then (st, .busy)
      else if tk.holders.count ≠ 0 then (st, .pinned)
      else (st.delete id tk, .ok)

/-! ### Warm reset (R145) -/

/-- R145: what a warm reset makes of one entry, with the blocks released. A RECORDING take has been closed before. -/
def Take.warm (tk : Take) : Option Take :=
  match tk.phase with
  | .closed => some { tk with holders := Holders.none }
  | .loading => none
  | .recording => some { tk with holders := Holders.none }

/-- R145: the blocks a warm reset returns to the pool. -/
def Store.warmReleased (st : Store) : List Nat :=
  st.takes.flatMap fun x => x.elim [] fun tk => if tk.phase = .loading then tk.blocks else []

/-- R145: the warm-reset state. -/
def Store.warm (st : Store) : Store :=
  { (st.release st.warmReleased) with takes := st.takes.map fun x => x.bind Take.warm, transfer := .none }

end Sys2Proof.Machine
end

