-- ==== Sys2Proof/Machine/PackOps.lean ====
section
/-! DEFINITION. The Stream Packer's shared operations (09, section 9.2), and the bytes of a stream frame (11, Formats). -/

namespace Sys2Proof.Machine

/-- R156, R158: a hold timer starts: PACKED with a hold time other than 0. -/
def Packer.startHold (p : Packer) : Timer := if p.mode = .packed then Timer.ofMs p.hold else none

/-- R157: the open packet becomes ready by what it holds. -/
def Packer.becomesReady (p : Packer) : Bool :=
  !p.openPacket.isEmpty &&
    (p.maximum ≤ p.openPacket.length || (p.mode == .packed && p.hold == 0) || !p.enabled)

/-- R157: test the readiness; the hold timer stops when the packet becomes ready. -/
def Packer.testReady (p : Packer) : Packer :=
  if !p.ready && p.becomesReady then { p with ready := true, timer := none } else p

/-- R158: a ready packet joins the queue and the open packet is formed afresh from the backlog. -/
def Packer.join (p : Packer) : Packer :=
  let moved := p.backlog.take p.maximum
  { p with
    queue := p.queue ++ [p.openPacket]
    openPacket := moved
    backlog := p.backlog.drop p.maximum
    ready := false
    timer := if moved.isEmpty then none else p.startHold }

/-- R157, R158: until the open packet is not ready or the queue is full; `fuel` bounds the places of the queue. -/
def Packer.settleFor : Nat → Packer → Packer
  | 0, p => p
  | fuel + 1, p =>
    let p' := p.testReady
    if p'.ready && p'.queue.length < 8 then p'.join.settleFor fuel else p'

/-- R157, R158: settle the open packet. The queue has 8 places, so nine tests reach the end. -/
def Packer.settle (p : Packer) : Packer := p.settleFor 9

/-- R156: a live event delivered to the Stream Packer with room in the stream buffer. -/
def Packer.accept (e : LiveEvent) (p : Packer) : Packer :=
  if !p.backlog.isEmpty || p.maximum ≤ p.openPacket.length then { p with backlog := p.backlog ++ [e] }
  else
    ({ p with
      openPacket := p.openPacket ++ [e]
      timer := if p.openPacket.isEmpty then p.startHold else p.timer } : Packer).settle

/-- R156: a live event delivered to the Stream Packer. -/
def State.streamEvent (e : LiveEvent) (s : State) : State :=
  if 256 ≤ s.packer.held then
    ({ s with packer := { s.packer with gap := min 65535 (s.packer.gap + 1) } } : State).tally .streamDrops
  else { s with packer := s.packer.accept e }

/-- R157: the hold timer expires; the packet is ready when it holds an event. -/
def Packer.holdExpires (p : Packer) : Packer :=
  ({ p with timer := none, ready := p.ready || !p.openPacket.isEmpty } : Packer).settle

/-- R158: the Link Controller takes the packet at the head of the queue, with the gap count. -/
def Packer.takeHead (p : Packer) : Option (TxFrame × Packer) :=
  match p.queue with
  | [] => none
  | es :: q => some (.stream p.gap es, ({ p with queue := q, gap := 0 } : Packer).settle)

/-- R159: the streaming enable changes. -/
def Packer.setEnabled (on : Bool) (p : Packer) : Packer :=
  if p.enabled = on then p else ({ p with enabled := on } : Packer).settle

/-- R159: STREAM_CONFIG, its mode good. -/
def Packer.configure (mode : PackMode) (events hold : Nat) (p : Packer) : Packer × Status :=
  if !packOk events hold then (p, .badArgument)
  else if p.held ≠ 0 then (p, .busy)
  else ({ p with mode, perPacket := events, hold }, .ok)

/-- R159: STREAM_QUERY's content. -/
def Packer.report (p : Packer) : PackReport :=
  { enabled := p.enabled, mode := p.mode, perPacket := p.perPacket, hold := p.hold, held := p.held,
    queued := p.queue.length, openCount := p.openPacket.length, ready := p.ready, backlog := p.backlog.length,
    gap := p.gap, timeLeft := p.timer.left }

/-- R160: the warm-reset state. -/
def Packer.warm (p : Packer) : Packer :=
  { p with queue := [], openPacket := [], ready := false, backlog := [], timer := none, gap := 0 }

/-! ### The bytes of a stream frame (11, Formats) -/

/-- The hand code of an event entry. -/
def Hand.eventCode (h : Hand) : Nat := h.code

/-- A stream event entry: 8 bytes. -/
def LiveEvent.bytes (e : LiveEvent) : List Byte :=
  let q (x : Quality) : Nat := if x = .keyOnly then 2 else 0
  let h := 4 * e.hand.eventCode
  let head : Nat × Nat × Nat × Nat :=
    match e.body with
    | .noteOn k v again x => (1, k, v, again.toNat + q x + h)
    | .noteOff k x => (2, k, 0, q x + h)
    | .pedal p l => (3, pedalCode p, l, h)
  [BitVec.ofNat 8 head.1, BitVec.ofNat 8 head.2.1, BitVec.ofNat 8 head.2.2.1, BitVec.ofNat 8 head.2.2.2]
    ++ leBytes 4 e.time.toNat

/-- A stream frame's payload: the event count, the gap count, and the events. -/
def streamPayload (gap : Nat) (es : List LiveEvent) : List Byte :=
  BitVec.ofNat 8 es.length :: leBytes 2 gap ++ es.flatMap LiveEvent.bytes

end Sys2Proof.Machine
end

