-- ==== Sys2Proof/Machine/Formats.lean ====
section
/-! DEFINITION. The byte layouts the spec gives (11, R183, R186, R191 and Formats): the frame with its CRC, status codes, key
sets, calibration records, statistics, the frames the part sends, and the setup area. -/

namespace Sys2Proof.Machine

/-! ### CRC (R183) -/

/-- One bit of the CRC: polynomial 1021h, most significant bit first. -/
def crcBit (c : BitVec 16) : BitVec 16 := if c.msb then (c <<< 1) ^^^ 0x1021#16 else c <<< 1

/-- Eight bits of the CRC. -/
def crcByte (c : BitVec 16) (b : Byte) : BitVec 16 :=
  crcBit (crcBit (crcBit (crcBit (crcBit (crcBit (crcBit (crcBit (c ^^^ ((b.setWidth 16) <<< 8)))))))))

/-- R183: the CRC of some bytes, initial value FFFFh. -/
def crc16 (bs : List Byte) : BitVec 16 := bs.foldl crcByte 0xFFFF#16

/-! ### Frames (R183) -/

/-- R183: the start byte. -/
def startByte : Byte := 0xC3

/-- R183: the greatest payload length. -/
def maxPayload : Nat := 240

/-- The bytes of a frame: start, length, class, kind, tag, payload, CRC high byte first. -/
def frameBytes (cls kind tag : Byte) (payload : List Byte) : List Byte :=
  let body := BitVec.ofNat 8 payload.length :: cls :: kind :: tag :: payload
  let crc := crc16 body
  startByte :: body ++ [(crc >>> 8).setWidth 8, crc.setWidth 8]

/-- R184: the CRC of a whole frame passes. -/
def frameCrcOk (bs : List Byte) : Bool :=
  let body := (bs.drop 1).take (bs.length - 3)
  let crc := crc16 body
  bs.drop (bs.length - 2) == [(crc >>> 8).setWidth 8, crc.setWidth 8]

/-- The fields of a whole frame. -/
def frameOf (bs : List Byte) : Frame :=
  { cls := bs.getD 2 0, kind := bs.getD 3 0, tag := bs.getD 4 0, payload := (bs.drop 5).take (bs.length - 7) }

/-- The class of a frame: bits 3 to 0 of its class byte (Formats). -/
def Frame.classCode (f : Frame) : Nat := f.cls.toNat % 16

/-- The class is REQUEST. -/
def Frame.isRequest (f : Frame) : Bool := f.classCode == 1

/-! ### Status codes (R186) -/

/-- R186: the value of a status. -/
def Status.code : Status → Byte
  | .ok => 0x00
  | .applied => 0x01
  | .staged => 0x02
  | .busy => 0x10
  | .refusedState => 0x11
  | .badArgument => 0x12
  | .badTag => 0x13
  | .badLength => 0x14
  | .unknownKind => 0x15
  | .notFound => 0x16
  | .pinned => 0x17
  | .storeFull => 0x18
  | .badSequence => 0x19
  | .takeInvalid => 0x1A
  | .notHomed => 0x1B
  | .faulted => 0x1C
  | .noSoundSet => 0x1D

/-! ### Key sets (Formats) -/

/-- One byte of a key map, from key index `k` on: key `k` is bit 0. -/
def mapByte (ks : List Nat) (k : Nat) : Byte :=
  BitVec.ofNat 8 ((List.range 8).foldl (fun a i => a + if ks.contains (k + i) then 2 ^ i else 0) 0)

/-- The 11-byte key map of a set. -/
def keyMap (ks : List Nat) : List Byte := (List.range 11).map fun n => mapByte ks (8 * n)

/-- A key set: its count byte and its map. -/
def keySetBytes (ks : List Nat) : List Byte := BitVec.ofNat 8 ks.length :: keyMap ks

/-- A key set whose members carry a hand: the second map is set for RIGHT and clear for LEFT; that it is clear for a key outside
the set too is the model's choice (DESIGN CHOICE, log 57). -/
def handSetBytes (es : List (Nat × Hand)) : List Byte :=
  keySetBytes (es.map (·.1)) ++ keyMap ((es.filter fun e => e.2 == .right).map (·.1))

/-! ### Statistics (R190) -/

/-- R190: the counters of STATS_READ, three bytes each. -/
def statsBytes (xs : List Tally) : List Byte := xs.flatMap fun x => leBytes 3 x.toNat

/-! ### Calibration records (Formats) -/

/-- The 12 bytes of a calibration record. -/
def calBytes (c : CalRecord) : List Byte :=
  leBytes 2 c.keyRest ++ leBytes 2 c.keyBottom ++ leBytes 2 c.hammerRest ++ leBytes 2 c.hammerTop
    ++ leBytes 2 (c.hammerStopped.getD 0xFFFF) ++ [BitVec.ofInt 8 c.trim, if c.enabled then 1 else 0]

/-- The number at a place of some bytes, least significant byte first. -/
def numAt (bs : List Byte) (a n : Nat) : Nat := leNat ((bs.drop a).take n)

/-- The calibration record at a place of some bytes. Bits 7 to 1 of its last byte are not checked (log 32). -/
def calAt (bs : List Byte) (a : Nat) : CalRecord :=
  let stopped := numAt bs (a + 8) 2
  { keyRest := numAt bs a 2, keyBottom := numAt bs (a + 2) 2, hammerRest := numAt bs (a + 4) 2,
    hammerTop := numAt bs (a + 6) 2, hammerStopped := if stopped = 0xFFFF then none else some stopped,
    trim := (bs.getD (a + 10) 0).toInt, enabled := numAt bs (a + 11) 1 % 2 == 1 }

/-! ### Payloads of replies (R186; Formats)

What the spec lays out stands as it says; every other stretch of a payload is a free number of free bytes (log 6). -/

/-- A stretch of a payload whose layout the spec does not give: `lo` to `hi` bytes (log 6). -/
def freeBytes {α : Type} (what : α) (part lo hi : Nat) : List Byte :=
  (List.range (lo + Config.layoutLength what part % (hi - lo + 1))).map (Config.layoutByte what part)

/-- A code of `m` values that the spec does not give (log 6). -/
def freeCode {α : Type} (what : α) (m : Nat) : Nat := (Config.layoutByte what 0 0).toNat % m

/-- The greatest content of a reply that is one frame by the formats section: TAKE_LIST's 232 bytes. -/
def singleContent : Nat := 232

/-- The greatest content of a reply of four frames (R186). -/
def greatestContent : Nat := 956

/-- One entry of TAKE_LIST in seven bytes (R137, Formats); the codes of the state and the origin are free. The format names bits
6 to 0 of the first byte; that its bit 7 is 0 is the model's choice (DESIGN CHOICE, log 57). -/
def TakeSummary.bytes (x : TakeSummary) : List Byte :=
  let origin := x.origin.elim 0 fun o => freeCode o 2
  BitVec.ofNat 8 (freeCode x.state 4 + 4 * origin + 8 * x.truncated.toNat + 16 * x.pins)
    :: leBytes 2 x.blocks ++ leBytes 4 x.duration

/-- The transfer record in six bytes, in the order of R137: its kind, take, next list index and remaining count; the kind codes,
and what follows the kind NONE, are free. The format gives the six bytes only as a whole; one byte each for the kind and the take
and two each for the index and the count are the model's choice (DESIGN CHOICE, log 57). -/
def Transfer.bytes : Transfer → List Byte
  | .none => BitVec.ofNat 8 (freeCode TransferKind.none 256) :: freeBytes Transfer.none 1 5 5
  | .upload k n r =>
    BitVec.ofNat 8 (freeCode TransferKind.upload 256) :: BitVec.ofNat 8 k :: leBytes 2 n ++ leBytes 2 r
  | .download k n r =>
    BitVec.ofNat 8 (freeCode TransferKind.download 256) :: BitVec.ofNat 8 k :: leBytes 2 n ++ leBytes 2 r

/-- The content bytes of a reply, after its status byte. Key sets, calibration records, statistics, blocks and TAKE_LIST stand
as the formats section gives them, in the order of their rules; SCAN_QUERY's are at least the four bytes of each left-rest
time, and with VOICE_READ's at most those of four frames (R186). How long each stretch between those that the spec lays out can
be is the model's choice within the 232 bytes of one frame (DESIGN CHOICE, log 6). -/
def Content.bytes (c : Content) : List Byte :=
  match c with
  | .nothing => []
  | .stats xs => statsBytes xs
  | .takeList ts free transfer => ts.flatMap TakeSummary.bytes ++ leBytes 2 free ++ transfer.bytes
  | .key r =>
    freeBytes c 0 0 60 ++ calBytes r.cal ++ freeBytes c 1 0 60 ++ r.staged.elim [] calBytes ++ freeBytes c 2 0 60
  | .pedals _ _ _ x => freeBytes c 0 0 200 ++ keySetBytes x.set
  | .recorder r => freeBytes c 0 0 200 ++ handSetBytes r.opens
  | .player r =>
    freeBytes c 0 0 60 ++ keySetBytes r.context.set ++ keySetBytes r.openNotes ++ freeBytes c 1 0 16
      ++ keySetBytes r.expected ++ freeBytes c 2 0 120
  | .block _ data _ => freeBytes c 0 0 52 ++ data ++ freeBytes c 1 0 52
  | .scan r => freeBytes c 0 (min greatestContent (4 * r.flights.length)) greatestContent
  | .voiceRecords _ => freeBytes c 0 0 greatestContent
  | _ => freeBytes c 0 0 singleContent

/-- R186: the number of frames of a reply of `n` content bytes: one when the payload is at most 240 bytes, else parts of at most
239 content bytes each. -/
def framesFor (n : Nat) : Nat := if n ≤ 239 then 1 else (n + 238) / 239

/-- R186: the number of frames of a reply. -/
def Content.parts (c : Content) : Nat := framesFor c.bytes.length

/-- R186: the payload of part `i` of a reply: the status byte, then up to 239 content bytes. -/
def Reply.partBytes (r : Reply) (i : Nat) : List Byte :=
  r.status.code :: (r.content.bytes.drop (239 * i)).take 239

/-! ### Frames the part sends (R183; Formats) -/

/-- The place of a notice kind in the list of R187, where READY is 0. -/
def Notice.place : Notice → Nat
  | .keyFault _ _ _ => 1
  | .pedalFault _ _ => 2
  | .railState _ _ _ _ => 3
  | .soundSet _ _ _ => 4
  | .plug _ _ _ => 5
  | .mute _ _ _ _ => 6
  | .playerState _ _ _ _ _ _ => 7
  | .playerMark _ _ _ => 8
  | .waitResult _ _ _ _ _ _ _ _ => 9
  | .recorderState _ _ _ _ _ _ => 10

/-- The class byte: REPLY with the continues flag on every part but the last, NOTICE, STREAM. -/
def TxFrame.cls : TxFrame → Byte
  | .reply _ i n => if i + 1 < n then 0x82 else 0x02
  | .ready _ | .notice _ => 0x03
  | .stream _ _ => 0x04

/-- The kind byte: a reply carries its request's; those of notices and stream frames are free (log 6). -/
def TxFrame.kind : TxFrame → Byte
  | .reply r _ _ => r.kind
  | .ready _ => Config.noticeKind 0
  | .notice n => Config.noticeKind n.place
  | .stream _ _ => Config.streamKind

/-- R183: a reply carries its request's tag, notices and stream frames tag 0. -/
def TxFrame.tag : TxFrame → Byte
  | .reply r _ _ => r.tag
  | _ => 0

/-- The payload; the layouts of notices are free (log 6). -/
def TxFrame.payload : TxFrame → List Byte
  | .reply r i _ => r.partBytes i
  | .ready n => freeBytes n 0 0 maxPayload
  | .notice n => freeBytes n 0 0 maxPayload
  | .stream gap es => streamPayload gap es

/-- R183: the bytes of a frame the part sends. -/
def TxFrame.bytes (x : TxFrame) : List Byte := frameBytes x.cls x.kind x.tag x.payload

/-- R183, R188: the bytes of the frame on the TX line; none when the line is free. -/
def State.txBytes (s : State) : List Byte := s.link.tx.elim [] TxFrame.bytes

/-! ### The setup area (R191) -/

/-- One pedal's items of a setup. -/
structure PedalItems where
  rest : Nat
  full : Nat
  mode : PedalMode
  deadBand : Nat
  deriving DecidableEq, Repr

/-- A setup: what a full start-up loads. -/
structure Setup where
  cals : List CalRecord
  thr : Thresholds
  hammerCurve : List CurvePoint
  keyCurve : List CurvePoint
  damper : PedalItems
  sostenuto : PedalItems
  soft : PedalItems
  rail : RailConfig
  limit : Nat
  monitor : Bool
  split : Nat
  deriving DecidableEq, Repr

/-- The built-in defaults (R4, R7, R17, R29, R30, R51, R56, R92). -/
def defaultSetup : Setup :=
  { cals := List.replicate 88 defaultCal, thr := defaultThr, hammerCurve := defaultHammerCurve, keyCurve := defaultKeyCurve,
    damper := { rest := 600, full := 3000, mode := .level, deadBand := 2 },
    sostenuto := { rest := 600, full := 3000, mode := .switch, deadBand := 2 },
    soft := { rest := 600, full := 3000, mode := .level, deadBand := 2 },
    rail := defaultRailConfig, limit := 64, monitor := false, split := 39 }

/-- R191: the length the setup needs. -/
def setupLength : Nat := 1270

/-- The eleven thresholds at a place, in the order of R7. -/
def thresholdsAt (bs : List Byte) (a : Nat) : Thresholds :=
  let n (i : Nat) : Nat := numAt bs (a + 2 * i) 2
  { rest := n 0, start := n 1, damper := n 2, rearm := n 3, kA := n 4, kB := n 5, hRest := n 6, freeA := n 7, freeB := n 8,
    stoppedA := n 9, stoppedB := n 10 }

/-- The 16 points of a curve at a place. -/
def curveAt (bs : List Byte) (a : Nat) : List CurvePoint :=
  (List.range 16).map fun i => { time := numAt bs (a + 5 * i) 4, velocity := numAt bs (a + 5 * i + 4) 1 }

/-- A byte that codes one of two values: 0 the first, 1 the second, any other none. -/
def codeOf {α : Type} (zero one : α) : Nat → Option α
  | 0 => some zero
  | 1 => some one
  | _ => none

/-- One pedal's items at a place; none when its mode byte holds another code. -/
def pedalAt (bs : List Byte) (a : Nat) : Option PedalItems :=
  (codeOf PedalMode.level PedalMode.switch (numAt bs (a + 4) 1)).map fun mode =>
    { rest := numAt bs a 2, full := numAt bs (a + 2) 2, mode, deadBand := numAt bs (a + 5) 1 }

/-- The seven rail settings at a place; none when its auto-home byte holds another code. -/
def railAt (bs : List Byte) (a : Nat) : Option RailConfig :=
  (codeOf false true (numAt bs (a + 10) 1)).map fun autoHome =>
    { acoustic := numAt bs a 2, silent := numAt bs (a + 2) 2, moveDuty := numAt bs (a + 4) 1,
      homingDuty := numAt bs (a + 5) 1, travelLimit := numAt bs (a + 6) 2, settle := numAt bs (a + 8) 2, autoHome }

/-- R191: the content of a setup area; none when a coded byte holds another code. -/
def setupOf (bs : List Byte) : Option Setup :=
  match pedalAt bs 1238, pedalAt bs 1244, pedalAt bs 1250, railAt bs 1256, codeOf false true (numAt bs 1268 1) with
  | some damper, some sostenuto, some soft, some rail, some monitor =>
    some
      { cals := (List.range 88).map fun i => calAt bs (12 * i)
        thr := thresholdsAt bs 1056, hammerCurve := curveAt bs 1078, keyCurve := curveAt bs 1158
        damper, sostenuto, soft, rail, limit := numAt bs 1267 1, monitor, split := numAt bs 1269 1 }
  | _, _, _, _, _ => none

/-- A pedal's items pass the checks of PEDAL_CAL and PEDAL_MODE. -/
def PedalItems.ok (p : Pedal) (x : PedalItems) : Bool := pedalCalOk x.rest x.full && pedalModeOk p x.mode x.deadBand

/-- R191: every value passes the checks of the request that would set it. -/
def Setup.ok (x : Setup) : Bool :=
  x.cals.all calOk && thrOk x.thr && curveOk x.hammerCurve && curveOk x.keyCurve
    && x.damper.ok .damper && x.sostenuto.ok .sostenuto && x.soft.ok .soft
    && railConfigOk x.rail && limitOk x.limit && splitOk x.split

/-- R191: the setup area that begins at an offset, checked in order: the setup, or the first check that fails. -/
def State.readSetup (s : State) (a : Nat) : Except FallbackReason Setup :=
  let content := Memory.readAll flashByte s.soundMem (a + 8) setupLength
  if Memory.readAll flashByte s.soundMem a 4 ≠ [0x4D, 0x42, 0x53, 0x55] then .error .signature
  else if s.flashNat (a + 4) 2 ≠ setupLength then .error .length
  else if s.flashNat (a + 6) 2 ≠ (crc16 content).toNat then .error .crc
  else
    match setupOf content with
    | none => .error .content
    | some x => if x.ok then .ok x else .error .content

end Sys2Proof.Machine
end

