-- ==== Sys2Proof/Machine/FetchOps.lean ====
section
/-! DEFINITION. The Sample Fetch Unit's shared operations (06): the play sequence, the fetch queue and the memory port,
cancelling, and validating a sound set. -/

namespace Sys2Proof.Machine

/-! ### The play sequence -/

/-- R98: the frame a play position gives. -/
def Zone.frameAt (z : Zone) (p : Nat) : Nat :=
  match z.loopStart with
  | none => p
  | some l => if p < z.length then p else l + (p - z.length) % (z.length - l)

/-- R98: the play sequence has a segment `n`. -/
def Zone.hasSegment (z : Zone) (n : Nat) : Bool := z.loopStart.isSome || 256 * n < z.length

/-- R98: the number of valid frames of segment `n`. -/
def Zone.segmentFrames (z : Zone) (n : Nat) : Nat :=
  if z.loopStart.isSome then 256 else min 256 (z.length - 256 * n)

/-- R95: the sample frame of zone `z` with number `i`. -/
def State.sampleAt (s : State) (z : Zone) (i : Nat) : Sample := BitVec.ofNat 16 (s.flashNat (z.start + 2 * i) 2)

/-- The frames of segment `n` as the sound memory holds them (R98, R103). -/
def State.segmentData (s : State) (z : Zone) (n : Nat) : List Sample :=
  (List.range (z.segmentFrames n)).map fun j => s.sampleAt z (z.frameAt (256 * n + j))

/-! ### Halves -/

/-- R99: segment `n` is held in half A when `n` is even and in half B when it is odd. -/
def StreamBuf.half (b : StreamBuf) (n : Nat) : Half := if n % 2 = 0 then b.a else b.b

/-- Replace the half that holds segment `n`. -/
def StreamBuf.setHalf (n : Nat) (h : Half) (b : StreamBuf) : StreamBuf :=
  if n % 2 = 0 then { b with a := h } else { b with b := h }

/-- Replace the fill state of the half of segment `n`. -/
def StreamBuf.mark (n : Nat) (x : Fill) (b : StreamBuf) : StreamBuf := b.setHalf n { b.half n with fill := x }

/-- R99: an allocation sets the stream buffer of its entry afresh; R100: half A is QUEUED for segment 0. -/
def StreamBuf.fresh (seq : BitVec 32) (zone : Nat) : StreamBuf :=
  { a := { fill := .queued, segment := 0, data := [] }, b := Half.empty, pos := none, serves := some { seq, zone },
    due := false }

/-- R105: both halves EMPTY and the play position absent. What the buffer serves is kept (log 37). -/
def StreamBuf.cancelled (b : StreamBuf) : StreamBuf :=
  { b with a := Half.empty, b := Half.empty, pos := none, due := false }

/-! ### Fetch queue and memory port -/

/-- R103: where an entry is placed: a PRIME after the last PRIME and ahead of every REFILL, a REFILL at the tail. -/
def placeEntry (e : FetchEntry) (q : List FetchEntry) : List FetchEntry :=
  match e.cls with
  | .prime => q.takeWhile (·.cls == .prime) ++ e :: q.dropWhile (·.cls == .prime)
  | .refill => q ++ [e]

/-- R103: an idle port takes the entry at the head of the queue, and its half becomes READING. -/
def Fetch.kick (f : Fetch) : Fetch :=
  match f.port, f.queue with
  | none, e :: q => { f.setBuf e.voice ((f.buf e.voice).mark e.segment .reading) with port := some (.segment e), queue := q }
  | _, _ => f

/-- R103: place an entry; an idle port takes the head at once. -/
def Fetch.place (e : FetchEntry) (f : Fetch) : Fetch := { f with queue := placeEntry e f.queue }.kick

/-- R99, R100: the request for a new voice's prime. -/
def Fetch.askPrime (i : Nat) (seq : BitVec 32) (zone : Nat) (f : Fetch) : Fetch :=
  (f.setBuf i (StreamBuf.fresh seq zone)).place { cls := .prime, voice := i, seq, segment := 0 }

/-- R100, R101: the half of segment `n` becomes QUEUED for it and a REFILL entry is placed. -/
def Fetch.askRefill (i n : Nat) (seq : BitVec 32) (f : Fetch) : Fetch :=
  (f.setBuf i ((f.buf i).setHalf n { fill := .queued, segment := n, data := [] })).place
    { cls := .refill, voice := i, seq, segment := n }

/-- R105: a voice that becomes FREE has its entry removed and its halves emptied; a read in flight goes on. -/
def Fetch.cancel (i : Nat) (f : Fetch) : Fetch :=
  { f.setBuf i (f.buf i).cancelled with queue := f.queue.filter (·.voice != i) }

/-- The zone with a number, in the zone cache. -/
def Fetch.zone? (f : Fetch) (n : Nat) : Option Zone := f.zones[n]?

/-! ### Validation (R94 to R97) -/

/-- What a load ends with (R96, R97). -/
structure LoadResult where
  header : Option SetHeader
  failure : Option (LoadFailure × Option Nat)
  zones : List Zone
  deriving DecidableEq, Repr

/-- R94: the header's five fields, its signature apart. -/
def State.readHeader (s : State) : SetHeader :=
  { version := s.flashNat 4 2, zoneCount := s.flashNat 6 2, memorySize := s.flashNat 8 4, setupOffset := s.flashNat 12 4 }

/-- R94: the signature bytes read M, B, S, S. -/
def State.setSigned (s : State) : Bool := Memory.readAll flashByte s.soundMem 0 4 == [0x4D, 0x42, 0x53, 0x53]

/-- R95: the zone with number `n` as the table holds it. -/
def State.readZone (s : State) (n : Nat) : Zone :=
  let a := 16 + 18 * n
  let loop := s.flashNat (a + 12) 4
  { lowKey := s.flashNat a 1, highKey := s.flashNat (a + 1) 1, lowVel := s.flashNat (a + 2) 1,
    highVel := s.flashNat (a + 3) 1, start := s.flashNat (a + 4) 4, length := s.flashNat (a + 8) 4,
    loopStart := if loop = 0xFFFFFFFF then none else some loop, gain := s.flashNat (a + 16) 1,
    pan := s.flashNat (a + 17) 1 }

/-- R96, checks 4a to 4e: the first check a zone fails. -/
def Zone.fault (z : Zone) (memorySize : Nat) : Option LoadFailure :=
  if !(z.lowKey ≤ z.highKey && z.highKey ≤ 87) then some .keyRange
  else if !(1 ≤ z.lowVel && z.lowVel ≤ z.highVel && z.highVel ≤ 127) then some .velocityRange
  else if !(z.start % 2 == 0 && 1 ≤ z.length && z.start + 2 * z.length ≤ memorySize) then some .extent
  else if !(z.loopStart.all (· < z.length)) then some .loop
  else if !(z.gain ≤ 96 && z.pan ≤ 127) then some .levels
  else none

/-- R96, check 4: the first zone that fails, from zone `n`. -/
def firstFault (memorySize : Nat) : Nat → List Zone → Option (LoadFailure × Option Nat)
  | _, [] => none
  | n, z :: zs =>
    match z.fault memorySize with
    | some e => some (e, some n)
    | none => firstFault memorySize (n + 1) zs

/-- R96: a load's result, from what the sound memory holds. -/
def State.loadResult (s : State) : LoadResult :=
  let h := s.readHeader
  let zs := (List.range h.zoneCount).map s.readZone
  if !s.setSigned then { header := none, failure := some (.signature, none), zones := [] }
  else if !inRange 1 512 h.zoneCount then { header := some h, failure := some (.zoneCount, none), zones := [] }
  else if !(inRange 65536 16777216 h.memorySize && 16 + 18 * h.zoneCount ≤ h.memorySize) then
    { header := some h, failure := some (.memorySize, none), zones := [] }
  else
    match firstFault h.memorySize 0 zs with
    | some e => { header := some h, failure := some e, zones := [] }
    | none => { header := some h, failure := none, zones := zs }

/-- R97: a load ends: the status and the cache take its result together, and the port is idle. -/
def Fetch.loaded (r : LoadResult) (f : Fetch) : Fetch :=
  { f with
    status := if r.failure = none then .valid else .invalid
    header := r.header, failure := r.failure, zones := r.zones, port := none }

/-- R97, R107: a load begins: LOADING, the cache empty with its header fields, the port carrying the load. -/
def Fetch.beginLoad (f : Fetch) : Fetch :=
  { f with status := .loading, header := none, failure := none, zones := [], port := some .load }

/-- R107: the SOUND_SET notice. -/
def Fetch.setNotice (f : Fetch) : Notice :=
  .soundSet f.status (f.header.map fun h => (h.version, h.zoneCount, h.memorySize)) f.failure

/-- R107: what refuses SOUNDSET_RELOAD with BUSY. -/
def State.reloadBusy (s : State) : Bool :=
  s.fetch.status == .loading || s.voices.table.any Option.isSome || !s.fetch.queue.isEmpty || s.fetch.port.isSome

/-! ### Reports (R108) -/

/-- The segment read in flight. -/
def Fetch.inFlight (f : Fetch) : Option FetchEntry :=
  match f.port with
  | some (.segment e) => some e
  | _ => none

/-- R108: SOUNDSET_QUERY's content. -/
def Fetch.setReport (f : Fetch) : SetReport :=
  { status := f.status, header := f.header, failure := f.failure, primes := f.queue.countP (·.cls == .prime),
    refills := f.queue.countP (·.cls == .refill), inFlight := f.inFlight.map fun e => (e.voice, e.cls, e.segment) }

/-- A half as STREAM_READ reports it: its fill state, and the segment it holds or wants. -/
def Half.report (h : Half) : Fill × Option Nat := (h.fill, if h.fill = .empty then none else some h.segment)

/-- R108: STREAM_READ's content for an entry. Its read is in flight while the port carries a read of the entry with the
sequence number the buffer serves, a FREE entry's read that goes on (R105) too. A waiting entry's place counts the head as 0
(DESIGN CHOICE, log 52). -/
def Fetch.streamReport (i : Nat) (f : Fetch) : StreamReport :=
  let b := f.buf i
  { serves := b.serves, pos := b.pos, a := b.a.report, b := b.b.report,
    waiting := (placeOf (·.voice == i) f.queue).bind fun n => f.queue[n]?.map fun e => (e.cls, n),
    inFlight := f.inFlight.any fun e => e.voice == i && b.serves.any (·.seq == e.seq) }

/-- R110: the warm-reset state. A load in progress is begun again in the warm start-up. -/
def Fetch.warm (f : Fetch) : Fetch :=
  let f' := { f with bufs := f.bufs.map StreamBuf.cancelled, queue := [], port := none }
  if f.status = .loading then f'.beginLoad else f'

end Sys2Proof.Machine
end

