-- ==== Sys2Proof/Machine/VoiceOps.lean ====
section
/-! DEFINITION. The Voice Engine's shared operations (05): claims, stealing, fading, holding and damping, and what a prime
completion does. -/

namespace Sys2Proof.Machine

/-! ### Attenuations -/

/-- One dB in units of `attUnit`: the least common multiple of 2 to 34 and of 200, so that the growth of R82 is a whole
number of units for every release time of R80. -/
def attDb : Nat := 144403552893600

/-- 0.5 dB in units. -/
def attHalfDb : Nat := 72201776446800

/-- R82: the growth of a release attenuation at one boundary: 60 dB × 1 ms / release time. -/
def attGrowth (releaseMs : Nat) : Nat := 60 * attDb / releaseMs

/-- R82: the attenuation at which a DAMPED voice becomes FREE. -/
def attEnd : Nat := 96 * attDb

/-! ### Ages and fading -/

/-- R74: how far a sequence number lies behind the allocation counter. -/
def Voices.age (v : Voices) (w : Voice) : Nat := (v.counter - w.seq).toNat

/-- The older of two entries, the first when none is older. -/
def Voices.older (v : Voices) (best : Option (Nat × Voice)) (e : Nat × Voice) : Option (Nat × Voice) :=
  match best with
  | none => some e
  | some b => if v.age b.2 < v.age e.2 then some e else some b

/-- The allocated voices with their entries, in ascending entry number. -/
def Voices.allocated (v : Voices) : List (Nat × Voice) :=
  (numbered 0 v.table).filterMap fun e => e.2.map fun w => (e.1, w)

/-- The entry of the oldest voice that satisfies `p`. -/
def Voices.oldest (v : Voices) (p : Voice → Bool) : Option Nat :=
  ((v.allocated.filter fun e => p e.2).foldl v.older none).map (·.1)

/-- R86: a voice enters FADING; one already FADING is left as it is. The level its fade starts from is its release
attenuation (log 24). -/
def Voice.fade (w : Voice) : Voice :=
  match w.phase with
  | .starting | .sounding => { w with phase := .fading 0 false 0 }
  | .damped _ att => { w with phase := .fading 0 false att }
  | .fading _ _ _ => w

/-- Put the voice of an entry into FADING. -/
def Voices.fadeEntry (i : Nat) (v : Voices) : Voices := { v with table := updateAt (Option.map Voice.fade) i v.table }

/-! ### Stealing (R78) -/

/-- The voice is DAMPED. -/
def Voice.isDamped (w : Voice) : Bool := match w.phase with | .damped _ _ => true | _ => false

/-- The lower-priority source (R78). -/
def lowerSource : Priority → Source
  | .liveFirst => .playback
  | .playbackFirst => .live

/-- R78: the steal order. -/
def Voices.victim (v : Voices) : Option Nat :=
  (v.oldest Voice.isDamped)
    <|> (v.oldest fun w => w.phase == .sounding && w.source == lowerSource v.priority)
    <|> (v.oldest fun w => w.phase == .sounding)
    <|> (v.oldest fun w => w.phase == .starting)

/-- Steal one voice, counted in VOICE_STEALS. -/
def State.steal (s : State) : State :=
  match s.voices.victim with
  | none => s
  | some i => ({ s with voices := s.voices.fadeEntry i } : State).tally .voiceSteals

/-- Steal `n` voices one at a time. -/
def State.stealN : Nat → State → State
  | 0, s => s
  | n + 1, s => State.stealN n s.steal

/-! ### The note-on claim (R77 to R79) -/

/-- R77: the effective velocity. -/
def effectiveVelocity (soft velocity : Nat) : Nat := if 64 ≤ soft then max 1 (velocity - 16) else velocity

/-- R77: a zone serves a key and an effective velocity. -/
def Zone.serves (z : Zone) (key vel : Nat) : Bool := inRange z.lowKey z.highKey key && inRange z.lowVel z.highVel vel

/-- R77: the lowest-numbered zone that serves the claim. -/
def Fetch.chooseZone (f : Fetch) (key vel : Nat) : Option Nat := placeOf (fun z => z.serves key vel) f.zones

/-- R79: the gain of a new voice, in 0.5 dB steps. -/
def voiceGain (base velocity soft : Nat) : Nat := base + (127 - velocity) / 4 + soft / 22

/-- R77, second step: the re-strike. -/
def Voices.restrike (src : Source) (key : Nat) (v : Voices) : Voices :=
  match v.find src key with
  | none => v
  | some i => v.fadeEntry i

/-- R79: the lowest-numbered FREE entry. -/
def Voices.free (v : Voices) : Option Nat := placeOf (fun x : Option Voice => x.isNone) v.table

/-- R79, fourth step: allocate an entry and ask for its prime, or drop the note. -/
def State.allocateVoice (src : Source) (key velocity zone gain : Nat) (s : State) : State :=
  match s.voices.free with
  | none => s.tally .notesDropped
  | some i =>
    let seq := s.voices.counter
    let w : Voice := { phase := .starting, source := src, key, velocity, zone, gain, released := false, seq }
    { s with
      voices := { s.voices.setVoice i (some w) with counter := seq + 1 }
      fetch := s.fetch.askPrime i seq zone }

/-- R78, third step: one steal when the counted number equals the limit. -/
def State.stealIfFull (s : State) : State := if s.voices.counted = s.voices.limit then s.steal else s

/-- R77 to R79: a note-on claim. -/
def State.noteOn (src : Source) (key velocity : Nat) (s : State) : State :=
  let soft := (s.context src).soft
  if s.fetch.status ≠ .valid then s.tally .notesDropped
  else
    match s.fetch.chooseZone key (effectiveVelocity soft velocity) with
    | none => s.tally .notesDropped
    | some z =>
      let gain := voiceGain ((s.fetch.zone? z).elim 0 (·.gain)) velocity soft
      (({ s with voices := s.voices.restrike src key } : State).stealIfFull).allocateVoice src key velocity z gain

/-! ### Holding and damping (R80 to R83) -/

/-- R81: a released SOUNDING voice that is not held goes to DAMPED, with the release time for its source's damper level
and 0 dB. -/
def Voice.testHeld (c : PedalContext) (w : Voice) : Voice :=
  if w.phase = .sounding ∧ w.released = true ∧ c.holds w.key = false then
    { w with phase := .damped (releaseTime c.damper) 0 }
  else w

/-- R81: a note-off claim takes effect on its counted voice. -/
def Voice.noteOff (c : PedalContext) (w : Voice) : Voice :=
  match w.phase with
  | .starting | .sounding => ({ w with released := true } : Voice).testHeld c
  | .damped _ _ | .fading _ _ _ => w

/-- R81: a note-off claim. -/
def State.noteOff (src : Source) (key : Nat) (s : State) : State :=
  match s.voices.find src key with
  | none => s
  | some i =>
    { s with voices := { s.voices with table := updateAt (Option.map (Voice.noteOff (s.context src))) i s.voices.table } }

/-- R83: both passes over one voice of the source: a DAMPED voice takes the release time, a released SOUNDING voice no
longer held is damped. -/
def Voice.pedalChange (c : PedalContext) (w : Voice) : Voice :=
  match w.phase with
  | .damped _ att => { w with phase := .damped (releaseTime c.damper) att }
  | _ => w.testHeld c

/-- R83: a pedal change claim. -/
def State.pedalClaim (src : Source) (s : State) : State :=
  let c := s.context src
  { s with voices := { s.voices with
    table := s.voices.table.map (Option.map fun w => if w.source = src then w.pedalChange c else w) } }

/-! ### Ends and completions (R84, R85, R100, R104) -/

/-- A voice becomes FREE (R85) and its fetch is cancelled (R105). -/
def State.freeVoice (i : Nat) (s : State) : State :=
  { s with voices := s.voices.setVoice i none, fetch := s.fetch.cancel i }

/-- R84, R100: a prime completion for the voice of an entry. -/
def State.primeDone (i : Nat) (w : Voice) (s : State) : State :=
  if w.phase = .starting then
    let w' := ({ w with phase := .sounding } : Voice).testHeld (s.context w.source)
    let f := s.fetch.setBuf i { s.fetch.buf i with due := true }
    let more := (s.fetch.zone? w.zone).any (·.hasSegment 1)
    { s with
      voices := s.voices.setVoice i (some w')
      fetch := if more then f.askRefill i 1 w.seq else f }
  else s

/-- R104: the data fill the half, which becomes FULL; a PRIME completion is then handled. -/
def State.segmentFills (e : FetchEntry) (w : Voice) (s : State) : State :=
  let b := s.fetch.buf e.voice
  let data := (s.fetch.zone? w.zone).elim [] fun z => s.segmentData z e.segment
  let s' := { s with
    fetch := s.fetch.setBuf e.voice (b.setHalf e.segment { fill := .full, segment := e.segment, data }) }
  if e.cls = .prime then s'.primeDone e.voice w else s'

/-- R104: a completed read is matched against its voice entry; otherwise its data are discarded. -/
def State.segmentMatched (e : FetchEntry) (s : State) : State :=
  match s.voices.voice? e.voice with
  | some w =>
    if ((s.fetch.buf e.voice).serves.map (·.seq)) = some e.seq then s.segmentFills e w else s
  | none => s

/-- R103, R104: the read of an entry completes, and the port, idle again, takes the next head entry. -/
def State.segmentDone (e : FetchEntry) (s : State) : State :=
  let s' := ({ s with fetch := { s.fetch with port := none } } : State).segmentMatched e
  { s' with fetch := s'.fetch.kick }

/-! ### Requests (R89 to R91) -/

/-- R89: POLY_SET's effect: both settings, then voices stolen under the new priority down to the limit. -/
def State.setPoly (limit : Nat) (p : Priority) (s : State) : State :=
  let s' := { s with voices := { s.voices with limit, priority := p } }
  s'.stealN (s'.voices.counted - limit)

/-- R90: a voice that SOUND_OFF fades. -/
def Voice.inScope (c : Scope) (w : Voice) : Bool := w.counted && scopeHolds c w.source

/-- R90: the number of voices SOUND_OFF fades. -/
def Voices.scopeCount (c : Scope) (v : Voices) : Nat := v.table.countP fun x => x.any (Voice.inScope c)

/-- R90: SOUND_OFF's effect. -/
def Voices.soundOff (c : Scope) (v : Voices) : Voices :=
  { v with table := v.table.map (Option.map fun w => if w.inScope c then w.fade else w) }

/-- R91: a source's voices by state. -/
def Voices.phases (src : Source) (v : Voices) : PhaseCounts :=
  let n (p : Voice → Bool) : Nat := v.table.countP fun x => x.any fun w => w.source == src && p w
  { starting := n fun w => w.phase == .starting
    sounding := n fun w => w.phase == .sounding
    damped := n Voice.isDamped
    fading := n fun w => !w.counted }

/-- R91: VOICE_QUERY's content. -/
def Voices.summary (v : Voices) : VoiceSummary :=
  { limit := v.limit, priority := v.priority, counter := v.counter, counted := v.counted, live := v.phases .live,
    playback := v.phases .playback, free := v.table.countP Option.isNone }

/-- R74: the state of a voice record. -/
def VoicePhase.state : VoicePhase → VoiceState
  | .starting => .starting
  | .sounding => .sounding
  | .damped _ _ => .damped
  | .fading _ _ _ => .fading

/-- The release time of a DAMPED voice (R74). -/
def VoicePhase.release : VoicePhase → Option Nat
  | .damped r _ => some r
  | _ => none

/-- R91: the release attenuation of a DAMPED voice, rounded down to a whole 0.5 dB step. -/
def VoicePhase.steps : VoicePhase → Option Nat
  | .damped _ a => some (a / attHalfDb)
  | _ => none

/-- The fade blocks of a FADING voice (R74). -/
def VoicePhase.fadeBlocks : VoicePhase → Option Nat
  | .fading n _ _ => some n
  | _ => none

/-- R91: one record of VOICE_READ: the fields of R74, those absent in its state none. -/
def State.voiceReport (s : State) (i : Nat) : VoiceReport :=
  let x := s.voices.voice? i
  { state := x.elim .free (·.phase.state)
    source := x.map (·.source), key := x.map (·.key), velocity := x.map (·.velocity), zone := x.map (·.zone)
    gain := x.map (·.gain), released := x.map (·.released), seq := x.map (·.seq)
    releaseTime := x.bind (·.phase.release)
    attSteps := x.bind (·.phase.steps)
    fadeBlocks := x.bind (·.phase.fadeBlocks)
    held := x.bind fun w =>
      if w.phase = .sounding ∧ w.released = true then some ((s.context w.source).holds w.key) else none }

/-- R93: the warm-reset state. -/
def Voices.warm (v : Voices) : Voices := { v with table := v.table.map fun _ => none, counter := 0 }

end Sys2Proof.Machine
end

