-- ==== Sys2Proof/Machine/MixOps.lean ====
section
/-! DEFINITION. The Headphone Mixer's shared operations (07): forming a frame, the output frame and the audio block
boundary for every voice, the plug monitor and the mute line. -/

namespace Sys2Proof.Machine

/-! ### Decibels as fixed-point factors

A factor 10^(−A/20) is a rational: a whole number of 2⁻²⁵⁶, correct to a few units, for what A has beyond a multiple of 20 dB,
and an exact power of 10 for that multiple. The sum of a frame is formed exactly from these factors and rounded once, so that
wherever the factors of the rules add up to a rational value, the value is exact (R111; log 23). -/

/-- 2²⁵⁶. -/
def fixedOne : Nat := 2 ^ 256

/-- ln 10 in units of 2⁻²⁵⁶, rounded down. -/
def fixedLn10 : Nat :=
  266621138564480548222253459415182587429914225440519472036001743423645469947338

/-- The terms of exp(−x) from term `n` on, `fuel` of them, `x` and the running term in fixed point: the even terms are
added and the odd ones taken off. -/
def expTerms (x : Nat) : Nat → Nat → Nat → Nat × Nat
  | 0, _, _ => (0, 0)
  | fuel + 1, n, term =>
    let r := expTerms x fuel (n + 1) (term * x / fixedOne / (n + 1))
    if n % 2 = 0 then (r.1 + term, r.2) else (r.1, r.2 + term)

/-- exp(−x) in fixed point, for x from 0 to ln 10: 100 terms leave less than 2⁻²⁵⁶. -/
def fixedExpNeg (x : Nat) : Nat :=
  let r := expTerms x 100 0 fixedOne
  r.1 - r.2

/-- 10^(−a/(20 dB)), for an attenuation in the units of `attDb`: exact for a multiple of 20 dB. -/
def fixedGain (a : Nat) : Rat :=
  let r := a % (20 * attDb)
  ((if r = 0 then fixedOne else fixedExpNeg (fixedLn10 * r / (20 * attDb)) : Nat) : Rat) / fixedOne
    / (10 : Rat) ^ (a / (20 * attDb))

/-! ### One frame (R111 to R113) -/

/-- R111: the left gain of a pan. -/
def panLeft (p : Nat) : Rat := if p ≤ 64 then 1 else ((127 - p : Nat) : Rat) / 63

/-- R111: the right gain of a pan. -/
def panRight (p : Nat) : Rat := if p < 64 then (p : Rat) / 64 else 1

/-- R86: the fade's weight in frame `k` of the block, in units of 1/240. -/
def fadeWeight (blocks k : Nat) : Nat := 240 - (48 * blocks + k)

/-- What a voice supplies to one frame: its source, its sample, its attenuation in units of `attDb`, its fade's weight of
240, and its pan (R87, R111). -/
structure Supply where
  source : Source
  sample : Int
  att : Nat
  fade : Nat
  pan : Nat
  deriving DecidableEq, Repr

/-- R101: the sample frame at a play position. -/
def StreamBuf.sample (b : StreamBuf) (p : Nat) : Int := ((b.half (p / 256)).data.getD (p % 256) 0).toInt

/-- R87, R111: what the voice of an entry supplies in frame `k` of the block. -/
def State.supply (s : State) (k : Nat) (e : Nat × Voice) : Option Supply :=
  let b := s.fetch.buf e.1
  let w := e.2
  b.pos.bind fun p =>
    let pan := (s.fetch.zone? w.zone).elim 64 (·.pan)
    let base := w.gain * attHalfDb
    let x (att fade : Nat) : Supply := { source := w.source, sample := b.sample p, att := base + att, fade, pan }
    match w.phase with
    | .starting => none
    | .sounding => some (x 0 240)
    | .damped _ a => some (x a 240)
    | .fading n started a => some (x a (if started then fadeWeight n k else 240))

/-- R112: the trim of a supply's bus, none when the output source does not select the bus. -/
def GainPath.trimFor (g : GainPath) (src : Source) : Option Nat :=
  match g.source, src with
  | .silence, _ => none
  | .both, .live => some g.liveTrim
  | .both, .playback => some g.playTrim
  | .liveOnly, .live => some g.liveTrim
  | .liveOnly, .playback => none
  | .playbackOnly, .playback => some g.playTrim
  | .playbackOnly, .live => none

/-- R113: the master attenuation in units, none for MUTED. -/
def masterAtt : Master → Option Nat
  | .code n => some (n * attHalfDb)
  | .muted => none

/-- R111 to R113: a supply's part of the mixed frame, left and right, after its trim and the master gain. The three attenuations
are added before their one factor is taken (log 23). -/
def GainPath.part (g : GainPath) (x : Supply) : Rat × Rat :=
  match masterAtt g.master, g.trimFor x.source with
  | some m, some t =>
    let f : Rat := (x.sample : Rat) * 256 * fixedGain (x.att + t * attHalfDb + m) * ((x.fade : Rat) / 240)
    (f * panLeft x.pan, f * panRight x.pan)
  | _, _ => (0, 0)

/-- R112: the mixed frame under a gain path. -/
def GainPath.mix (g : GainPath) (xs : List Supply) : Rat × Rat :=
  let left := (xs.map fun x => (g.part x).1).sum
  let right := (xs.map fun x => (g.part x).2).sum
  match g.channel with
  | .stereo => (left, right)
  | .mono => ((left + right) / 2, (left + right) / 2)

/-- R115, R116: the frame with its ramp, for frame `k` of the block. -/
def Mixer.ramped (m : Mixer) (k : Nat) (xs : List Supply) : Rat × Rat :=
  let new := m.inForce.mix xs
  let w : Rat := (k : Rat) / 48
  match m.ramp with
  | .none => new
  | .silence => (w * new.1, w * new.2)
  | .settings g =>
    let old := g.mix xs
    ((1 - w) * old.1 + w * new.1, (1 - w) * old.2 + w * new.2)

/-- R113: rounded to the nearest whole number, halves away from zero. -/
def roundAway (x : Rat) : Int := if 0 ≤ x then (x + 1 / 2).floor else -(-x + 1 / 2).floor

/-- R113: saturated to the 24-bit range. -/
def saturate24 (x : Int) : Int := if x < -8388608 then -8388608 else if 8388607 < x then 8388607 else x

/-- R117: a slot: the value in the upper 24 bits, in the 16-bit width its lower 8 bits 0. -/
def slotOf (width : Nat) (x : Int) : BitVec 32 :=
  if width = 16 then BitVec.ofInt 32 (x / 256 * 65536) else BitVec.ofInt 32 (x * 256)

/-- R117: digital silence. -/
def silentFrame : AudioFrame := { left := 0, right := 0 }

/-- R115, R116: the number of the output frame to come within its block, 1 to 48. -/
def Mixer.frameNumber (m : Mixer) : Nat := min 48 (m.frameInBlock + 1)

/-- R111 to R117: the frame formed from what the voices supply, and whether it clipped. -/
def Mixer.form (m : Mixer) (xs : List Supply) : AudioFrame × Bool :=
  if m.silentOut then (silentFrame, false)
  else
    let sum := m.ramped m.frameNumber xs
    let l := roundAway sum.1
    let r := roundAway sum.2
    ({ left := slotOf m.widthInForce (saturate24 l), right := slotOf m.widthInForce (saturate24 r) },
      saturate24 l != l || saturate24 r != r)

/-- The supplies of every voice that plays. -/
def State.supplies (s : State) : List Supply := s.voices.allocated.filterMap (s.supply s.mixer.frameNumber)

/-- R113, R117: send the frame on the serial audio port; a clipped one counts MIXER_CLIPS. -/
def State.sendFrame (s : State) : State :=
  let f := s.mixer.form s.supplies
  let s' := { s with mixer := { s.mixer with port := f.1, frameInBlock := s.mixer.frameInBlock + 1 } }
  if f.2 then s'.tally .mixerClips else s'

/-! ### The play positions (R101, R102) -/

/-- R101: the voice crosses into the half of segment `n`. -/
def State.cross (i n : Nat) (w : Voice) (z : Zone) (s : State) : State :=
  let b := s.fetch.buf i
  let h := b.half n
  if h.fill = .full ∧ h.segment = n then
    let f := s.fetch.setBuf i { b with pos := some (256 * n) }
    if z.hasSegment (n + 1) then { s with fetch := f.askRefill i (n + 1) w.seq }
    else { s with fetch := f.setBuf i ((f.buf i).setHalf (n + 1) Half.empty) }
  else (s.freeVoice i).tally .fetchUnderruns

/-- R101: the play position of an entry's voice, `p`, advances by one. -/
def State.advance (i p : Nat) (w : Voice) (s : State) : State :=
  match s.fetch.zone? w.zone with
  | none => s
  | some z =>
    if z.loopStart.isNone && z.length ≤ p + 1 then s.freeVoice i
    else if (p + 1) % 256 = 0 then s.cross i ((p + 1) / 256) w z
    else { s with fetch := s.fetch.setBuf i { s.fetch.buf i with pos := some (p + 1) } }

/-- R101: one entry at an output frame. -/
def State.playEntry (s : State) (i : Nat) : State :=
  match s.voices.voice? i, (s.fetch.buf i).pos with
  | some w, some p => s.advance i p w
  | _, _ => s

/-- The 80 voice entries. -/
def voiceEntries : List Nat := List.range 80

/-- R101, R111: an output frame: it is formed and sent, and every play position present advances. Voices that cross halves in
the same frame place their REFILL entries in ascending entry number (DESIGN CHOICE, log 51). -/
def State.outputFrame (s : State) : State := voiceEntries.foldl State.playEntry s.sendFrame

/-! ### The audio block boundary -/

/-- R82, R86: what a boundary makes of a voice; none when it becomes FREE. -/
def Voice.boundary (w : Voice) : Option Voice :=
  match w.phase with
  | .starting | .sounding => some w
  | .damped r a => if attEnd ≤ a + attGrowth r then none else some { w with phase := .damped r (a + attGrowth r) }
  | .fading n started a =>
    if !started then some { w with phase := .fading n true a }
    else if 4 ≤ n then none
    else some { w with phase := .fading (n + 1) true a }

/-- R100: a voice that has entered SOUNDING begins to play. -/
def StreamBuf.begin (b : StreamBuf) : StreamBuf := if b.due then { b with pos := some 0, due := false } else b

/-- One entry at a boundary. -/
def State.boundaryEntry (s : State) (i : Nat) : State :=
  match s.voices.voice? i with
  | none => s
  | some w =>
    match w.boundary with
    | none => s.freeVoice i
    | some w' => { s with voices := s.voices.setVoice i (some w'), fetch := s.fetch.setBuf i (s.fetch.buf i).begin }

/-- R115 to R117: the mixer at a boundary. -/
def Mixer.boundary (m : Mixer) : Mixer :=
  let ramp : Ramp :=
    if m.silenceFlag then .none
    else if m.silentOut then .silence
    else if m.inForce = m.settings then .none
    else .settings m.inForce
  { m with ramp, inForce := m.settings, widthInForce := m.width, silentOut := m.silenceFlag, frameInBlock := 0 }

/-- An audio block boundary for every voice and the mixer. -/
def State.audioBoundary (s : State) : State :=
  let s' := voiceEntries.foldl State.boundaryEntry s
  { s' with mixer := s'.mixer.boundary }

/-! ### Plug monitor and mute line -/

/-- R118: enter SETTLING and start the settle timer with 50 ms. -/
def Mixer.settle (m : Mixer) : Mixer := { m with plug := .settling, plugTimer := some 50000 }

/-- R119: the PLUG notice. -/
def State.plugNotice (s : State) : Notice := .plug s.mixer.plug s.pins.plug s.mixer.plugDetect

/-- R120: the MUTE notice. -/
def State.muteNotice (s : State) : Notice := .mute s.muteActive s.mixer.muteMode s.pins.mute s.mixer.latched

/-- R118: a change of the plug detect line. -/
def State.plugLine (asserted : Bool) (s : State) : State :=
  if s.pins.plug = asserted then s
  else
    let s' := { s with pins := { s.pins with plug := asserted } }
    if s.mixer.plugDetect then ({ s' with mixer := s'.mixer.settle } : State).followSilence else s'

/-- R118: the settle timer expires. -/
def State.plugSettled (s : State) : State :=
  let s' := { s with mixer := { s.mixer with plug := if s.pins.plug then .seated else .empty, plugTimer := none } }
  (s'.notify s'.plugNotice).followSilence

/-- R119: the plug detection enable takes a value. -/
def State.setPlugDetect (on : Bool) (s : State) : State :=
  if s.mixer.plugDetect = on then s
  else if on then { s with mixer := { s.mixer with plugDetect := true }.settle }
  else
    let s' := { s with mixer := { s.mixer with plugDetect := false, plug := .seated, plugTimer := none } }
    if s.mixer.plug = .seated then s' else s'.notify s'.plugNotice

/-- R120: after a change at the mute line, its mode or its latch, MUTE is sent when the mute began or ended. -/
def State.muteFollows (was : Bool) (s : State) : State := if s.muteActive = was then s else s.notify s.muteNotice

/-- R120: a change of the mute line. -/
def State.muteLine (asserted : Bool) (s : State) : State :=
  if s.pins.mute = asserted then s
  else
    let latched := s.mixer.latched || (asserted && s.mixer.muteMode == .latch)
    (({ s with pins := { s.pins with mute := asserted }, mixer := { s.mixer with latched } } : State).muteFollows
      s.muteActive).followSilence

/-- R120: the mute mode takes a value. -/
def State.setMuteMode (mode : MuteMode) (s : State) : State :=
  if s.mixer.muteMode = mode then s
  else
    ({ s with mixer := { s.mixer with muteMode := mode, latched := mode == .latch && s.pins.mute } } : State).muteFollows
      s.muteActive

/-- R121: HP_CONFIG's effect, its values good. When both notices are sent, PLUG joins the queue before MUTE (DESIGN CHOICE,
log 53). -/
def State.setHeadphones (width : Nat) (plug : Bool) (mode : MuteMode) (s : State) : State :=
  ((({ s with mixer := { s.mixer with width } } : State).setPlugDetect plug).setMuteMode mode).followSilence

/-- R121: UNMUTE. -/
def State.unmute (s : State) : State × Status :=
  match s.mixer.muteMode, s.pins.mute with
  | .level, _ => (s, .refusedState)
  | .latch, true => (s, .busy)
  | .latch, false =>
    ((({ s with mixer := { s.mixer with latched := false } } : State).muteFollows s.muteActive).followSilence, .ok)

/-- R114: new gain path settings; a change to or from SILENCE moves the silence flag (R116). -/
def State.setGainPath (g : GainPath) (s : State) : State :=
  ({ s with mixer := { s.mixer with settings := g } } : State).followSilence

/-- R122: MIX_QUERY's content. -/
def State.mixReport (s : State) : MixReport :=
  { settings := s.mixer.settings, width := s.mixer.width, plugDetect := s.mixer.plugDetect, muteMode := s.mixer.muteMode,
    plug := s.mixer.plug, plugLine := s.pins.plug, plugLeft := s.mixer.plugTimer.left, muteLine := s.pins.mute,
    latched := s.mixer.latched, muteActive := s.muteActive, silent := s.mixer.silentOut,
    rampBlock := match s.mixer.ramp with | .settings _ => true | _ => false
    silenceRamp := s.mixer.ramp == .silence }

/-- R124: the warm-reset state. -/
def Mixer.warm (m : Mixer) : Mixer := { m with silenceFlag := true, silentOut := true, ramp := .none }

end Sys2Proof.Machine
end

