-- ==== Sys2Proof/Machine/RailOps.lean ====
section
/-! DEFINITION. The Rail Controller's shared operations (04): changing the rail state, driving, arriving, faulting, and the
reports from the flight table. -/

namespace Sys2Proof.Machine

/-- R8: the scanner takes a report of the rail state. -/
def Scanner.railReport (st : RailState) (settleMs : Nat) (sc : Scanner) : Scanner :=
  let resting (m : Mode) : Scanner :=
    if settleMs = 0 then { sc with target := m, settle := none }
    else { sc with target := .keyOnly, settle := Timer.ofMs settleMs }
  match st with
  | .acoustic => resting .free
  | .silent => resting .stopped
  | _ => { sc with target := .keyOnly, settle := none }

/-- R55: the content of a RAIL_STATE notice for the rail as it stands. -/
def Rail.stateNotice (r : Rail) (why : RailReason) : Notice :=
  .railState r.state why r.position (r.motion.map fun m => (m.kind, m.target, m.retreating))

/-- R55: what every change of rail state hands on: the reports to the scanner and the router, and the notice. -/
def State.reportRail (why : RailReason) (s : State) : State :=
  ({ s with
    scanner := s.scanner.railReport s.rail.state s.rail.config.settle
    router := { s.router with railState := s.rail.state } } : State).notify (s.rail.stateNotice why)

/-- Enter a rail state. When it is a change it is reported (R55); entering a state other than MOVING and HOMING brakes the
motor (R52). -/
def State.enterRail (st : RailState) (why : RailReason) (s : State) : State :=
  let r := { s.rail with state := st }
  let r := if st = .moving ∨ st = .homing then r else { r with drive := .brake, duty := 0 }
  let s' := { s with rail := r }
  if s.rail.state = st then s' else s'.reportRail why

/-- R60: the position lies within 8 counts of a target position. -/
def Rail.near (r : Rail) (target : Nat) : Bool := r.position.any fun p => dist p target ≤ 8

/-- The rail state of a named target. -/
def RailState.ofTarget : RailTarget → RailState
  | .acoustic => .acoustic
  | .silent => .silent

/-- The configured position of a named target (R58). -/
def RailConfig.position (c : RailConfig) : RailTarget → Nat
  | .acoustic => c.acoustic
  | .silent => c.silent

/-- R61: the arrival state of a motion: the origin when it was retreating, the target named otherwise. -/
def Motion.arrivalState (m : Motion) : RailState :=
  match m.retreating, m.origin with
  | true, some .acoustic => .acoustic
  | true, some .silent => .silent
  | true, some .parked => .parked
  | _, _ => (m.target.map RailState.ofTarget).getD .acoustic

/-- R61: arrival. The motor is braked, the motion record removed, RAIL_MOVES counted and the arrival state entered. -/
def State.arrive (why : RailReason) (s : State) : State :=
  match s.rail.motion with
  | none => s
  | some m =>
    (({ s with rail := { s.rail with motion := none, phase := none } } : State).tally .railMoves).enterRail
      m.arrivalState why

/-- R61: the reason an arrival of the present motion carries. -/
def Rail.arrivalReason (r : Rail) : RailReason :=
  if r.motion.any (·.retreating) then .retreated else .arrived

/-- R60: the drive mode toward a target position. -/
def Rail.toward (r : Rail) (target : Nat) : Drive :=
  if r.position.getD 0 < target then .forward else .reverse

/-- Drive toward the motion's target (R60): arrive at once when within 8 counts, else drive at the move duty. `start`
says that the motor starts to be driven, which sets the last encoder change (R57). The state entered is MOVING. -/
def State.driveMove (why arrival : RailReason) (start : Bool) (s : State) : State :=
  match s.rail.motion with
  | none => s
  | some m =>
    let target := m.targetPos.getD 0
    if s.rail.near target then s.arrive arrival
    else
      let m' := if start then { m with lastChange := s.clock } else m
      ({ s with
        rail := { s.rail with motion := some m', drive := s.rail.toward target, duty := s.rail.config.moveDuty } }
        : State).enterRail .moving why

/-- R65: the drive of a homing phase, at the homing duty. -/
def Rail.homingDrive (r : Rail) : Rail :=
  { r with drive := if r.phase = some .escape then .forward else .reverse, duty := r.config.homingDuty }

/-- Drive in the homing phase: the rail enters HOMING (R64, R65); the motor starts to be driven. -/
def State.driveHome (why : RailReason) (s : State) : State :=
  let r := s.rail.homingDrive
  ({ s with rail := { r with motion := r.motion.map fun m => { m with lastChange := s.clock } } } : State).enterRail
    .homing why

/-- R67: the faults that a step of the same moment can follow: STALL and TIMEOUT. -/
def RailFault.timed : RailFault → Bool
  | .timeout | .stall => true
  | .limit | .encoder | .noIndex => false

/-- R70: a rail fault. In FAULT none is taken. A STALL or a TIMEOUT marks its moment for R67 (log 18). -/
def State.faultRail (kind : RailFault) (s : State) : State :=
  if s.rail.state = .fault then s
  else
    (({ s with rail := { s.rail with lastFault := some kind, phase := none, faultNow := kind.timed } } : State).enterRail
      .fault (.fault kind)).tally .railFaults

/-- R62: a report of a flight record added: the view becomes occupied, and a driven rail is braked into HELD. -/
def State.flightAdded (s : State) : State :=
  let s' := { s with rail := { s.rail with occupied := true } }
  if s.rail.state = .moving ∨ s.rail.state = .homing then s'.enterRail .held .held else s'

/-- R63: the motion turns back to its origin. -/
def Rail.retreat (r : Rail) (m : Motion) (goal : RailTarget) : Rail :=
  { r with
    motion := some { m with target := some goal, targetPos := some (r.config.position goal), retreating := true, driven := 0 } }

/-- R63: where a held motion goes on when the flight table empties. -/
def Rail.resumed (r : Rail) : Rail :=
  match r.motion with
  | none => r
  | some m =>
    if m.kind = .move ∧ m.policy = .retreat ∧ m.retreating = false then
      match m.origin with
      | some .acoustic => r.retreat m .acoustic
      | some .silent => r.retreat m .silent
      | some .parked => r
      | none => r
    else r

/-- R63: a report that the flight table has become empty: the view becomes empty and a HELD motion goes on. -/
def State.flightEmptied (s : State) : State :=
  let s' := { s with rail := { s.rail with occupied := false } }
  if s.rail.state = .held then
    match s.rail.motion with
    | none => s'
    | some m =>
      match m.kind with
      | .home => s'.driveHome .resumed
      | .move =>
        let s'' := { s' with rail := s'.rail.resumed }
        s''.driveMove .resumed s''.rail.arrivalReason true
  else s'

/-- R64: begin a homing, as RAIL_HOME and auto-home do. The last encoder change is the moment of the request, in HELD too,
where no drive starts (DESIGN CHOICE, log 49). -/
def State.beginHome (s : State) : State :=
  let m : Motion :=
    { kind := .home, target := none, targetPos := none, origin := none, policy := .pause, retreating := false, driven := 0,
      lastChange := s.clock }
  let s' := { s with rail := { s.rail with
    motion := some m, position := none, autoHomeDue := false
    phase := some (if s.pins.acousticSwitch then .escape else .seek) } }
  if s.rail.occupied then s'.enterRail .held .held else s'.driveHome .commanded

/-- The origin a motion set up in a resting state has (R57). -/
def RailState.origin : RailState → Option Origin
  | .acoustic => some .acoustic
  | .silent => some .silent
  | .parked => some .parked
  | _ => none

/-- R58: set up a motion to a named target. The last encoder change is the moment of the request, in HELD too, where no drive
starts (DESIGN CHOICE, log 49). -/
def State.setUpMove (goal : RailTarget) (policy : Policy) (s : State) : State :=
  let m : Motion :=
    { kind := .move, target := some goal, targetPos := some (s.rail.config.position goal), origin := s.rail.state.origin,
      policy, retreating := false, driven := 0, lastChange := s.clock }
  let s' := { s with rail := { s.rail with motion := some m, phase := none } }
  if s.rail.occupied then s'.enterRail .held .held else s'.driveMove .commanded .arrived true

/-- R59: replace the target of a running or held move. -/
def State.replaceTarget (goal : RailTarget) (policy : Policy) (s : State) : State :=
  match s.rail.motion with
  | none => s
  | some m =>
    let m' := { m with target := some goal, targetPos := some (s.rail.config.position goal), policy, retreating := false, driven := 0 }
    let s' := { s with rail := { s.rail with motion := some m' } }
    if s.rail.state = .moving then s'.driveMove .commanded .arrived true else s'

/-- A HOME motion is HELD or under way (R58, R66). -/
def Rail.homingMotion (r : Rail) : Bool := r.motion.any (·.kind == .home)

/-- R58: RAIL_MOVE settled by the rail state, its arguments good. -/
def State.railMove (goal : RailTarget) (policy : Policy) (s : State) : State × Status :=
  match s.rail.state with
  | .unhomed | .homing => (s, .notHomed)
  | .fault => (s, .faulted)
  | .held => if s.rail.homingMotion then (s, .notHomed) else (s.replaceTarget goal policy, .ok)
  | .moving => (s.replaceTarget goal policy, .ok)
  | .acoustic | .silent =>
    if s.rail.state = RailState.ofTarget goal ∧ s.rail.near (s.rail.config.position goal) = true then (s, .ok)
    else (s.setUpMove goal policy, .ok)
  | .parked => (s.setUpMove goal policy, .ok)

/-- R66: RAIL_STOP settled by the rail state. -/
def State.railStop (s : State) : State × Status :=
  let stop (st : RailState) : State :=
    ({ s with rail := { s.rail with motion := none, phase := none } } : State).enterRail st .stopped
  match s.rail.state with
  | .moving => (stop .parked, .ok)
  | .homing => (stop .unhomed, .ok)
  | .held => (stop (if s.rail.homingMotion then .unhomed else .parked), .ok)
  | _ => (s, .refusedState)

/-- R56: RAIL_CONFIG settled: its ranges first, then the rail state. -/
def State.railConfig (c : RailConfig) (s : State) : State × Status :=
  if !railConfigOk c then (s, .badArgument)
  else
    match s.rail.state with
    | .moving | .held | .homing => (s, .busy)
    | _ => ({ s with rail := { s.rail with config := c } }, .ok)

/-- R53: the position after one step, kept within 0 to 4095. -/
def stepPosition (up : Bool) (p : Nat) : Nat := if up then min 4095 (p + 1) else p - 1

/-- R53, R67: a step moves the position: not in FAULT, but for a step at the very moment of a STALL or a TIMEOUT that was
taken first (log 18). -/
def Rail.stepMoves (r : Rail) : Bool := r.state != .fault || r.faultNow

/-- R53: a legal encoder change: the position, the last encoder change, and in MOVING the arrival test of R60. -/
def State.encoderStep (up : Bool) (s : State) : State :=
  let position := if s.rail.stepMoves then s.rail.position.map (stepPosition up) else s.rail.position
  let motion := if s.rail.driven then s.rail.motion.map fun m => { m with lastChange := s.clock } else s.rail.motion
  let s' := { s with rail := { s.rail with position, motion } }
  if s.rail.state = .moving then s'.driveMove .commanded s'.rail.arrivalReason false else s'

/-- R69: an illegal encoder change faults the rail, but not in UNHOMED. -/
def State.encoderIllegal (s : State) : State :=
  if s.rail.state = .unhomed then s else s.faultRail .encoder

/-- R65: the move that continues a homing after its index. The drive is not started anew, so the last encoder change is
kept (log 19). -/
def Rail.continuing (r : Rail) (now : Time) : Rail :=
  { r with
    position := some 1024
    phase := none
    motion := some
      { kind := .move, target := some .acoustic, targetPos := some r.config.acoustic, origin := none, policy := .pause,
        retreating := false, driven := 0, lastChange := (r.motion.map (·.lastChange)).getD now } }

/-- R65: an index edge in the SEEK phase of a HOME motion, HOMING or HELD; elsewhere it has no effect (R54). -/
def State.indexEdge (s : State) : State :=
  if s.rail.phase = some .seek then
    let s' := { s with rail := s.rail.continuing s.clock }
    match s.rail.state with
    | .homing => s'.driveMove .homed .homed false
    | .held => if s'.rail.near s'.rail.config.acoustic then s'.arrive .homed else s'
    | _ => s
  else s

/-- The level of an end switch's input becomes active or inactive (R54, R71). -/
def State.switchLevelSet (sw : EndSwitch) (closed : Bool) (s : State) : State :=
  match sw with
  | .acoustic => { s with pins := { s.pins with acousticSwitch := closed } }
  | .silent => { s with pins := { s.pins with silentSwitch := closed } }

/-- R65, R68, R69: an end switch closes. -/
def State.switchCloses (sw : EndSwitch) (s : State) : State :=
  match s.rail.state with
  | .moving =>
    if s.rail.near ((s.rail.motion.bind (·.targetPos)).getD 0) then s else s.faultRail .limit
  | .homing =>
    match sw with
    | .silent => s.faultRail .limit
    | .acoustic => if s.rail.phase = some .seek then s.faultRail .noIndex else s
  | .held =>
    match sw with
    | .silent => s
    | .acoustic => if s.rail.phase = some .seek then s.faultRail .noIndex else s
  | _ => s

/-- R65: the ACOUSTIC end switch opens during ESCAPE, HOMING or HELD: the phase becomes SEEK, and in HOMING the drive
REVERSE. -/
def State.switchOpens (sw : EndSwitch) (s : State) : State :=
  if sw = .acoustic ∧ s.rail.phase = some .escape then
    match s.rail.state with
    | .homing => { s with rail := { s.rail with phase := some .seek, drive := .reverse } }
    | .held => { s with rail := { s.rail with phase := some .seek } }
    | _ => s
  else s

/-- R67: the motor has been driven 150 ms since the last encoder change. -/
def State.stalled (s : State) : Bool :=
  s.rail.driven && s.rail.motion.any fun m => 150000 ≤ since m.lastChange s.clock

/-- R67: the driven time exceeds the travel limit. -/
def State.overTravel (s : State) : Bool :=
  s.rail.driven && s.rail.motion.any fun m => s.rail.config.travelLimit * 1000 < m.driven

/-- R71: the Rail Controller's report. -/
def State.railReport (s : State) : RailReport :=
  { state := s.rail.state, position := s.rail.position, drive := s.rail.drive,
    duty := if s.rail.driven then some s.rail.duty else none, occupied := s.rail.occupied, index := s.pins.index,
    acousticSwitch := s.pins.acousticSwitch, silentSwitch := s.pins.silentSwitch, motion := s.rail.motion,
    phase := s.rail.phase, lastFault := s.rail.lastFault, config := s.rail.config }

/-- R73: the Rail Controller's warm-reset state. -/
def Rail.warm (r : Rail) : Rail :=
  let r := { r with occupied := false, autoHomeDue := false }
  match r.state with
  | .acoustic | .silent | .parked => { r with motion := none, drive := .brake, duty := 0, phase := none }
  | .moving | .held | .homing =>
    { r with state := .unhomed, position := none, motion := none, drive := .brake, duty := 0, phase := none }
  | .fault => { r with drive := .brake, duty := 0 }
  | .unhomed => { r with motion := none, position := none, phase := none }

end Sys2Proof.Machine
end

