-- ==== Sys2Proof/Machine/PlayOps.lean ====
section
/-! DEFINITION. The Practice Player's and Wait Matcher's shared operations (10): claims, records, marks, loops, ends, pauses,
waits and slots. -/

namespace Sys2Proof.Machine

/-! ### Reading the take -/

/-- A record of the take with its position and its take time (R128). -/
structure Timed where
  pos : Nat
  record : TakeRecord
  time : Nat
  deriving DecidableEq, Repr

/-- R128: records with their positions and take times, from a position and the take time before it. -/
def timesFrom (pos time : Nat) : List TakeRecord → List Timed
  | [] => []
  | r :: rs => { pos, record := r, time := time + r.ticks } :: timesFrom (pos + 1) (time + r.ticks) rs

/-- R133: the records of a take from position 0 through END. -/
def Store.timed (st : Store) (tk : Take) : List Timed :=
  timesFrom 0 0 ((List.range tk.count).map fun p => st.record tk p)

/-- The records of the take being played. -/
def State.playRecords (s : State) : List Timed :=
  ((s.player.take.bind s.store.take?).map fun tk => s.store.timed tk).getD []

/-- R164: the records due at the take clock, from the position on. -/
def State.dueRecords (s : State) : List Timed :=
  (s.playRecords.drop s.player.pos).takeWhile fun x => x.time ≤ s.player.clock

/-- The first MARK record of a number (R162). -/
def findMark (n : Nat) (rs : List Timed) : Option Timed := rs.find? fun x => x.record.body == .mark n

/-! ### Notices and claims -/

/-- R161: the PLAYER_STATE notice for the take that is or was played. -/
def Player.stateNotice (p : Player) (take : Option Nat) (why : PlayReason) : Notice :=
  .playerState p.state why take p.clock p.mark p.repeats

/-- Release every open playback note, in ascending key index (R170, R171, R172). -/
def State.releaseOpen (s : State) : State :=
  let s' := s.player.openNotes.foldl (fun x k => x.noteOff .playback k) s
  { s' with player := { s'.player with openNotes := [] } }

/-- A pedal change claim of source PLAYBACK, when `b`. -/
def State.claimIf (b : Bool) (s : State) : State := if b then s.pedalClaim .playback else s

/-- The playback pedal context takes a value, with a pedal change claim for each pedal whose value differs from before and
one for SOSTENUTO when `emptied` (R163, R170, R171, R179). -/
def State.setContext (c : PedalContext) (emptied : Bool) (s : State) : State :=
  let old := s.player.context
  let s' := { s with player := { s.player with context := c } }
  ((s'.claimIf (old.damper != c.damper)).claimIf (old.sostenuto != c.sostenuto || emptied)).claimIf (old.soft != c.soft)

/-- R166: a PEDAL record's value in the playback pedal context. -/
def PedalContext.take (pedal level : Nat) (openNotes : List Nat) (c : PedalContext) : PedalContext :=
  match pedal with
  | 0 => { c with damper := level }
  | 1 =>
    if 64 ≤ level then (if c.sostenuto then c else { c with sostenuto := true, set := openNotes })
    else (if c.sostenuto then { c with sostenuto := false, set := [] } else c)
  | _ => { c with soft := level }

/-- R163: a PEDAL record's value in the pedal snapshot. -/
def Snapshot.take (x : Snapshot) (r : TakeRecord) : Snapshot :=
  match r.body with
  | .pedal 0 l => { x with damper := l }
  | .pedal 1 l => { x with sostenuto := decide (64 ≤ l) }
  | .pedal _ l => { x with soft := l }
  | _ => x

/-- The pedal context a snapshot gives: its sostenuto set empty (R163, R170). -/
def Snapshot.context (x : Snapshot) : PedalContext :=
  { damper := x.damper, sostenuto := x.sostenuto, soft := x.soft, set := [] }

/-! ### Intervals (R164) -/

/-- A fraction in lowest terms. -/
def Frac.of (n d : Nat) : Frac := { num := n / Nat.gcd n d, den := d / Nat.gcd n d }

/-- No fraction of a microsecond carried. -/
def Frac.zero : Frac := { num := 0, den := 1 }

/-- R164: a tick interval starts: 100,000 / P µs with the fraction carried from the interval before. -/
def Player.startInterval (p : Player) : Player :=
  let n := 100000 * p.carry.den + p.carry.num * p.tempo
  let d := p.tempo * p.carry.den
  { p with tickLeft := some (n / d), carry := Frac.of (n % d) d }

/-- R164: ticks stop, and the carried fraction is discarded. -/
def Player.stopTicks (p : Player) : Player := { p with tickLeft := none, carry := Frac.zero }

/-! ### Tallies and waits (R175 to R177) -/

/-- One more in a tally of 0 to 65,535 (log 35). -/
def tallyUp (n : Nat) : Nat := if n < 65535 then n + 1 else Config.tallyBeyond.toNat

/-- One hit. -/
def State.countHit (s : State) : State :=
  ({ s with player := { s.player with hits := tallyUp s.player.hits } } : State).tally .waitHits

/-- One miss. -/
def State.countMiss (s : State) : State :=
  ({ s with player := { s.player with misses := tallyUp s.player.misses } } : State).tally .waitMisses

/-- One wrong note. -/
def State.countWrong (s : State) : State :=
  ({ s with player := { s.player with wrong := tallyUp s.player.wrong } } : State).tally .waitWrong

/-- The tallies return to 0, the wait timer stops, and the time spent in WAITING with them. -/
def Player.clearWait (p : Player) : Player :=
  { p with hits := 0, misses := 0, wrong := 0, waitTimer := none, waitSpent := 0 }

/-- R175: a key is offered to the expected set. -/
def State.offerKey (k : Nat) (s : State) : State :=
  if s.player.expected.contains k then s
  else if 16 ≤ s.player.expected.length then s.countMiss
  else { s with player := { s.player with expected := insertNat k s.player.expected } }

/-- R176: the duration of a wait: the time spent in WAITING, in whole milliseconds. -/
def Player.waited (p : Player) : Nat := p.waitSpent / 1000

/-- R176: the wait ends: its notice with a duration, and the tallies return to 0. -/
def State.endWait (how : WaitEnd) (duration : Nat) (s : State) : State :=
  let p := s.player
  ({ s with player := p.clearWait } : State).notify
    (.waitResult p.take p.clock p.mark p.hits p.misses p.wrong duration how)

/-- R175: the place of the newest entry of a key within the early window. -/
def newestWithin (k : Nat) (now : Time) (windowMs : Nat) (es : List (Nat × Time)) : Option Nat :=
  (numbered 0 es).foldl
    (fun found x => if x.2.1 = k ∧ since x.2.2 now ≤ windowMs * 1000 then some x.1 else found) none

/-- R175: the early match of one expected key. -/
def State.earlyMatchKey (s : State) (k : Nat) : State :=
  match newestWithin k s.clock s.player.window s.player.recent with
  | none => s
  | some i =>
    ({ s with player := { s.player with
      expected := removeNat k s.player.expected, recent := s.player.recent.eraseIdx i } } : State).countHit

/-- R175: the early match of every expected key, in ascending key index. -/
def State.earlyMatch (s : State) : State := s.player.expected.foldl State.earlyMatchKey s

/-- R175: the player enters WAITING. -/
def State.enterWaiting (s : State) : State :=
  { s with player := { s.player.stopTicks with
    state := .waiting, waitStart := s.clock, waitTimer := Timer.ofMs s.player.timeout } }

/-- R164, R175: the wait test. With an empty expected set, or one the early match empties, a new interval starts; the wait
such a match ends has a duration of 0. -/
def State.waitTest (s : State) : State :=
  if s.player.expected = [] then { s with player := s.player.startInterval }
  else
    let s' := s.earlyMatch
    if s'.player.expected = [] then
      let s'' := s'.endWait .allStruck 0
      { s'' with player := s''.player.startInterval }
    else s'.enterWaiting

/-! ### Ending and pausing (R171, R172) -/

/-- R171, step 3, and R178: the wait is dropped without counting. -/
def Player.dropWait (p : Player) : Player :=
  { p.clearWait with expected := [], recent := [], waitPending := false }

/-- R171: the take ends. -/
def State.endTake (why : PlayReason) (s : State) : State :=
  let s1 := s.releaseOpen.setContext PedalContext.clear false
  let p := { s1.player.dropWait.stopTicks with staged := none, halt := none, cueLeft := 0, resume := none, state := .idle }
  let store := match p.take with | some id => s1.store.unpin .player id | none => s1.store
  ({ s1 with store, player := { p with take := none } } : State).notify (p.stateNotice p.take why)

/-- R172: the pause. -/
def State.pausePlay (s : State) : State :=
  let s1 := s.releaseOpen
  let p := { s1.player.stopTicks with waitTimer := none, waitPending := !s1.player.expected.isEmpty, state := .paused }
  ({ s1 with player := p } : State).notify (p.stateNotice p.take .paused)

/-! ### Loops and marks (R168, R170) -/

/-- R170: a repeat remains. -/
def Repeats.remain : Repeats → Bool
  | .endless => true
  | .times n => n != 0

/-- R170: a numeric repeats remaining falls by one. -/
def Repeats.down : Repeats → Repeats
  | .endless => .endless
  | .times n => .times (n - 1)

/-- R170: the loop jump. -/
def State.loopJump (s : State) : State :=
  let s1 := s.releaseOpen
  let s2 := s1.setContext s1.player.snapshot.context (!s1.player.context.set.isEmpty)
  let p := s2.player
  { s2 with player := { p with
    pos := p.loopPos, clock := p.loopTime, tickStart := p.loopPos, mark := p.fromMark, repeats := p.repeats.down } }

/-- What follows the handling of a record: the next one, the records that follow a loop jump, or nothing more. -/
inductive Go | next | jump | stop
  deriving DecidableEq, Repr

/-- R170: a loop end; `jumped` says that a jump was made before in the same tick. -/
def State.loopEnd (jumped : Bool) (s : State) : State × Go :=
  if s.player.repeats.remain && !jumped then (s.loopJump, .jump) else (s.endTake .ended, .stop)

/-- R168, step 5: a pending halt acts. -/
def State.haltActs (go : Go) (s : State) : State × Go :=
  match s.player.halt with
  | none => (s, go)
  | some .stop => (s.endTake .stopped, .stop)
  | some .pause => (({ s with player := { s.player with halt := none } } : State).pausePlay, .stop)

/-- R168, steps 1 to 3. -/
def State.markPassed (n time : Nat) (s : State) : State :=
  let s1 := { s with player := { s.player with mark := some n } }
  let s2 := if s.player.reportMarks then s1.notify (.playerMark n time s.player.repeats) else s1
  match s.player.staged with
  | none => s2
  | some t => { s2 with player := { s2.player with tempo := t, staged := none } }

/-- R168: a MARK record handled. -/
def State.handleMark (n time : Nat) (jumped : Bool) (s : State) : State × Go :=
  let s1 := s.markPassed n time
  if s.player.toMark = some n then
    match s1.loopEnd jumped with
    | (s2, .stop) => (s2, .stop)
    | (s2, go) => s2.haltActs go
  else s1.haltActs .next

/-! ### Records (R166) -/

/-- The part of a hand. -/
def Parts.part (p : Parts) : Hand → Part
  | .left => p.left
  | .right => p.right
  | .none => p.noHand

/-- R166: a NOTE_ON record. -/
def State.handleOn (k v : Nat) (part : Part) (s : State) : State :=
  match part with
  | .sound =>
    let s' := s.noteOn .playback k v
    { s' with player := { s'.player with openNotes := insertNat k s'.player.openNotes } }
  | .mute => s
  | .practice => s.offerKey k

/-- R166: a NOTE_OFF record. -/
def State.handleOff (k : Nat) (s : State) : State :=
  if s.player.openNotes.contains k then
    let s' := s.noteOff .playback k
    { s' with player := { s'.player with openNotes := removeNat k s'.player.openNotes } }
  else s

/-- R166: one record handled; the position passes it first. -/
def State.handleRecord (x : Timed) (jumped : Bool) (s0 : State) : State × Go :=
  let s := { s0 with player := { s0.player with pos := x.pos + 1 } }
  match x.record.body with
  | .noteOn k v => (s.handleOn k v (s.player.parts.part ((handOf x.record.hand).getD .none)), .next)
  | .noteOff k => (s.handleOff k, .next)
  | .pedal p l => (s.setContext (s.player.context.take p l s.player.openNotes) false, .next)
  | .mark n => s.handleMark n x.time jumped
  | .endTake => if s.player.toMark = none then s.loopEnd jumped else (s.endTake .ended, .stop)
  | .fill | .gap _ | .unknown _ => (s, .next)

/-- Records handled in position order, until one jumps or stops. -/
def State.handleList (jumped : Bool) : List Timed → State → State × Go
  | [], s => (s, .next)
  | x :: xs, s =>
    match s.handleRecord x jumped with
    | (s', .next) => s'.handleList jumped xs
    | (s', go) => (s', go)

/-- R164, R170: the records due at the take clock; after a loop jump, those due at the loop start, and no second jump.
Answers whether the player goes on. -/
def State.handleDue (s : State) : State × Bool :=
  match s.handleList false s.dueRecords with
  | (s', .next) => (s', true)
  | (s', .stop) => (s', false)
  | (s', .jump) =>
    match s'.handleList true s'.dueRecords with
    | (s'', .stop) => (s'', false)
    | (s'', _) => (s'', true)

/-- R164: the records due, then the wait test. -/
def State.handleAndTest (s : State) : State :=
  match s.handleDue with
  | (s', true) => s'.waitTest
  | (s', false) => s'

/-- R164: the player enters PLAYING. -/
def State.enterPlaying (s : State) : State :=
  ({ s with player := { s.player with state := .playing } } : State).handleAndTest

/-- R164: one tick. -/
def State.playTick (s : State) : State :=
  ({ s with player := { s.player with clock := s.player.clock + 1, tickStart := s.player.pos } } : State).handleAndTest

/-! ### Starting, cueing, resuming (R162, R163, R178, R179) -/

/-- R163: the records a cue reads: up to and including the from mark's. -/
def State.cueRecords (s : State) : List Timed :=
  match s.player.fromMark with
  | none => []
  | some n =>
    match findMark n s.playRecords with
    | none => []
    | some x => s.playRecords.take (x.pos + 1)

/-- R163: the time a cue takes: 50 µs for each 32 records. -/
def cueTime (records : Nat) : Nat := 50 * ((records + 31) / 32)

/-- R163: the pedal snapshot and the loop start from the records read. -/
def State.cueLoop (s : State) : Player :=
  let rs := s.cueRecords
  let snapshot := rs.foldl (fun a x => a.take x.record) { damper := 0, sostenuto := false, soft := 0 }
  let last := rs.getLast?
  { s.player with snapshot, loopPos := last.elim 0 (·.pos + 1), loopTime := last.elim 0 (·.time) }

/-- R163, R179: where playing begins after a cue, and under which pedal context. -/
def State.cueEnd (s : State) : State :=
  let p := s.cueLoop
  match p.resume with
  | none =>
    ({ s with player := { p with pos := p.loopPos, clock := p.loopTime, mark := p.fromMark, tickStart := p.loopPos } }
      : State).setContext p.snapshot.context false
  | some c =>
    ({ s with player := { p with pos := c.pos, clock := c.clock, mark := c.mark, tickStart := c.pos, resume := none } }
      : State).setContext c.context false

/-- R161, R163: the cue ends; the CUED notice, with the state entered, comes before the records handled at once
(log 29). -/
def State.cueDone (s : State) : State :=
  let s1 := s.cueEnd
  let p := s1.player
  let entered : PlayerState := if s1.enterPlaying.player.state = .waiting then .waiting else .playing
  (s1.notify (({ p with state := entered } : Player).stateNotice p.take .cued)).enterPlaying

/-- R162: the marks of PLAY_START are 1 to 255 when they are named. -/
def marksOk (fromMark toMark : Option Nat) : Bool := fromMark.all markOk && toMark.all markOk

/-- R162, check 4: the marks named lie in the take. -/
def marksFound (rs : List Timed) (fromMark toMark : Option Nat) : Bool :=
  let start := fromMark.bind fun n => findMark n rs
  (fromMark.isNone || start.isSome)
    && toMark.all fun n => (findMark n (rs.drop (start.elim 0 (·.pos + 1)))).isSome

/-- R161, R162, R179: the player enters CUEING and the cue's reading begins. -/
def State.beginCue (why : PlayReason) (s : State) : State :=
  let s1 := { s with player := { s.player with state := .cueing } }
  ({ s1 with player := { s1.player with cueLeft := cueTime s1.cueRecords.length } } : State).notify
    (s1.player.stateNotice s1.player.take why)

/-- R162: PLAY_START, its parts named. -/
def State.playStart (id : Nat) (fromMark toMark : Option Nat) (loops tempo : Nat) (parts : Parts) (report : Bool)
    (s : State) : State × Status :=
  if !(takeIdOk id && marksOk fromMark toMark && loops ≤ 255 && tempoOk tempo) then (s, .badArgument)
  else if s.player.state ≠ .idle then (s, .busy)
  else
    match s.store.closed? id with
    | none => (s, .refusedState)
    | some tk =>
      if !marksFound (s.store.timed tk) fromMark toMark then (s, .notFound)
      else
        let p := { s.player with
          take := some id, fromMark, toMark, tempo, parts, reportMarks := report
          repeats := if loops = 0 then .endless else .times (loops - 1)
          staged := none, halt := none, mark := none, waitPending := false, openNotes := [], expected := []
          pos := 0, clock := 0, resume := none }
        (({ s with store := s.store.pin .player id, player := p } : State).beginCue .started, .ok)

/-- The holder of a slot. -/
def SlotHolder : SlotId → Holder
  | .a => .slotA
  | .b => .slotB

/-- A slot's content. -/
def Player.slot (p : Player) : SlotId → Option Saved
  | .a => p.slotA
  | .b => p.slotB

/-- Replace a slot's content. -/
def Player.setSlot (x : SlotId) (c : Option Saved) (p : Player) : Player :=
  match x with
  | .a => { p with slotA := c }
  | .b => { p with slotB := c }

/-- R178: the position a suspend saves. -/
def Player.savedPos (p : Player) : Nat :=
  if p.state = .waiting ∨ (p.state = .paused ∧ p.waitPending = true) then p.tickStart else p.pos

/-- R178: the saved context. -/
def Player.saved (p : Player) (take : Nat) : Saved :=
  { take, clock := p.clock, pos := p.savedPos, tempo := p.tempo, staged := p.staged, halt := p.halt, repeats := p.repeats,
    fromMark := p.fromMark, toMark := p.toMark, parts := p.parts, reportMarks := p.reportMarks, window := p.window,
    timeout := p.timeout, context := p.context, mark := p.mark }

/-- R178: PLAY_SUSPEND. -/
def State.playSuspend (x : SlotId) (s : State) : State × Status :=
  match s.player.state, s.player.take with
  | .idle, _ => (s, .refusedState)
  | .cueing, _ => (s, .refusedState)
  | _, none => (s, .refusedState)
  | _, some id =>
    if (s.player.slot x).isSome then (s, .busy)
    else
      let s1 := { s with
        store := s.store.movePin .player (SlotHolder x) id
        player := s.player.setSlot x (some (s.player.saved id)) }
      let s2 := s1.releaseOpen.setContext PedalContext.clear false
      let p := { s2.player.dropWait.stopTicks with state := .idle }
      (({ s2 with player := { p with take := none } } : State).notify (p.stateNotice p.take .suspended), .ok)

/-- R179: PLAY_RESUME. -/
def State.playResume (x : SlotId) (s : State) : State × Status :=
  if s.player.state ≠ .idle then (s, .busy)
  else
    match s.player.slot x with
    | none => (s, .notFound)
    | some c =>
      let p := { s.player.setSlot x none with
        take := some c.take, clock := c.clock, pos := c.pos, tempo := c.tempo, staged := c.staged, halt := c.halt
        repeats := c.repeats, fromMark := c.fromMark, toMark := c.toMark, parts := c.parts
        reportMarks := c.reportMarks, window := c.window, timeout := c.timeout, mark := c.mark
        openNotes := [], expected := [], waitPending := false, resume := some c }
      (({ s with store := s.store.movePin (SlotHolder x) .player c.take, player := p } : State).beginCue .resumed, .ok)

/-- R179: SLOT_DISCARD. -/
def State.slotDiscard (x : SlotId) (s : State) : State × Status :=
  match s.player.slot x with
  | none => (s, .notFound)
  | some c => ({ s with store := s.store.unpin (SlotHolder x) c.take, player := s.player.setSlot x none }, .ok)

/-! ### Requests (R165, R167, R169, R172, R173, R177) -/

/-- R165: PLAY_TEMPO, its time named. -/
def State.playTempo (tempo : Nat) (w : When) (s : State) : State × Status × Content :=
  if !tempoOk tempo then (s, .badArgument, .nothing)
  else if s.player.state = .idle then (s, .refusedState, .nothing)
  else
    let p := match w with
      | .now => { s.player with tempo }
      | .atMark => { s.player with staged := some tempo }
    ({ s with player := p }, .ok, .tempo p.tempo p.staged)

/-- R167: PLAY_PARTS, its parts named. -/
def State.playParts (parts : Parts) (s : State) : State × Status :=
  if s.player.state = .idle then (s, .refusedState)
  else
    let s1 := { s with player := { s.player with parts } }
    if parts.practises then (s1, .ok)
    else
      let dropped := { s1 with player := { s1.player.clearWait with expected := [], waitPending := false } }
      match s.player.state with
      | .waiting => (dropped.enterPlaying, .ok)
      | .paused => if s.player.waitPending then (dropped, .ok) else (s1, .ok)
      | _ => (s1, .ok)

/-- R169: PLAY_STOP, its time named. -/
def State.playStop (w : When) (s : State) : State × Status :=
  if s.player.state = .idle then (s, .refusedState)
  else
    match w with
    | .now => (s.endTake .stopped, .ok)
    | .atMark => ({ s with player := { s.player with halt := some .stop } }, .ok)

/-- R169, R172: PLAY_PAUSE, its time named. -/
def State.playPause (w : When) (s : State) : State × Status :=
  match s.player.state, w with
  | .idle, _ => (s, .refusedState)
  | _, .atMark => ({ s with player := { s.player with halt := some .pause } }, .ok)
  | .playing, .now => (s.pausePlay, .ok)
  | .waiting, .now => (s.pausePlay, .ok)
  | _, .now => (s, .refusedState)

/-- R173: PLAY_CONTINUE. The notice is sent with the state entered; a take that one of the records ended or paused has sent
its own. -/
def State.playContinue (s : State) : State × Status :=
  if s.player.state ≠ .paused then (s, .refusedState)
  else
    let s1 := ({ s with player := { s.player with waitPending := false } } : State).enterPlaying
    match s1.player.state with
    | .playing | .waiting => (s1.notify (s1.player.stateNotice s1.player.take .continued), .ok)
    | _ => (s1, .ok)

/-- R177: WAIT_CONFIG. -/
def State.waitConfig (window timeout : Nat) (s : State) : State × Status :=
  if !waitOk window timeout then (s, .badArgument)
  else ({ s with player := { s.player with window, timeout } }, .ok)

/-! ### Strikes and timers (R174, R176, R177) -/

/-- R174: a strike joins the tail of the recent-strike list, whose oldest entry leaves when it holds 16. -/
def addRecent (k : Nat) (t : Time) (es : List (Nat × Time)) : List (Nat × Time) :=
  (if 16 ≤ es.length then es.drop 1 else es) ++ [(k, t)]

/-- R176: a strike judged in WAITING. -/
def State.judge (k : Nat) (s : State) : State :=
  if s.player.expected.contains k then
    let s1 := ({ s with player := { s.player with expected := removeNat k s.player.expected } } : State).countHit
    if s1.player.expected = [] then (s1.endWait .allStruck s1.player.waited).enterPlaying else s1
  else s.countWrong

/-- R174, R176: a live NOTE_ON delivered to the Wait Matcher. -/
def State.matchStrike (k : Nat) (t : Time) (s : State) : State :=
  match s.player.state with
  | .playing => { s with player := { s.player with recent := addRecent k t s.player.recent } }
  | .waiting => s.judge k
  | _ => s

/-- Count `n` misses. -/
def State.countMisses : Nat → State → State
  | 0, s => s
  | n + 1, s => State.countMisses n s.countMiss

/-- R177: the wait timer expires in WAITING. -/
def State.waitExpires (s : State) : State :=
  let s1 := s.countMisses s.player.expected.length
  (({ s1 with player := { s1.player with expected := [] } } : State).endWait .timeout s1.player.waited).enterPlaying

/-! ### Reports and reset (R180, R182) -/

/-- R180: PLAYER_QUERY's content. -/
def Player.report (p : Player) : PlayReport :=
  { state := p.state, take := p.take, pos := p.pos, clock := p.clock, tickStart := p.tickStart, tempo := p.tempo,
    staged := p.staged, halt := p.halt, fromMark := p.fromMark, toMark := p.toMark, repeats := p.repeats,
    parts := p.parts, reportMarks := p.reportMarks, mark := p.mark, context := p.context, openNotes := p.openNotes,
    waitPending := p.waitPending, expected := p.expected, recent := p.recent, window := p.window, timeout := p.timeout,
    waitLeft := p.waitTimer.left, hits := p.hits, misses := p.misses, wrong := p.wrong,
    slotA := p.slotA.map fun c => (c.take, c.clock), slotB := p.slotB.map fun c => (c.take, c.clock) }

/-- R182: the warm-reset state. -/
def Player.warm (p : Player) : Player := { Player.reset with window := p.window, timeout := p.timeout }

end Sys2Proof.Machine
end

