-- ==== Sys2Proof/Machine/RecOps.lean ====
section
/-! DEFINITION. The Recorder's shared operations (09, section 9.1): writing one record with its GAP records, asking for
blocks, taking live events, pausing, resuming and closing. -/

namespace Sys2Proof.Machine

/-! ### The open-note set -/

/-- A key joins the open-note set, in ascending key index, with the hand of its NOTE_ON. -/
def insertOpen (k : Nat) (h : Hand) : List (Nat × Hand) → List (Nat × Hand)
  | [] => [(k, h)]
  | e :: es => if k < e.1 then (k, h) :: e :: es else if k = e.1 then (k, h) :: es else e :: insertOpen k h es

/-- A key leaves the open-note set. -/
def removeOpen (k : Nat) (es : List (Nat × Hand)) : List (Nat × Hand) := es.filter (·.1 != k)

/-- The hand stored for a key. -/
def openHand (k : Nat) (es : List (Nat × Hand)) : Option Hand := (es.find? (·.1 == k)).map (·.2)

/-- R149: what the writing of a record makes of the open-note set. -/
def openAfter (body : RecordBody) (h : Hand) (es : List (Nat × Hand)) : List (Nat × Hand) :=
  match body with
  | .noteOn k _ => insertOpen k h es
  | .noteOff k => removeOpen k es
  | _ => es

/-! ### One record (R135, R147, R151) -/

/-- The take being recorded, with its id. -/
def State.recTake? (s : State) : Option (Nat × Take) :=
  s.recorder.take.bind fun id => (s.store.take? id).map fun tk => (id, tk)

/-- R151: ask the Take Store for one more block (R135); false when the pool is empty. -/
def State.askBlock (id : Nat) (tk : Take) (s : State) : State × Bool :=
  if s.store.pool = [] then (s, false) else ({ s with store := s.store.allocate id 1 tk }, true)

/-- R135, R129, R149: write one record at the write position; then ask for a block when the reserve holds fewer than four
(R151). Answers false when the ask failed. -/
def State.emit (body : RecordBody) (h : Hand) (delta : Nat) (s : State) : State × Bool :=
  match s.recTake? with
  | none => (s, true)
  | some (id, tk) =>
    let r : TakeRecord := { body, hand := h.code, delta }
    let time := s.recorder.last + r.ticks
    let tk' := { tk with
      count := tk.count + 1, duration := time, marks := match body with | .mark _ => tk.marks + 1 | _ => tk.marks }
    let s' := { s with
      store := (s.store.putRecord tk tk.count r).setTake id (some tk')
      recorder := { s.recorder with last := time, opens := openAfter body h s.recorder.opens } }
    if tk'.reserve < 4 then s'.askBlock id tk' else (s', true)

/-- R147: `n` GAP records of 65,535, stopping at a failed ask. -/
def State.emitGaps : Nat → State → State × Bool
  | 0, s => (s, true)
  | n + 1, s =>
    match s.emit (.gap 65535) .none 0 with
    | (s', true) => s'.emitGaps n
    | (s', false) => (s', false)

/-- R147: the time since the last record written. -/
def Recorder.since (r : Recorder) : Nat := r.clock - r.last

/-- R147: the GAP records that carry a time of `d`: those of 65,535, then one of the rest when it is above 255. -/
def State.emitTime (d : Nat) (s : State) : State × Bool :=
  if d ≤ 255 then (s, true)
  else
    match s.emitGaps (d / 65535) with
    | (s', false) => (s', false)
    | (s', true) => if d % 65535 ≤ 255 then (s', true) else s'.emit (.gap (d % 65535)) .none 0

/-- R147: write a record at the take clock's time, its GAP records first. A failed ask stops it at once (R151). -/
def State.write (body : RecordBody) (h : Hand) (s : State) : State × Bool :=
  match s.emitTime s.recorder.since with
  | (s', false) => (s', false)
  | (s', true) => s'.emit body h s'.recorder.since

/-- Write several records, stopping at a failed ask. -/
def State.writeAll : List (RecordBody × Hand) → State → State × Bool
  | [], s => (s, true)
  | (b, h) :: rs, s =>
    match s.write b h with
    | (s', true) => s'.writeAll rs
    | (s', false) => (s', false)

/-! ### Closing (R154, R136) -/

/-- R154, steps 1 and 2: the closing records. -/
def Recorder.closing (r : Recorder) : List (RecordBody × Hand) :=
  r.opens.map (fun e => (RecordBody.noteOff e.1, e.2)) ++ [(.endTake, .none)]

/-- R154: the closing records after their GAP records; a failed ask stops nothing. `timed` says that the first record
carries the time that is left, which a failed ask drops. Answers whether every ask was met. -/
def State.emitClosing (timed : Bool) : List (RecordBody × Hand) → State → State × Bool
  | [], s => (s, true)
  | (b, h) :: rs, s =>
    let x := s.emit b h (if timed then s.recorder.since else 0)
    let y := x.1.emitClosing false rs
    (y.1, x.2 && y.2)

/-- R154, step 3: FILL records from position `p`, `n` of them. -/
def Store.fill (tk : Take) (p : Nat) : Nat → Store → Store
  | 0, st => st
  | n + 1, st => (st.putRecord tk p { body := .fill, hand := Hand.code .none, delta := 0 }).fill tk (p + 1) n

/-- R136, R154: END stands at the position before the write position: FILL to the end of its block, the blocks after it
released, and the take CLOSED. -/
def Store.closeTake (id : Nat) (truncated : Bool) (tk : Take) (st : Store) : Store :=
  (st.fill tk tk.count ((32 - tk.count % 32) % 32)).trim id (tk.count - 1) { tk with phase := .closed, truncated }

/-- R154: close the take being recorded; the Recorder becomes IDLE. In PAUSED too END takes its delta from the take clock as
step 2 says: after a pause that wrote no NOTE_OFF it can be 1 to 255 (DEDUCED, log 54: the last paragraph of R154 gives 0). -/
def State.closeRecording (truncated : Bool) (s : State) : State :=
  let x := s.emitTime s.recorder.since
  let y := x.1.emitClosing x.2 s.recorder.closing
  let flag := truncated || !(x.2 && y.2)
  let store :=
    match y.1.recTake? with
    | some (id, tk) => y.1.store.closeTake id flag tk
    | none => y.1.store
  { y.1 with
    store
    recorder := { y.1.recorder with state := .idle, take := none, clock := 0, opens := [] } }

/-- R154: the RECORDER_STATE notice for a take. -/
def State.recNotice (s : State) (id : Nat) (why : RecReason) : Notice :=
  let tk := s.store.take? id
  .recorderState s.recorder.state id why (tk.elim 0 (·.count)) (tk.elim 0 (·.duration)) (tk.any (·.truncated))

/-- R154: send RECORDER_STATE for the take that was being recorded. -/
def State.recNotify (take : Option Nat) (why : RecReason) (s : State) : State :=
  match take with
  | some id => s.notify (s.recNotice id why)
  | none => s

/-- R151, R154: an ask failed: the take is closed with reason STORE_FULL. -/
def State.storeExhausted (s : State) : State := (s.closeRecording true).recNotify s.recorder.take .storeFull

/-- Finish a writing: a failed ask closes the take. -/
def State.finishWrite (x : State × Bool) : State := if x.2 then x.1 else x.1.storeExhausted

/-- The record count of the take that was being recorded in `was`, as it stands now (R151: a STORE_FULL reply). -/
def State.closedCount (was s : State) : Content :=
  .count ((was.recorder.take.bind s.store.take?).elim 0 (·.count))

/-! ### Events (R146 to R149) -/

/-- R146: the three PEDAL records, from the live pedal context. -/
def PedalContext.records (c : PedalContext) : List (RecordBody × Hand) :=
  [(.pedal 0 c.damper, .none), (.pedal 1 (if c.sostenuto then 127 else 0), .none), (.pedal 2 c.soft, .none)]

/-- R147: the take clock starts to rise, its first rise 1 ms from now. -/
def State.runTakeClock (s : State) : State := { s with recorder := { s.recorder with state := .recording, left := 1000 } }

/-- R148: the first live NOTE_ON taken in ARMED begins the recording. -/
def State.firstKey (key velocity : Nat) (h : Hand) (s : State) : State :=
  let s' := ({ s with recorder := { s.recorder with clock := 0 } } : State).runTakeClock
  let x := s'.writeAll (s.pedals.context.records ++ [(.noteOn key velocity, h)])
  if x.2 then x.1.recNotify s.recorder.take .firstKey else x.1.storeExhausted

/-- R149: the records a live event calls for, under the open-note set. -/
def recordsFor (opens : List (Nat × Hand)) (e : LiveEvent) : List (RecordBody × Hand) :=
  match e.body with
  | .noteOn k v _ _ =>
    match openHand k opens with
    | some h => [(.noteOff k, h), (.noteOn k v, e.hand)]
    | none => [(.noteOn k v, e.hand)]
  | .noteOff k _ => if (openHand k opens).isSome then [(.noteOff k, e.hand)] else []
  | .pedal p l => [(.pedal (pedalCode p) l, .none)]

/-- R148, R149: a live event delivered to the Recorder. -/
def State.recordEvent (e : LiveEvent) (s : State) : State :=
  match s.recorder.state with
  | .armed =>
    match e.body with
    | .noteOn k v _ _ => s.firstKey k v e.hand
    | _ => s
  | .recording => State.finishWrite (s.writeAll (recordsFor s.recorder.opens e))
  | _ => s

/-! ### Requests (R146, R150, R152 to R155) -/

/-- R146: REC_START, its arm mode good. -/
def State.recStart (id : Nat) (arm : ArmMode) (name : List Byte) (s : State) : State × Status × Content :=
  if s.recorder.state ≠ .idle then (s, .busy, .nothing)
  else
    let x := s.store.openRecording id name
    if x.2 ≠ .ok then (s, x.2, .nothing)
    else
      let s' := { s with
        store := x.1
        recorder := { s.recorder with state := .armed, take := some id, clock := 0, last := 0, opens := [] } }
      match arm with
      | .onFirstKey => (s', .ok, .recStarted id arm)
      | .immediate => (State.finishWrite (s'.runTakeClock.writeAll s.pedals.context.records), .ok, .recStarted id arm)

/-- R151: a request's records are written; a failed ask closes the take and the reply is STORE_FULL with its record
count. -/
def State.replyWrite (x : State × Bool) (was : State) (done : State → State) (ok : Content) : State × Status × Content :=
  if x.2 then (done x.1, .ok, ok)
  else
    let s' := x.1.storeExhausted
    (s', .storeFull, was.closedCount s')

/-- R150: REC_MARK. -/
def State.recMark (n : Nat) (s : State) : State × Status × Content :=
  if !markOk n then (s, .badArgument, .nothing)
  else if s.recorder.state ≠ .recording then (s, .refusedState, .nothing)
  else State.replyWrite (s.write (.mark n) .none) s id (.markTime s.recorder.clock)

/-- R152: REC_PAUSE. -/
def State.recPause (s : State) : State × Status × Content :=
  if s.recorder.state ≠ .recording then (s, .refusedState, .nothing)
  else
    State.replyWrite (s.writeAll (s.recorder.opens.map fun e => (RecordBody.noteOff e.1, e.2))) s
      (fun s' => { s' with recorder := { s'.recorder with state := .paused } }) (.count s.recorder.opens.length)

/-- R151: several records of delta 0, stopping at a failed ask. -/
def State.emitAll : List (RecordBody × Hand) → State → State × Bool
  | [], s => (s, true)
  | (b, h) :: rs, s =>
    match s.emit b h 0 with
    | (s', true) => s'.emitAll rs
    | (s', false) => (s', false)

/-- R153: the records of a resume: the GAP records that the time since the last record calls for, then the three PEDAL records
with delta 0; what is left of that time, up to 255, goes to the next record (log 28). -/
def State.resumeRecords (s : State) : State × Bool :=
  match s.emitTime s.recorder.since with
  | (s', true) => s'.emitAll s.pedals.context.records
  | (s', false) => (s', false)

/-- R153: REC_RESUME. -/
def State.recResume (s : State) : State × Status × Content :=
  if s.recorder.state ≠ .paused then (s, .refusedState, .nothing)
  else State.replyWrite s.resumeRecords s State.runTakeClock .nothing

/-- R154: REC_STOP. -/
def State.recStop (s : State) : State × Status × Content :=
  match s.recorder.state, s.recorder.take with
  | .idle, _ => (s, .refusedState, .nothing)
  | _, none => (s, .refusedState, .nothing)
  | _, some id =>
    let s' := (s.closeRecording false).recNotify (some id) .stopped
    let tk := s'.store.take? id
    (s', .ok, .recClosed id (tk.elim 0 (·.count)) (tk.elim 0 (·.duration)) (tk.any (·.truncated)))

/-- R147: the take clock rises by one and stays at its greatest value. -/
def Recorder.tick (r : Recorder) : Recorder :=
  if r.state = .recording ∧ r.left = 0 then
    { r with clock := if r.clock < maxTakeTime then r.clock + 1 else r.clock, left := 1000 }
  else r

/-- R155: REC_QUERY's content. In IDLE, where there is no take, the write position and the number of blocks in the reserve are 0
(DESIGN CHOICE, log 55). -/
def State.recReport (s : State) : RecReport :=
  let tk := s.recTake?
  { state := s.recorder.state, take := s.recorder.take, clock := s.recorder.clock, last := s.recorder.last,
    writePos := tk.elim 0 (·.2.count), reserve := tk.elim 0 (·.2.reserve), opens := s.recorder.opens }

/-- R155: a warm reset closes a take in ARMED, RECORDING or PAUSED with the truncated flag set, with no notice. -/
def State.warmRecorder (s : State) : State :=
  let s' := if s.recorder.state = .idle then s else s.closeRecording true
  { s' with recorder := Recorder.reset }

end Sys2Proof.Machine
end

