-- ==== Sys2Proof/Machine/RouteOps.lean ====
section
/-! DEFINITION. The Event Router's shared operations (03): completing a live event, reading the gates and delivering it. -/

namespace Sys2Proof.Machine

/-- R42: the hand of an event. -/
def Router.hand (r : Router) : EventBody → Hand
  | .noteOn k _ _ _ => if k < r.split then .left else .right
  | .noteOff k _ => if k < r.split then .left else .right
  | .pedal _ _ => .none

/-- The gates of the four consumers for one event (R45 to R48). -/
structure Gates where
  voices : Bool
  recorder : Bool
  matcher : Bool
  packer : Bool
  deriving DecidableEq, Repr

/-- R44: one reading of every consumer's gate. -/
def State.gates (s : State) (body : EventBody) : Gates :=
  { voices := match body with
      | .noteOn _ _ _ _ => s.soundGate
      | .noteOff k _ => s.noteOffGate k
      | .pedal _ _ => true
    recorder := s.recorderGate
    matcher := match body with | .noteOn _ _ _ _ => s.matcherGate | _ => false
    packer := s.packerGate }

/-- R76: a live event as the claim it is to the Voice Engine. -/
def State.voiceClaim (body : EventBody) (s : State) : State :=
  match body with
  | .noteOn k v _ _ => s.noteOn .live k v
  | .noteOff k _ => s.noteOff .live k
  | .pedal _ _ => s.pedalClaim .live

/-- The Wait Matcher takes a live NOTE_ON. -/
def State.matcherTakes (e : LiveEvent) (s : State) : State :=
  match e.body with
  | .noteOn k _ _ _ => s.matchStrike k e.time
  | _ => s

/-- R44: deliver an event to the consumers whose gates are open. The spec gives them no order; the model takes the Voice
Engine, the Recorder, the Wait Matcher and the Stream Packer in turn (log 8). -/
def State.deliver (e : LiveEvent) (g : Gates) (s : State) : State :=
  let s1 := if g.voices then s.voiceClaim e.body else s
  let s2 := if g.recorder then s1.recordEvent e else s1
  let s3 := if g.matcher then s2.matcherTakes e else s2
  if g.packer then s3.streamEvent e else s3

/-- R41, R44: the router takes an event of the scan frame of time `t`, completes it and delivers it. -/
def State.route (body : EventBody) (t : Time) (s : State) : State :=
  let e : LiveEvent := { body, hand := s.router.hand body, time := t }
  let s1 := ({ s with router := { s.router with passage := some e } } : State).deliver e (s.gates body)
  { s1 with router := { s1.router with passage := none } }

/-- R49: ROUTE_SET, its flags named. -/
def State.routeSet (monitor : Bool) (split : Nat) (streaming : Bool) (s : State) : State × Status :=
  if !splitOk split then (s, .badArgument)
  else
    ({ s with
      router := { s.router with monitor, split, streaming }
      packer := if s.router.streaming = streaming then s.packer else s.packer.setEnabled streaming }, .ok)

/-- R50: ROUTE_QUERY's content. -/
def State.routeReport (s : State) : RouteReport :=
  { monitor := s.router.monitor, split := s.router.split, streaming := s.router.streaming,
    railState := s.router.railState, soundGate := s.soundGate, recorderGate := s.recorderGate,
    matcherGate := s.matcherGate, packerGate := s.packerGate, voiceGate := s.soundGate }

/-- R51: the warm-reset state, with the rail state the Rail Controller keeps or takes. -/
def Router.warm (st : RailState) (r : Router) : Router := { r with railState := st, passage := none }

end Sys2Proof.Machine
end

