-- ==== Sys2Proof/Machine/ScanOps.lean ====
section
/-! DEFINITION. The Action Scanner's and the Pedal Unit's shared operations (01, 02): depths, crossings, the key's frame, the
pedals' frame, calibration, capture and faults. A key's frame is computed on the key alone and answers, in order, what it
asks of the rest of the part. -/

namespace Sys2Proof.Machine

/-! ### Samples, depths and crossings (R1 to R3) -/

/-- R1: a fault sample. -/
def faultRaw (raw : Nat) : Bool := raw < 16 || 4079 < raw

/-- R2, R28: the depth of a raw value: a linear map of `rest` to 0 and `full` to 1000, clamped and rounded down. -/
def depthOf (rest full raw : Nat) : Nat :=
  if rest < full then min 1000 ((raw - rest) * 1000 / (full - rest))
  else min 1000 ((rest - raw) * 1000 / (rest - full))

/-- R2: the key depth of a raw value. -/
def keyDepthOf (c : CalRecord) (raw : Nat) : Nat := depthOf c.keyRest c.keyBottom raw

/-- R2: the hammer's top raw under a hammer scale setting. -/
def hammerTopOf (c : CalRecord) (x : Scale) : Nat :=
  match x, c.hammerStopped with
  | .stopped, some r => r
  | _, _ => c.hammerTop

/-- R2: the hammer depth of a raw value. -/
def hammerDepthOf (c : CalRecord) (x : Scale) (raw : Nat) : Nat := depthOf c.hammerRest (hammerTopOf c x) raw

/-- What one sensor shows in a frame: the depth of its last good sample with that sample's time, and the new depth when
this frame's sample is good. -/
structure Motion1 where
  prev : Nat
  prevTime : Option Time
  cur : Option Nat
  deriving DecidableEq, Repr

/-- A sensor's motion under a depth map (R1, R2): the previous depth is that of the last good sample under the record now
in force, and 0 when there is none (R3). -/
def motionOf (depth : Nat → Nat) (last : Option GoodSample) (raw : Nat) : Motion1 :=
  { prev := last.elim 0 fun g => depth g.raw
    prevTime := last.map (·.time)
    cur := if faultRaw raw then none else some (depth raw) }

/-- R3: crossed upward. -/
def Motion1.rises (m : Motion1) (x : Nat) : Bool := m.cur.any fun c => m.prev < x && x ≤ c

/-- R3: crossed downward. -/
def Motion1.falls (m : Motion1) (x : Nat) : Bool := m.cur.any fun c => x ≤ m.prev && c < x

/-- R3: the crossing time of a threshold crossed upward in the frame of time `now`. -/
def Motion1.crossTime (m : Motion1) (x : Nat) (now : Time) : Time :=
  match m.prevTime, m.cur with
  | some t0, some c => t0 + BitVec.ofNat 32 (roundDiv (since t0 now * (x - m.prev)) (c - m.prev))
  | _, _ => now

/-- The depth that stands after the frame: the new one; with a fault sample, that of the last good sample under the record
and scale now in force (log 44); without one, the depth held. -/
def Motion1.depth (m : Motion1) (held : Nat) : Nat :=
  match m.cur, m.prevTime with
  | some c, _ => c
  | none, some _ => m.prev
  | none, none => held

/-! ### Velocity (R16) -/

/-- R16: the straight line between two points, rounded to the nearest whole number, halves up. -/
def lineVelocity (p q : CurvePoint) (t : Nat) : Nat :=
  roundDiv (p.velocity * (q.time - t) + q.velocity * (t - p.time)) (q.time - p.time)

/-- R16: the velocity from the points on, `t` at or above the first of them. -/
def curveFrom (t : Nat) : List CurvePoint → Nat
  | [] => 1
  | [p] => if t = p.time then p.velocity else 1
  | p :: q :: ps => if t = p.time then p.velocity else if t < q.time then lineVelocity p q t else curveFrom t (q :: ps)

/-- R16, step 1: a travel time mapped through a curve. -/
def curveVelocity (ps : List CurvePoint) (t : Nat) : Nat :=
  match ps with
  | [] => 1
  | p :: _ => if t < p.time then 127 else curveFrom t ps

/-- R16, steps 2 and 3: the trim added and the result clamped. -/
def trimmed (v : Nat) (trim : Int) : Nat :=
  let x := (v : Int) + trim
  if x < 1 then 1 else if 127 < x then 127 else x.toNat

/-- R15: the velocity band's counter. -/
def bandOf (v : Nat) : Counter := .band ⟨min 7 ((v - 1) / 16), by omega⟩

/-! ### What a key asks of the rest of the part -/

/-- What the processing of a key asks for, in order. -/
inductive KeyAct
  | flightAdded
  | flightRemoved
  | event (body : EventBody)
  | count (c : Counter)
  | notice (n : Notice)
  deriving DecidableEq, Repr

/-- The scanner's global settings a key's frame reads. -/
structure FrameSet where
  now : Time
  index : Nat
  thr : Thresholds
  hammerCurve : List CurvePoint
  keyCurve : List CurvePoint
  target : Mode
  capturing : Bool
  deriving DecidableEq, Repr

/-- The scale setting of a mode (R6). -/
def Mode.scale : Mode → Scale
  | .stopped => .stopped
  | _ => .free

/-- R2, R5, R6: a record comes into force, the staged slot emptied: the depths are recomputed from the last good raw samples
with it. A sensor without a last good sample keeps the depth it shows (DESIGN CHOICE, log 43). -/
def Key.withCal (c : CalRecord) (k : Key) : Key :=
  { k with
    cal := c, staged := none
    keyDepth := k.keyGood.elim k.keyDepth fun g => keyDepthOf c g.raw
    hammerDepth := k.hammerGood.elim k.hammerDepth fun g => hammerDepthOf c k.scale g.raw }

/-- R6: the adoptions of a key at REST: the staged record, if one waits, the threshold set, and the target mode with its hammer
scale setting. A change of that setting re-expresses the previous hammer depth under the new scale, and the held one when the
frame's hammer sample is a fault sample (DESIGN CHOICE, log 44: R2 recomputes it for a new record only). -/
def Key.adopt (x : FrameSet) (k : Key) : Key :=
  if k.state = .rest then
    { k.staged.elim k k.withCal with thr := x.thr, mode := x.target, scale := x.target.scale }
  else k

/-- R22: what a disabled key is left without; its flight record goes at that moment. -/
def Key.disable (k : Key) : Key × List KeyAct :=
  ({ k with
      state := .rest, aTimeKey := none, aTimeHammer := none, returns := 0, flight := none, keyGood := none,
      hammerGood := none, keyFaults := 0, hammerFaults := 0 },
    if k.flight.isSome then [.flightRemoved] else [])

/-! ### Capture (R23) -/

/-- R23: a sensor's starting and farthest raw with one more sample. Of two samples equally far from the starting raw, one on
each side, the earlier stays the farthest (DESIGN CHOICE, log 45: the spec does not say). -/
def captureRaw (start far : Option Nat) (raw : Nat) : Option Nat × Option Nat :=
  if faultRaw raw then (start, far)
  else
    match start, far with
    | some a, some b => (some a, if dist a b < dist a raw then some raw else some b)
    | _, _ => (some raw, some raw)

/-- R23: a capture record with one more frame. -/
def Capture.frame (c : Capture) (keyRaw hammerRaw : Nat) : Capture :=
  let k := captureRaw c.keyStart c.keyFar keyRaw
  let h := captureRaw c.hammerStart c.hammerFar hammerRaw
  { keyStart := k.1, keyFar := k.2, hammerStart := h.1, hammerFar := h.2 }

/-- R23: the key's capture record while a capture runs. -/
def Key.capture1 (x : FrameSet) (keyRaw hammerRaw : Nat) (k : Key) : Key :=
  if x.capturing then { k with capture := k.capture.map fun c => c.frame keyRaw hammerRaw } else k

/-! ### Sensor faults (R20) -/

/-- R20: a sensor's count with one more sample. -/
def faultCount (n raw : Nat) : Nat := if faultRaw raw then n + 1 else 0

/-- R20: the key with both counts of this frame. -/
def Key.countFaults (keyRaw hammerRaw : Nat) (k : Key) : Key :=
  { k with keyFaults := faultCount k.keyFaults keyRaw, hammerFaults := faultCount k.hammerFaults hammerRaw }

/-- R20: a count has reached 8. -/
def Key.fails (k : Key) : Bool := 8 ≤ k.keyFaults || 8 ≤ k.hammerFaults

/-- R20: the key becomes FAULTED, after its four actions in their order. -/
def Key.fault (x : FrameSet) (keyRaw hammerRaw : Nat) (k : Key) : Key × List KeyAct :=
  ({ k with state := .faulted, aTimeKey := none, aTimeHammer := none, returns := 0, flight := none },
    (if k.state = .down ∨ k.state = .lifting then [.event (.noteOff x.index k.quality)] else [])
      ++ (if k.flight.isSome then [.flightRemoved] else [])
      ++ [.notice (.keyFault x.index (if 8 ≤ k.keyFaults then some keyRaw else none)
            (if 8 ≤ k.hammerFaults then some hammerRaw else none)),
          .count .keyFaults])

/-! ### Stroke times and hammer state (R3, R18, R19) -/

/-- R3: a stroke time after the frame: set by an upward crossing of its threshold, removed by a downward one. -/
def strokeTime (m : Motion1) (x : Nat) (now : Time) (t : Option Time) : Option Time :=
  if m.rises x then some (m.crossTime x now) else if m.falls x then none else t

/-- R3: H_A of the hammer scale setting. -/
def thresholdHA (x : Thresholds) : Scale → Nat
  | .free => x.freeA
  | .stopped => x.stoppedA

/-- R19: the left-rest time: the crossing time of H_rest; where it was not crossed, a free value (log 13). -/
def leftRest (x : FrameSet) (m : Motion1) (hRest : Nat) : Time :=
  if m.rises hRest then m.crossTime hRest x.now else Config.leftRestTime x.index x.now

/-- R18, R19: the hammer state after a frame with a good hammer sample of depth `d`. -/
def Key.hammerMoves (x : FrameSet) (m : Motion1) (d : Nat) (k : Key) : Key × List KeyAct :=
  match k.flight with
  | none =>
    if k.thr.hRest ≤ d then
      ({ k with flight := some { leftRest := leftRest x m k.thr.hRest, peak := d, struck := false }, returns := 0 },
        [.flightAdded])
    else (k, [])
  | some f =>
    let k' := { k with flight := some { f with peak := max f.peak d } }
    if k.thr.hRest ≤ d then ({ k' with returns := 0 }, [])
    else if 4 ≤ k.returns + 1 then ({ k' with returns := 4, flight := none }, [.flightRemoved])
    else ({ k' with returns := k.returns + 1 }, [])

/-- R10, step 3. -/
def Key.moves (x : FrameSet) (km hm : Motion1) (k : Key) : Key × List KeyAct :=
  let k' := { k with
    keyDepth := km.depth k.keyDepth
    hammerDepth := hm.depth k.hammerDepth
    aTimeKey := strokeTime km k.thr.kA x.now k.aTimeKey
    aTimeHammer := strokeTime hm (thresholdHA k.thr k.scale) x.now k.aTimeHammer }
  match hm.cur with
  | none => (k', [])
  | some d => k'.hammerMoves x hm d

/-! ### Transitions (R9, R11 to R15) -/

/-- The transitions of the key state machine. -/
inductive Trans | press | silent | strike | lift | restrike | release | toRest | repress
  deriving DecidableEq, Repr

/-- R12: the travel time of a strike in this frame, with its quality, by the key's active mode. -/
def Key.strikeNow (x : FrameSet) (km hm : Motion1) (k : Key) : Option (Nat × Quality) :=
  let hammer (b : Nat) : Option (Nat × Quality) :=
    if hm.rises b then k.aTimeHammer.map fun a => (since a (hm.crossTime b x.now), .hammer) else none
  match k.mode with
  | .free => hammer k.thr.freeB
  | .stopped => hammer k.thr.stoppedB
  | .keyOnly => if km.rises k.thr.kB then k.aTimeKey.map fun a => (since a (km.crossTime k.thr.kB x.now), .keyOnly) else none

/-- R11 to R14: the transition the key's state calls for, in the order of the rules, among those not taken yet in this frame.
The depths are the key's; without a good key sample they cross nothing and cause no transition (R10). -/
def Key.wants (x : FrameSet) (km hm : Motion1) (taken : List Trans) (k : Key) : Option Trans :=
  let free (t : Trans) (b : Bool) : Option Trans := if b && !taken.contains t then some t else none
  let below (n : Nat) : Bool := km.cur.any (· < n)
  let atLeast (n : Nat) : Bool := km.cur.any (n ≤ ·)
  match k.state with
  | .rest => free .press (atLeast k.thr.start)
  | .pressing => free .silent (below k.thr.rest) <|> free .strike (k.strikeNow x km hm).isSome
  | .down => free .lift (below k.thr.rearm) <|> free .release (below k.thr.damper)
  | .lifting => free .restrike (k.strikeNow x km hm).isSome <|> free .release (below k.thr.damper)
  | .released => free .toRest (below k.thr.rest) <|> free .repress (atLeast k.thr.damper)
  | .faulted => none

/-- R15, R16: the velocity of a strike. -/
def Key.velocity (x : FrameSet) (k : Key) (travel : Nat) (q : Quality) : Nat :=
  let curve := match q with | .hammer => x.hammerCurve | .keyOnly => x.keyCurve
  trimmed (curveVelocity curve travel) k.cal.trim

/-- R12, R13, R15: a strike: the key enters DOWN, both stroke times are removed, the flight record is marked, NOTE_ON is
emitted and counted. -/
def Key.strikes (x : FrameSet) (km hm : Motion1) (again : Bool) (k : Key) : Key × List KeyAct :=
  match k.strikeNow x km hm with
  | none => (k, [])
  | some (travel, q) =>
    let v := k.velocity x travel q
    ({ k with
        state := .down, aTimeKey := none, aTimeHammer := none, quality := q
        flight := k.flight.map fun f => { f with struck := true } },
      [.event (.noteOn x.index v again q), .count (if q = .keyOnly then .keyOnlyStrikes else bandOf v)]
        ++ (if again then [.count .repetitions] else []))

/-- R11 to R14: one transition taken. -/
def Key.takes (x : FrameSet) (km hm : Motion1) (k : Key) : Trans → Key × List KeyAct
  | .press => ({ k with state := .pressing }, [])
  | .silent => ({ k with state := .rest }, [.count .silentPresses])
  | .strike => k.strikes x km hm false
  | .lift => ({ k with state := .lifting }, [])
  | .restrike => k.strikes x km hm true
  | .release => ({ k with state := .released }, [.event (.noteOff x.index k.quality)])
  | .toRest => ({ k with state := .rest }, [])
  | .repress => ({ k with state := .pressing }, [])

/-- R9: a key DOWN or RELEASED whose mode is FREE or STOPPED and differs from the target becomes KEY_ONLY. -/
def Key.demote (x : FrameSet) (k : Key) : Key :=
  if (k.state = .down ∨ k.state = .released) ∧ k.mode ≠ x.target then { k with mode := .keyOnly } else k

/-- R10, step 4: transitions chain within the frame, each taken at most once. -/
def Key.chain (x : FrameSet) (km hm : Motion1) : Nat → List Trans → Key → Key × List KeyAct
  | 0, _, k => (k, [])
  | fuel + 1, taken, k =>
    match k.wants x km hm taken with
    | none => (k, [])
    | some t =>
      let r := k.takes x km hm t
      let r' := (r.1.demote x).chain x km hm fuel (t :: taken)
      (r'.1, r.2 ++ r'.2)

/-- R1: the good samples of the frame become the last good ones. -/
def Key.keepGood (x : FrameSet) (keyRaw hammerRaw : Nat) (k : Key) : Key :=
  { k with
    keyGood := if faultRaw keyRaw then k.keyGood else some { raw := keyRaw, time := x.now }
    hammerGood := if faultRaw hammerRaw then k.hammerGood else some { raw := hammerRaw, time := x.now } }

/-- R10: an enabled key that is not FAULTED, its adoptions taken; the fault check comes before the rest (log 11). -/
def Key.sense (x : FrameSet) (keyRaw hammerRaw : Nat) (k0 : Key) : Key × List KeyAct :=
  let k := k0.countFaults keyRaw hammerRaw
  if k.fails then k.fault x keyRaw hammerRaw
  else
    let km := motionOf (keyDepthOf k.cal) k.keyGood keyRaw
    let hm := motionOf (hammerDepthOf k.cal k.scale) k.hammerGood hammerRaw
    let r := k.moves x km hm
    let r' := (r.1.demote x).chain x km hm 8 []
    (r'.1.keepGood x keyRaw hammerRaw, r.2 ++ r'.2)

/-- R6, R10, R21, R22, R23: one key in one scan frame. -/
def Key.frame (x : FrameSet) (keyRaw hammerRaw : Nat) (k0 : Key) : Key × List KeyAct :=
  let k := (k0.capture1 x keyRaw hammerRaw).adopt x
  if k.state = .faulted then (k, [])
  else if k.cal.enabled then k.sense x keyRaw hammerRaw
  else k.disable

/-! ### The scan frame -/

/-- R19: the flight table is empty. -/
def Scanner.noFlight (sc : Scanner) : Bool := sc.keys.all fun k => k.flight.isNone

/-- R19, R62, R63: a removal reaches the Rail Controller when it leaves the table empty. -/
def State.flightRemoved (s : State) : State := if s.scanner.noFlight then s.flightEmptied else s

/-- What a key asks for is done, in order; its events go to the router at once. -/
def State.perform (t : Time) (s : State) : KeyAct → State
  | .flightAdded => s.flightAdded
  | .flightRemoved => s.flightRemoved
  | .event b => s.route b t
  | .count c => s.tally c
  | .notice n => s.notify n

/-- The scanner's settings for a key's frame. -/
def State.frameSet (s : State) (i : Nat) : FrameSet :=
  { now := s.clock, index := i, thr := s.scanner.thr, hammerCurve := s.scanner.hammerCurve,
    keyCurve := s.scanner.keyCurve, target := s.scanner.target, capturing := s.scanner.capturing }

/-- R10: one key of the frame. -/
def State.scanKey (ks hs : List Nat) (s : State) (i : Nat) : State :=
  match s.key? i with
  | none => s
  | some k =>
    let r := k.frame (s.frameSet i) (ks.getD i 0) (hs.getD i 0)
    r.2.foldl (State.perform s.clock) (s.setKey i r.1)

/-- The 88 key indices. -/
def keyIndices : List Nat := List.range 88

/-! ### Pedals (R28 to R36) -/

/-- R28: a pedal's depth. -/
def PedalUnit.depthAt (u : PedalUnit) (raw : Nat) : Nat := depthOf u.restRaw u.fullRaw raw

/-- R31: LEVEL mode: the level to report, if any. -/
def PedalUnit.levelReport (u : PedalUnit) (depth : Nat) : Option Nat :=
  let l := depth * 127 / 1000
  if u.deadBand ≤ dist l u.last || ((l == 0 || l == 127) && l != u.last) then some l else none

/-- R32: SWITCH mode: the switch state. -/
def switchAfter (down : Bool) (depth : Nat) : Bool := if down then 400 ≤ depth else 600 ≤ depth

/-- R32: the switch level. -/
def switchLevel (down : Bool) : Nat := if down then 127 else 0

/-- R28, R31, R32: a pedal after a good sample, and the level it reports. -/
def PedalUnit.good1 (raw : Nat) (u : PedalUnit) : PedalUnit × Option Nat :=
  let d := u.depthAt raw
  let u1 := { u with faults := 0, good := some raw, depth := d }
  match u.mode with
  | .level =>
    match u1.levelReport d with
    | some l => ({ u1 with last := l }, some l)
    | none => (u1, none)
  | .switch =>
    let down := switchAfter u.switchDown d
    if switchLevel down ≠ u.last then ({ u1 with switchDown := down, last := switchLevel down }, some (switchLevel down))
    else ({ u1 with switchDown := down }, none)

/-- R34, R35: the live pedal context after an event. -/
def PedalContext.live (p : Pedal) (level : Nat) (held : List Nat) (c : PedalContext) : PedalContext :=
  match p with
  | .damper => { c with damper := level }
  | .soft => { c with soft := level }
  | .sostenuto => if level = 127 then { c with sostenuto := true, set := held } else { c with sostenuto := false, set := [] }

/-- R33: a pedal event is handed over: the context changes, and the router takes the event. -/
def State.pedalEvent (p : Pedal) (level : Nat) (s : State) : State :=
  ({ s with pedals := { s.pedals with context := s.pedals.context.live p level s.scanner.heldKeys } } : State).route
    (.pedal p level) s.clock

/-- R36: the pedal as its fault leaves it. A switch state left DOWN by an earlier SWITCH mode stays in LEVEL mode (DESIGN
CHOICE, log 47: R36 and R37 do not say). -/
def PedalUnit.fault (u : PedalUnit) : PedalUnit :=
  { u with last := 0, switchDown := if u.mode = .switch then false else u.switchDown, faulted := true }

/-- R36: a pedal becomes faulted. -/
def State.pedalFails (p : Pedal) (raw : Nat) (u : PedalUnit) (s : State) : State :=
  ((({ s with pedals := s.pedals.setUnit p u.fault } : State).pedalEvent p 0).notify (.pedalFault p raw)).tally .pedalFaults

/-- R28, R36, R37: one pedal of the frame. -/
def State.scanPedal (p : Pedal) (raw : Nat) (s : State) : State :=
  let u := s.pedals.unit p
  if u.faulted then s
  else if faultRaw raw then
    let u' := { u with faults := u.faults + 1 }
    if 8 ≤ u'.faults then s.pedalFails p raw u' else { s with pedals := s.pedals.setUnit p u' }
  else
    let r := u.good1 raw
    let s' := { s with pedals := s.pedals.setUnit p r.1 }
    match r.2 with
    | some l => s'.pedalEvent p l
    | none => s'

/-- R191, step 4: the scanner scans once the setup is taken, and through a warm start-up. -/
def State.scanning (s : State) : Bool := s.link.start != .loading true && s.link.start != .setup

/-- R1, R10, R33: a scan frame: the keys in ascending order, then DAMPER, SOSTENUTO, SOFT (log 9). -/
def State.scanFrame (ks hs : List Nat) (p : PedalRaws) (s : State) : State :=
  if s.scanning then
    (((keyIndices.foldl (State.scanKey ks hs) s).scanPedal .damper p.damper).scanPedal .sostenuto p.sostenuto).scanPedal
      .soft p.soft
  else s

/-- R8: the settle timer expires. -/
def State.settleExpires (s : State) : State :=
  let target : Mode := match s.rail.state with | .acoustic => .free | .silent => .stopped | _ => .keyOnly
  { s with scanner := { s.scanner with settle := none, target } }

/-! ### Calibration (R4, R5, R7, R22) -/

/-- R5, R22: a record comes into force for a key at REST, the staged slot emptied. A record that disables the key takes
its flight record; one that enables it finds no last good samples. The depths follow the record at once (R2). -/
def Key.applyCal (c : CalRecord) (k : Key) : Key × List KeyAct :=
  let k' := k.withCal c
  if !c.enabled then k'.disable
  else if k.cal.enabled then (k', [])
  else ({ k' with keyGood := none, hammerGood := none }, [])

/-- R5: a record that passed its checks is settled by the key's state; true when it was applied. -/
def State.settleCal (i : Nat) (c : CalRecord) (s : State) : State × Bool :=
  match s.key? i with
  | none => (s, true)
  | some k =>
    if k.state = .rest then
      let r := k.applyCal c
      (r.2.foldl (State.perform s.clock) (s.setKey i r.1), true)
    else (s.setKey i { k with staged := some c }, false)

/-- R4, R5: CAL_SET. -/
def State.calSet (i : Nat) (c : CalRecord) (s : State) : State × Status :=
  if !(keyOk i && calOk c) then (s, .badArgument)
  else
    let r := s.settleCal i c
    (r.1, if r.2 then .applied else .staged)

/-- R7: THRESH_SET. -/
def State.threshSet (x : Thresholds) (s : State) : State × Status × Content :=
  if !thrOk x then (s, .badArgument, .nothing)
  else
    let sc := { s.scanner with
      thr := x, keys := s.scanner.keys.map fun k => if k.state = .rest then { k with thr := x } else k }
    ({ s with scanner := sc }, .ok, .count sc.waiting)

/-- R17: CURVE_SET, its curve named. -/
def State.curveSet (c : Curve) (ps : List CurvePoint) (s : State) : State × Status :=
  if !curveOk ps then (s, .badArgument)
  else
    match c with
    | .hammer => ({ s with scanner := { s.scanner with hammerCurve := ps } }, .ok)
    | .keyOnly => ({ s with scanner := { s.scanner with keyCurve := ps } }, .ok)

/-! ### Fault clearing (R21, R37) -/

/-- R21: a key after FAULT_CLEAR. -/
def Key.clearFault (k : Key) : Key :=
  { k with
    state := .rest, aTimeKey := none, aTimeHammer := none, returns := 0, flight := none, keyGood := none, hammerGood := none,
    keyDepth := 0, hammerDepth := 0, keyFaults := 0, hammerFaults := 0 }

/-- R37: a pedal after FAULT_CLEAR. It shows its old depth until its first good sample (DESIGN CHOICE, log 48). -/
def PedalUnit.clearFault (u : PedalUnit) : PedalUnit := { u with faulted := false, faults := 0, good := none }

/-- R21, R37: FAULT_CLEAR. -/
def State.faultClear (x : FaultTarget) (s : State) : State × Status :=
  match x with
  | .other => (s, .badArgument)
  | .pedal p =>
    let u := s.pedals.unit p
    if u.faulted then ({ s with pedals := s.pedals.setUnit p u.clearFault }, .ok) else (s, .refusedState)
  | .key i =>
    if !keyOk i then (s, .badArgument)
    else
      match s.key? i with
      | none => (s, .badArgument)
      | some k => if k.state = .faulted then (s.setKey i k.clearFault, .ok) else (s, .refusedState)

/-! ### Capture requests (R23, R24) -/

/-- R23: CAPTURE_BEGIN. -/
def State.captureBegin (s : State) : State × Status :=
  if s.scanner.capturing then (s, .busy)
  else
    let open1 : Capture := { keyStart := none, keyFar := none, hammerStart := none, hammerFar := none }
    ({ s with scanner := { s.scanner with
        capturing := true, keys := s.scanner.keys.map fun k => { k with capture := some open1 } } }, .ok)

/-- R24: a running capture ends and its records are discarded. -/
def Scanner.endCapture (sc : Scanner) : Scanner :=
  { sc with capturing := false, keys := sc.keys.map fun k => { k with capture := none } }

/-- R24: the record a key's capture gives, when both excursions are great enough. -/
def Key.captured (k : Key) : Option CalRecord :=
  k.capture.bind fun c =>
    match c.keyStart, c.keyFar, c.hammerStart, c.hammerFar with
    | some ks, some kf, some hs, some hf =>
      if 1200 ≤ dist ks kf ∧ 800 ≤ dist hs hf then
        some { k.cal with
          keyRest := ks, keyBottom := kf, hammerRest := hs, hammerTop := hf
          hammerStopped := if stoppedOk hs hf k.cal.hammerStopped then k.cal.hammerStopped else none }
      else none
    | _, _, _, _ => none

/-- R24: the keys that gave a record, in ascending key index. -/
def Scanner.capturedRecords (sc : Scanner) : List (Nat × CalRecord) :=
  (numbered 0 sc.keys).filterMap fun x => x.2.captured.map fun c => (x.1, c)

/-- R24: settle the new records one after another; the numbers applied and staged. -/
def State.settleAll : List (Nat × CalRecord) → State → State × Nat × Nat
  | [], s => (s, 0, 0)
  | (i, c) :: rs, s =>
    let r := s.settleCal i c
    let r' := r.1.settleAll rs
    (r'.1, r'.2.1 + r.2.toNat, r'.2.2 + (!r.2).toNat)

/-- R24: CAPTURE_END. -/
def State.captureEnd (s : State) : State × Status × Content :=
  if !s.scanner.capturing then (s, .refusedState, .nothing)
  else
    let rs := s.scanner.capturedRecords
    let r := ({ s with scanner := s.scanner.endCapture } : State).settleAll rs
    (r.1, .ok, .captureCounts rs.length r.2.1 r.2.2)

/-- R24: CAPTURE_CANCEL. -/
def State.captureCancel (s : State) : State × Status :=
  if s.scanner.capturing then ({ s with scanner := s.scanner.endCapture }, .ok) else (s, .refusedState)

/-! ### Pedal requests (R29, R30) -/

/-- R29: PEDAL_CAL, its pedal named. -/
def State.pedalCal (p : Pedal) (rest full : Nat) (s : State) : State × Status :=
  if !pedalCalOk rest full then (s, .badArgument)
  else ({ s with pedals := s.pedals.setUnit p { s.pedals.unit p with restRaw := rest, fullRaw := full } }, .ok)

/-- R30: a pedal with a reporting mode and a dead band; a change from LEVEL to SWITCH sets the switch state. -/
def PedalUnit.setMode (m : PedalMode) (dead : Nat) (u : PedalUnit) : PedalUnit :=
  { u with
    mode := m, deadBand := dead
    switchDown := if u.mode = .level ∧ m = .switch then 64 ≤ u.last else u.switchDown }

/-- R30: PEDAL_MODE, its pedal and mode named. -/
def State.pedalMode (p : Pedal) (m : PedalMode) (dead : Nat) (s : State) : State × Status :=
  if !pedalModeOk p m dead then (s, .badArgument)
  else ({ s with pedals := s.pedals.setUnit p ((s.pedals.unit p).setMode m dead) }, .ok)

/-! ### Reports (R25) -/

/-- R25: KEY_QUERY's content; a disabled key too shows the depths it last had (log 12). -/
def Scanner.keyReport (sc : Scanner) (k : Key) : KeyReport :=
  { state := k.state, hammer := k.hammer, mode := k.mode, scale := k.scale, keyDepth := k.keyDepth,
    hammerDepth := k.hammerDepth, keyFaults := k.keyFaults, hammerFaults := k.hammerFaults, cal := k.cal,
    staged := k.staged, adopting := k.thr != sc.thr, flight := k.flight }

/-- R25: KEY_QUERY. -/
def State.keyQuery (i : Nat) (s : State) : Status × Content :=
  if !keyOk i then (.badArgument, .nothing)
  else
    match s.key? i with
    | none => (.badArgument, .nothing)
    | some k => (.ok, .key (s.scanner.keyReport k))

/-- R25: SCAN_QUERY's content. -/
def Scanner.report (sc : Scanner) : ScanReport :=
  { thr := sc.thr, hammerCurve := sc.hammerCurve, keyCurve := sc.keyCurve, target := sc.target,
    settleLeft := sc.settle.left, capturing := sc.capturing, waiting := sc.waiting, flights := sc.flights }

/-! ### Warm reset (R27, R40) -/

/-- R27: a key after a warm reset. Its depths 0, its return count 0 and the quality HAMMER are the model's (DESIGN CHOICE,
log 12: R27 gives none of them). -/
def Key.warm (thr : Thresholds) (k : Key) : Key := Key.fresh (k.staged.getD k.cal) thr

/-- R27: the scanner after a warm reset, with the rail state and settle interval the Rail Controller keeps. -/
def Scanner.warm (st : RailState) (settleMs : Nat) (sc : Scanner) : Scanner :=
  ({ sc with keys := sc.keys.map (Key.warm sc.thr), capturing := false } : Scanner).railReport st settleMs

/-- R40: a pedal after a warm reset. -/
def PedalUnit.warm (u : PedalUnit) : PedalUnit :=
  { u with depth := 0, good := none, switchDown := false, last := 0, faults := 0, faulted := false }

/-- R40: the Pedal Unit after a warm reset. -/
def Pedals.warm (p : Pedals) : Pedals :=
  { damper := p.damper.warm, sostenuto := p.sostenuto.warm, soft := p.soft.warm, context := PedalContext.clear }

end Sys2Proof.Machine
end

