-- ==== Sys2Proof/Machine/LinkOps.lean ====
section
/-! DEFINITION. The Link Controller's shared operations (11): the receive framer, taking a request and placing its reply, the
transmit arbiter, the setup, and the two resets. -/

namespace Sys2Proof.Machine

/-! ### The receive framer (R184, R185) -/

/-- R185: a frame that passed its CRC joins the request queue, or is discarded when 4 are queued. -/
def State.offerFrame (f : Frame) (s : State) : State :=
  if s.link.requests.length < 4 then { s with link := { s.link with requests := s.link.requests ++ [f] } }
  else s.tally .linkOverrun

/-- R184: the frame in progress is discarded, which counts `c`, and the framer enters HUNT. -/
def State.dropFrame (c : Counter) (s : State) : State :=
  ({ s with link := { s.link with rxFrame := none } } : State).tally c

/-- R184: the last CRC byte has arrived: the CRC is checked and the framer enters HUNT. -/
def State.endFrame (bs : List Byte) (s : State) : State :=
  if frameCrcOk bs then ({ s with link := { s.link with rxFrame := none } } : State).offerFrame (frameOf bs)
  else s.dropFrame .linkCrc

/-- R184: a frame in progress after one more byte. -/
def State.growFrame (bs : List Byte) (s : State) : State :=
  if bs.length = 2 ∧ maxPayload < (bs.getD 1 0).toNat then s.dropFrame .linkCrc
  else if 2 ≤ bs.length ∧ bs.length = (bs.getD 1 0).toNat + 7 then s.endFrame bs
  else { s with link := { s.link with rxFrame := some bs } }

/-- R184: a byte arrives on RX. -/
def State.receive (b : RxByte) (s : State) : State :=
  match s.link.rxFrame with
  | none =>
    if b.stopOk && b.value == startByte then { s with link := { s.link with rxFrame := some [b.value], rxLast := s.clock } }
    else s
  | some bs =>
    if !b.stopOk then s.dropFrame .linkCrc
    else ({ s with link := { s.link with rxLast := s.clock } } : State).growFrame (bs ++ [b.value])

/-- R184: more than 2 ms pass in FRAME without a byte. -/
def State.rxGap (s : State) : State :=
  if s.link.rxFrame.isSome && 2000 < since s.link.rxLast s.clock then s.dropFrame .linkTruncated else s

/-! ### The transmit arbiter (R188) -/

/-- R192: the arbiter begins the READY notice: the place empties and the link becomes READY. An UNHOMED rail with auto-home
set is now due to home (R72, R73; log 20), and the silence until READY ends (R117). -/
def State.beginReady (n : ReadyNotice) (s : State) : State :=
  ({ s with
    link := { s.link with tx := some (.ready n), readyPlace := none, ready := true }
    rail := { s.rail with autoHomeDue := s.rail.state == .unhomed && s.rail.config.autoHome } } : State).followSilence

/-- R186, R188: the arbiter begins the next frame of the reply; the place empties with the last. -/
def State.beginReply (p : ReplyPlace) (s : State) : State :=
  { s with link := { s.link with
    tx := some (.reply p.reply p.begun p.parts)
    reply := if p.parts ≤ p.begun + 1 then none else some { p with begun := p.begun + 1 } } }

/-- R158, R188: the arbiter takes the packet at the head of the packet queue, if there is one. -/
def State.beginPacket (s : State) : State :=
  match s.packer.takeHead with
  | none => s
  | some (f, p) => { s with link := { s.link with tx := some f }, packer := p }

/-- R188: with the line free, the arbiter chooses the next frame: READY, the reply, a notice, a packet. During STARTING it
sends nothing but READY. After the RESTART reply has gone it sends nothing (R193). It is called at the end of every step
(log 7). -/
def State.arbitrate (s : State) : State :=
  if s.link.tx.isSome || s.link.restart == .replied then s
  else
    match s.link.readyPlace with
    | some n => s.beginReady n
    | none =>
      if !s.link.ready then s
      else
        match s.link.reply, s.link.notices with
        | some p, _ => s.beginReply p
        | none, n :: ns => { s with link := { s.link with tx := some (.notice n), notices := ns } }
        | none, [] => s.beginPacket

/-- The frame in progress is a reply's. -/
def TxFrame.isReply : TxFrame → Bool
  | .reply _ _ _ => true
  | _ => false

/-- R193: the frame in progress is the RESTART reply's last. -/
def State.restartLeaves (s : State) : Bool :=
  s.link.restart == .replying && s.link.reply.isNone && s.link.tx.any TxFrame.isReply

/-- R188: the frame in progress has left the line. The RESTART reply is followed by nothing (R193). -/
def State.txDone (s : State) : State :=
  if s.restartLeaves then { s with link := { s.link with tx := none, restart := .replied } }
  else { s with link := { s.link with tx := none } }

/-! ### Steps -/

/-- An event at part-clock time `t`: time passes, the event acts, the arbiter chooses. -/
def State.atTime (t : Time) (op : State → State) (s : State) : State := (op (s.upTo t)).arbitrate

/-- R185: the request at the head of the queue, when one is taken: the link is READY, the reply place empty and no RESTART
has been taken. -/
def State.requestHead (s : State) : Option Frame :=
  if s.link.ready && s.link.reply.isNone && s.link.restart == .none then s.link.requests.head? else none

/-- The reply place takes the reply to a frame. -/
def State.placeReply (f : Frame) (tag : Byte) (status : Status) (content : Content) (s : State) : State :=
  { s with link := { s.link with
    reply := some { reply := { kind := f.kind, tag, status, content }, begun := 0, parts := content.parts } } }

/-- The head frame leaves the request queue. -/
def State.popRequest (s : State) : State := { s with link := { s.link with requests := s.link.requests.tail } }

/-- R185: the row of the table of kinds that a frame's kind names (log 36). -/
def State.kindOf (s : State) (f : Frame) : Option KindRow := s.kinds.find? (·.code == f.kind)

/-- R185: the checks of a frame taken, in order: class, tag, kind, and payload length; the status of the first it fails, none when
it passes them all. Which kinds the part knows, and with which lengths, is the table of kinds (log 36). -/
def State.linkCheck (s : State) (f : Frame) : Option Status :=
  if !f.isRequest then some .unknownKind
  else if f.tag = 0 then some .badTag
  else
    match s.kindOf f with
    | none => some .unknownKind
    | some row => if row.lengths.contains f.payload.length then none else some .badLength

/-- R183, R185: the request that a frame names by its kind, once it has passed the four checks. -/
def State.requestOf (s : State) (f : Frame) : Option Request :=
  match s.linkCheck f with
  | some _ => none
  | none => (s.kindOf f).map (·.request)

/-- R185: the command of a request `q` at time `t`: when the head frame passes its four checks and its kind names `q`, the Link
Controller takes it, its block settles it, and the reply is placed. Otherwise only time passes (log 5). -/
def State.takeRequest (q : Request) (t : Time) (run : State → State × Status × Content) (s0 : State) : State :=
  let s := s0.upTo t
  match s.requestHead with
  | none => s
  | some f =>
    if s.requestOf f = some q then
      let r := run s.popRequest
      (r.1.placeReply f f.tag r.2.1 r.2.2).arbitrate
    else s

/-- A request whose reply carries only its status. -/
def plainly (run : State → State × Status) (s : State) : State × Status × Content :=
  let r := run s
  (r.1, r.2, .nothing)

/-- A request that only reads. -/
def reading (run : State → Status × Content) (s : State) : State × Status × Content := (s, run s)

/-- R185: a frame that fails the link's checks is answered with its first failure and changes nothing in any block. A frame that
passes them is not turned away (log 36). -/
def State.rejectFrame (s : State) : State :=
  match s.requestHead with
  | none => s
  | some f =>
    match s.linkCheck f with
    | none => s
    | some x => s.popRequest.placeReply f f.tag x .nothing

/-! ### Reports (R189, R190) -/

/-- The kind of a transfer record (section 8.8). -/
def Transfer.kind : Transfer → TransferKind
  | .none => .none
  | .upload _ _ _ => .upload
  | .download _ _ _ => .download

/-- R189: STATUS's content. -/
def State.statusReport (s : State) : StatusReport :=
  { ready := s.link.ready, requests := s.link.requests.length, notices := s.link.notices.length, rail := s.rail.state,
    position := s.rail.position, faultedKeys := s.scanner.faultedKeys, damperFaulted := s.pedals.damper.faulted,
    sostenutoFaulted := s.pedals.sostenuto.faulted, softFaulted := s.pedals.soft.faulted, setStatus := s.fetch.status,
    counted := s.voices.counted, limit := s.voices.limit, plug := s.mixer.plug, muteActive := s.muteActive,
    freeBlocks := s.store.pool.length, transfer := s.store.transfer.kind, recorder := s.recorder.state,
    recTake := s.recorder.take, player := s.player.state, playTake := s.player.take, slotA := s.player.slotA.isSome,
    slotB := s.player.slotB.isSome, streamEvents := s.packer.held }

/-- R189: IDENTIFY's content. -/
def identity : Identity :=
  { part := "Mabrow 880", revision := Config.revision, keys := 88, voices := 80, limit := 64, zones := 512, blocks := 2048,
    blockBytes := 128, takes := 32, slots := 2, expected := 16, streamEvents := 256, requests := 4, notices := 16,
    payload := 240 }

/-- Every counter at 0. -/
def zeroStats : List Tally := List.replicate 27 0

/-- R190: STATS_READ. -/
def State.statsRead (clear : Nat) (s : State) : State × Status × Content :=
  if clear = 0 then (s, .ok, .stats s.stats)
  else if clear = 1 then ({ s with stats := zeroStats }, .ok, .stats s.stats)
  else (s, .badArgument, .nothing)

/-! ### Start-up (R191, R192) -/

/-- R192: the READY notice. -/
def State.readyNotice (s : State) (retained : Bool) : ReadyNotice :=
  { retained, source := s.link.source, status := s.fetch.status,
    header := s.fetch.header.map fun h => (h.version, h.zoneCount), failure := s.fetch.failure }

/-- R192: the start-up ends and READY is placed. -/
def State.endStartUp (retained : Bool) (s : State) : State :=
  { s with link := { s.link with start := .over, readyPlace := some (s.readyNotice retained) } }

/-- R191: the setup area is to be read: the strap is deasserted and the header locates an area. -/
def State.setupOffset (s : State) : Option Nat :=
  if s.pins.strap then none else (s.fetch.header.map (·.setupOffset)).filter (· != 0)

/-- R96, R97, R107, R109, R110: a load of the sound set ends. -/
def State.loadDone (s : State) : State :=
  if s.fetch.port ≠ some .load then s
  else
    let s1 := { s with fetch := s.fetch.loaded s.loadResult }
    match s.link.start with
    | .loading true =>
      { s1 with
        link := { s1.link with start := .setup }
        fetch := { s1.fetch with port := if s1.setupOffset.isSome then some .setup else none } }
    | .loading false => s1.endStartUp true
    | _ => s1.notify s1.fetch.setNotice

/-- R39: a pedal under its items of the setup. -/
def PedalItems.unit (x : PedalItems) : PedalUnit :=
  { PedalUnit.fresh x.mode with restRaw := x.rest, fullRaw := x.full, deadBand := x.deadBand }

/-- R191, step 4: every block takes its items from the setup (R26, R39, R51, R72, R92). -/
def State.takeSetup (x : Setup) (s : State) : State :=
  { s with
    scanner := { s.scanner with
      keys := x.cals.map fun c => Key.fresh c x.thr, thr := x.thr, hammerCurve := x.hammerCurve, keyCurve := x.keyCurve }
    pedals := { s.pedals with damper := x.damper.unit, sostenuto := x.sostenuto.unit, soft := x.soft.unit }
    router := { s.router with monitor := x.monitor, split := x.split }
    rail := { s.rail with config := x.rail }
    voices := { s.voices with limit := x.limit } }

/-- R191, steps 2 and 3: the setup source and the setup chosen. -/
def State.chooseSetup (s : State) : SetupSource × Setup :=
  if s.pins.strap then (.strap, defaultSetup)
  else
    match s.setupOffset with
    | none => (.fallback .noArea, defaultSetup)
    | some a =>
      match s.readSetup a with
      | .ok x => (.stored, x)
      | .error e => (.fallback e, defaultSetup)

/-- R191, steps 2 to 5: the setup is chosen and taken, and the start-up ends. -/
def State.setupDone (s : State) : State :=
  if s.link.start ≠ .setup then s
  else
    let c := s.chooseSetup
    let s1 := s.takeSetup c.2
    ({ s1 with link := { s1.link with source := some c.1 }, fetch := { s1.fetch with port := none } } : State).endStartUp false

/-- R72, R73: auto-home, due since READY. -/
def State.autoHome (s : State) : State :=
  if s.rail.autoHomeDue then
    let s1 := { s with rail := { s.rail with autoHomeDue := false } }
    if s.rail.state = .unhomed then s1.beginHome else s1
  else s

/-! ### Resets (R191, R193) -/

/-- R191, R193: a full reset. What lies outside the part stays: the levels of its inputs, the sound memory, and the commands
that wait, and the table of kinds stays (log 36). The strap is read in the start-up that follows; its level comes with the
command (log 15). -/
def State.fullReset (strap : Bool) (s : State) : State :=
  { State.reset with pins := { s.pins with strap }, soundMem := s.soundMem, pending := s.pending, kinds := s.kinds }

/-- R193: every block but the link takes its warm-reset state, the Recorder's close first. -/
def State.warmBlocks (s0 : State) : State :=
  let s := s0.warmRecorder
  let rail := s.rail.warm
  { s with
    rail
    scanner := s.scanner.warm rail.state rail.config.settle
    pedals := s.pedals.warm
    router := s.router.warm rail.state
    voices := s.voices.warm
    fetch := s.fetch.warm
    mixer := s.mixer.warm
    store := s.store.warm
    packer := s.packer.warm
    player := s.player.warm
    stats := zeroStats }

/-- R193: the link's own part of a warm reset. -/
def Link.warm (l : Link) : Link :=
  { l with
    ready := false, start := .over, rxFrame := none, requests := [], reply := none, notices := [], readyPlace := none,
    tx := none, restart := .none }

/-- R193: the warm reset acts; the start-up ends at once unless a load was in progress, which is then made again. -/
def State.warmReset (s : State) : State :=
  let s1 := s.warmBlocks
  let s2 := { s1 with link := s1.link.warm }
  if s.fetch.status = .loading then { s2 with link := { s2.link with start := .loading false } }
  else s2.endStartUp true

/-- R193: the warm reset acts once the last byte of the RESTART reply has left the line. -/
def State.warmResetDue (s : State) : Bool := s.link.restart == .replied || s.restartLeaves

end Sys2Proof.Machine
end

