-- ==== Sys2Proof/Machine/Headphone.lean ====
section
/-! DEFINITION. The Headphone Mixer (07): what each of its commands does. -/

namespace Sys2Proof.Machine

/-- OUTPUT_FRAME (R101, R111 to R117). -/
def execOutputFrame (t : Time) (s : State) : Host.Outcome State Fault Refusal :=
  .next (s.atTime t State.outputFrame)

/-- AUDIO_BLOCK_BOUNDARY (R82, R86, R100, R115, R116). -/
def execAudioBlockBoundary (t : Time) (s : State) : Host.Outcome State Fault Refusal :=
  .next (s.atTime t State.audioBoundary)

/-- PLUG_DETECT_CHANGE (R118). -/
def execPlugDetectChange (t : Time) (asserted : Bool) (s : State) : Host.Outcome State Fault Refusal :=
  .next (s.atTime t (State.plugLine asserted))

/-- PLUG_SETTLE_TIMER (R118). -/
def execPlugSettleTimer (t : Time) (s : State) : Host.Outcome State Fault Refusal :=
  .next (s.atTime t fun s' => if s'.mixer.plugTimer.due then s'.plugSettled else s')

/-- MUTE_LINE_CHANGE (R120). -/
def execMuteLineChange (t : Time) (asserted : Bool) (s : State) : Host.Outcome State Fault Refusal :=
  .next (s.atTime t (State.muteLine asserted))

/-- VOLUME_SET (R114). -/
def execVolumeSet (t : Time) (master : Master) (s : State) : Host.Outcome State Fault Refusal :=
  .next (s.takeRequest .volumeSet t (plainly fun s' =>
    if masterOk master then (s'.setGainPath { s'.mixer.settings with master }, .ok) else (s', .badArgument)))

/-- MIX_SET (R114); a source or a channel mode that is none of those named is refused. -/
def execMixSet (t : Time) (liveTrim playTrim : Nat) (source : Option OutSource) (channel : Option ChannelMode) (s : State) : Host.Outcome State Fault Refusal :=
  .next (s.takeRequest .mixSet t (plainly fun s' =>
    match source, channel with
    | some x, some c =>
      if trimOk liveTrim && trimOk playTrim then
        (s'.setGainPath { s'.mixer.settings with liveTrim, playTrim, source := x, channel := c }, .ok)
      else (s', .badArgument)
    | _, _ => (s', .badArgument)))

/-- HP_CONFIG (R121); a plug detection or a mute mode that is none of those named is refused. -/
def execHpConfig (t : Time) (width : Nat) (plug : Option Bool) (mode : Option MuteMode) (s : State) : Host.Outcome State Fault Refusal :=
  .next (s.takeRequest .hpConfig t (plainly fun s' =>
    match plug, mode with
    | some p, some m => if widthOk width then (s'.setHeadphones width p m, .ok) else (s', .badArgument)
    | _, _ => (s', .badArgument)))

/-- UNMUTE (R121). -/
def execUnmute (t : Time) (s : State) : Host.Outcome State Fault Refusal :=
  .next (s.takeRequest .unmute t (plainly State.unmute))

/-- MIX_QUERY (R122). -/
def execMixQuery (t : Time) (s : State) : Host.Outcome State Fault Refusal :=
  .next (s.takeRequest .mixQuery t (reading fun s' => (.ok, .mix s'.mixReport)))


end Sys2Proof.Machine
end

