-- ==== Sys2Proof/Machine/LinkStart.lean ====
section
/-! DEFINITION. Start-up, resets and the link (11): what each of its commands does. -/

namespace Sys2Proof.Machine

/-- FULL_RESET (R191). -/
def execFullReset (strap : Bool) (s : State) : Host.Outcome State Fault Refusal :=
  .next (s.fullReset strap)

/-- SETUP_AREA_READ_DONE (R191). -/
def execSetupAreaReadDone (t : Time) (s : State) : Host.Outcome State Fault Refusal :=
  .next (s.atTime t State.setupDone)

/-- AUTO_HOME (R72, R73, R192). -/
def execAutoHome (t : Time) (s : State) : Host.Outcome State Fault Refusal :=
  .next (s.atTime t State.autoHome)

/-- WARM_RESET (R193). -/
def execWarmReset (t : Time) (s : State) : Host.Outcome State Fault Refusal :=
  .next (s.atTime t fun s' => if s'.warmResetDue then s'.warmReset else s')

/-- RX_FRAME (R184): the byte that completes or ends a frame. -/
def execRxFrame (t : Time) (b : RxByte) (s : State) : Host.Outcome State Fault Refusal :=
  .next (s.atTime t (State.receive b))

/-- RX_GAP_TIMEOUT (R184). -/
def execRxGapTimeout (t : Time) (s : State) : Host.Outcome State Fault Refusal :=
  .next (s.atTime t State.rxGap)

/-- UNKNOWN_KIND (R185): the head frame fails one of the link's four checks. Its operand, whether the sender takes the frame's
kind for a known one, decides nothing: the table of kinds does (log 36). -/
def execUnknownKind (t : Time) (_known : Bool) (s : State) : Host.Outcome State Fault Refusal :=
  .next (s.atTime t State.rejectFrame)

/-- TX_FRAME_DONE (R188). -/
def execTxFrameDone (t : Time) (s : State) : Host.Outcome State Fault Refusal :=
  .next (s.atTime t State.txDone)

/-- BYTE_RECEIVED (R184). -/
def execByteReceived (t : Time) (b : RxByte) (s : State) : Host.Outcome State Fault Refusal :=
  .next (s.atTime t (State.receive b))

/-- STATUS (R189). -/
def execStatus (t : Time) (s : State) : Host.Outcome State Fault Refusal :=
  .next (s.takeRequest .status t (reading fun s' => (.ok, .status s'.statusReport)))

/-- IDENTIFY (R189). -/
def execIdentify (t : Time) (s : State) : Host.Outcome State Fault Refusal :=
  .next (s.takeRequest .identify t (reading fun _ => (.ok, .identity identity)))

/-- STATS_READ (R190). -/
def execStatsRead (t : Time) (clear : Nat) (s : State) : Host.Outcome State Fault Refusal :=
  .next (s.takeRequest .statsRead t (State.statsRead clear))

/-- RESTART (R193): no further request is taken until the reset acts. -/
def execRestart (t : Time) (s : State) : Host.Outcome State Fault Refusal :=
  .next (s.takeRequest .restart t (plainly fun s' => ({ s' with link := { s'.link with restart := .replying } }, .ok)))


end Sys2Proof.Machine
end

