-- ==== Sys2Proof/Machine/Practice.lean ====
section
/-! DEFINITION. The Practice Player and the Wait Matcher (10): what each of their commands does. -/

namespace Sys2Proof.Machine

/-- CUE_DONE (R163, R179). -/
def execCueDone (t : Time) (s : State) : Host.Outcome State Fault Refusal :=
  .next (s.atTime t fun s' =>
    if s'.player.state = .cueing ∧ s'.player.cueLeft = 0 then s'.cueDone else s')

/-- PLAYER_TICK (R164). -/
def execPlayerTick (t : Time) (s : State) : Host.Outcome State Fault Refusal :=
  .next (s.atTime t fun s' =>
    if s'.player.state = .playing ∧ s'.player.tickLeft.due = true then s'.playTick else s')

/-- WAIT_TIMER (R177). -/
def execWaitTimer (t : Time) (s : State) : Host.Outcome State Fault Refusal :=
  .next (s.atTime t fun s' =>
    if s'.player.state = .waiting ∧ s'.player.waitTimer.due = true then s'.waitExpires else s')

/-- PLAY_START (R162); a part that is none of the three is refused. -/
def execPlayStart (t : Time) (take : Nat) (fromMark toMark : Option Nat) (loops tempo : Nat) (parts : PartsArg)
    (report : Bool) (s : State) : Host.Outcome State Fault Refusal :=
  .next (s.takeRequest .playStart t (plainly fun s' =>
    (partsOf parts).elim (s', .badArgument) fun p => s'.playStart take fromMark toMark loops tempo p report))

/-- PLAY_STOP (R169, R171); a time that is neither is refused. -/
def execPlayStop (t : Time) (w : Option When) (s : State) : Host.Outcome State Fault Refusal :=
  .next (s.takeRequest .playStop t (plainly fun s' => w.elim (s', .badArgument) fun x => s'.playStop x))

/-- PLAY_PAUSE (R169, R172); a time that is neither is refused. -/
def execPlayPause (t : Time) (w : Option When) (s : State) : Host.Outcome State Fault Refusal :=
  .next (s.takeRequest .playPause t (plainly fun s' => w.elim (s', .badArgument) fun x => s'.playPause x))

/-- PLAY_CONTINUE (R173). -/
def execPlayContinue (t : Time) (s : State) : Host.Outcome State Fault Refusal :=
  .next (s.takeRequest .playContinue t (plainly State.playContinue))

/-- PLAY_TEMPO (R165); a time that is neither is refused. -/
def execPlayTempo (t : Time) (tempo : Nat) (w : Option When) (s : State) : Host.Outcome State Fault Refusal :=
  .next (s.takeRequest .playTempo t fun s' =>
    w.elim (s', .badArgument, .nothing) fun x => s'.playTempo tempo x)

/-- PLAY_PARTS (R167); a part that is none of the three is refused. -/
def execPlayParts (t : Time) (parts : PartsArg) (s : State) : Host.Outcome State Fault Refusal :=
  .next (s.takeRequest .playParts t (plainly fun s' => (partsOf parts).elim (s', .badArgument) fun x => s'.playParts x))

/-- WAIT_CONFIG (R177). -/
def execWaitConfig (t : Time) (window timeout : Nat) (s : State) : Host.Outcome State Fault Refusal :=
  .next (s.takeRequest .waitConfig t (plainly (State.waitConfig window timeout)))

/-- PLAY_SUSPEND (R178); a slot that is neither is refused. -/
def execPlaySuspend (t : Time) (slot : Option SlotId) (s : State) : Host.Outcome State Fault Refusal :=
  .next (s.takeRequest .playSuspend t (plainly fun s' => slot.elim (s', .badArgument) fun x => s'.playSuspend x))

/-- PLAY_RESUME (R179); a slot that is neither is refused. -/
def execPlayResume (t : Time) (slot : Option SlotId) (s : State) : Host.Outcome State Fault Refusal :=
  .next (s.takeRequest .playResume t (plainly fun s' => slot.elim (s', .badArgument) fun x => s'.playResume x))

/-- SLOT_DISCARD (R179); a slot that is neither is refused. -/
def execSlotDiscard (t : Time) (slot : Option SlotId) (s : State) : Host.Outcome State Fault Refusal :=
  .next (s.takeRequest .slotDiscard t (plainly fun s' => slot.elim (s', .badArgument) fun x => s'.slotDiscard x))

/-- PLAYER_QUERY (R180). -/
def execPlayerQuery (t : Time) (s : State) : Host.Outcome State Fault Refusal :=
  .next (s.takeRequest .playerQuery t (reading fun s' => (.ok, .player s'.player.report)))


end Sys2Proof.Machine
end

