-- ==== Sys2Proof/Machine/RailMoves.lean ====
section
/-! DEFINITION. The Rail Controller (04): what each of its commands does. -/

namespace Sys2Proof.Machine

/-- ENCODER_CHANGE (R53, R60, R69). -/
def execEncoderChange (t : Time) (c : EncoderChange) (s : State) : Host.Outcome State Fault Refusal :=
  .next (s.atTime t fun s' =>
    match c with
    | .step up => s'.encoderStep up
    | .illegal => s'.encoderIllegal)

/-- INDEX_EDGE (R54, R65): the index input becoming active; its becoming inactive only changes the level (log 17). An
INDEX_EDGE to active is an edge whatever level stood before (log 46). -/
def execIndexEdge (t : Time) (active : Bool) (s : State) : Host.Outcome State Fault Refusal :=
  .next (s.atTime t fun s' =>
    let s1 := { s' with pins := { s'.pins with index := active } }
    if active then s1.indexEdge else s1)

/-- END_SWITCH_CLOSE (R54, R65, R68): an edge whatever level stood before (log 46). -/
def execEndSwitchClose (t : Time) (sw : EndSwitch) (s : State) : Host.Outcome State Fault Refusal :=
  .next (s.atTime t fun s' => (s'.switchLevelSet sw true).switchCloses sw)

/-- END_SWITCH_OPEN (R54, R65): an edge whatever level stood before (log 46). -/
def execEndSwitchOpen (t : Time) (sw : EndSwitch) (s : State) : Host.Outcome State Fault Refusal :=
  .next (s.atTime t fun s' => (s'.switchLevelSet sw false).switchOpens sw)

/-- RAIL_STALL (R67, R70). -/
def execRailStall (t : Time) (s : State) : Host.Outcome State Fault Refusal :=
  .next (s.atTime t fun s' => if s'.stalled then s'.faultRail .stall else s')

/-- RAIL_TRAVEL_TIMEOUT (R67, R70). -/
def execRailTravelTimeout (t : Time) (s : State) : Host.Outcome State Fault Refusal :=
  .next (s.atTime t fun s' => if s'.overTravel then s'.faultRail .timeout else s')

/-- RAIL_MOVE (R58, R59); a target or a policy that is none of those named is refused. -/
def execRailMove (t : Time) (target : Option RailTarget) (policy : Option Policy) (s : State) : Host.Outcome State Fault Refusal :=
  .next (s.takeRequest .railMove t (plainly fun s' =>
    match target, policy with
    | some g, some p => s'.railMove g p
    | _, _ => (s', .badArgument)))

/-- RAIL_HOME (R64). -/
def execRailHome (t : Time) (s : State) : Host.Outcome State Fault Refusal :=
  .next (s.takeRequest .railHome t (plainly fun s' => (s'.beginHome, .ok)))

/-- RAIL_STOP (R66). -/
def execRailStop (t : Time) (s : State) : Host.Outcome State Fault Refusal :=
  .next (s.takeRequest .railStop t (plainly State.railStop))

/-- RAIL_CONFIG (R56); an auto-home that names neither of its values is refused. -/
def execRailConfig (t : Time) (acoustic silent moveDuty homingDuty travelLimit settle : Nat) (autoHome : Option Bool) (s : State) : Host.Outcome State Fault Refusal :=
  .next (s.takeRequest .railConfig t (plainly fun s' =>
    autoHome.elim (s', .badArgument) fun a =>
      s'.railConfig { acoustic, silent, moveDuty, homingDuty, travelLimit, settle, autoHome := a }))

/-- RAIL_QUERY (R71). -/
def execRailQuery (t : Time) (s : State) : Host.Outcome State Fault Refusal :=
  .next (s.takeRequest .railQuery t (reading fun s' => (.ok, .rail s'.railReport)))


end Sys2Proof.Machine
end

