-- ==== Sys2Proof/Machine/Recording.lean ====
section
/-! DEFINITION. The Recorder (09): what each of its commands does. -/

namespace Sys2Proof.Machine

/-- REC_TAKE_CLOCK_TICK (R147). -/
def execRecTakeClockTick (t : Time) (s : State) : Host.Outcome State Fault Refusal :=
  .next (s.atTime t fun s' => { s' with recorder := s'.recorder.tick })

/-- REC_START (R134, R146); an arm mode that is neither is refused first. -/
def execRecStart (t : Time) (take : Nat) (arm : Option ArmMode) (name : List Byte) (s : State) : Host.Outcome State Fault Refusal :=
  .next (s.takeRequest .recStart t fun s' =>
    arm.elim (s', .badArgument, .nothing) fun a => s'.recStart take a name)

/-- REC_MARK (R150). -/
def execRecMark (t : Time) (number : Nat) (s : State) : Host.Outcome State Fault Refusal :=
  .next (s.takeRequest .recMark t (State.recMark number))

/-- REC_PAUSE (R152). -/
def execRecPause (t : Time) (s : State) : Host.Outcome State Fault Refusal :=
  .next (s.takeRequest .recPause t State.recPause)

/-- REC_RESUME (R153). -/
def execRecResume (t : Time) (s : State) : Host.Outcome State Fault Refusal :=
  .next (s.takeRequest .recResume t State.recResume)

/-- REC_STOP (R154). -/
def execRecStop (t : Time) (s : State) : Host.Outcome State Fault Refusal :=
  .next (s.takeRequest .recStop t State.recStop)

/-- REC_QUERY (R155). -/
def execRecQuery (t : Time) (s : State) : Host.Outcome State Fault Refusal :=
  .next (s.takeRequest .recQuery t (reading fun s' => (.ok, .recorder s'.recReport)))


end Sys2Proof.Machine
end

