-- ==== Sys2Proof/Machine/Routing.lean ====
section
/-! DEFINITION. The Event Router and the Stream Packer (03, 09): what each of their commands does. -/

namespace Sys2Proof.Machine

/-- ROUTE_SET (R49); a flag that names neither of its values is refused. -/
def execRouteSet (t : Time) (monitor : Option Bool) (split : Nat) (streaming : Option Bool) (s : State) : Host.Outcome State Fault Refusal :=
  .next (s.takeRequest .routeSet t (plainly fun s' =>
    match monitor, streaming with
    | some m, some x => s'.routeSet m split x
    | _, _ => (s', .badArgument)))

/-- ROUTE_QUERY (R50). -/
def execRouteQuery (t : Time) (s : State) : Host.Outcome State Fault Refusal :=
  .next (s.takeRequest .routeQuery t (reading fun s' => (.ok, .route s'.routeReport)))

/-- STREAM_HOLD_TIMER (R157). -/
def execStreamHoldTimer (t : Time) (s : State) : Host.Outcome State Fault Refusal :=
  .next (s.atTime t fun s' =>
    if s'.packer.timer.due then { s' with packer := s'.packer.holdExpires } else s')

/-- STREAM_CONFIG (R159); a mode that is neither is refused. -/
def execStreamConfig (t : Time) (mode : Option PackMode) (events hold : Nat) (s : State) : Host.Outcome State Fault Refusal :=
  .next (s.takeRequest .streamConfig t (plainly fun s' =>
    match mode with
    | none => (s', .badArgument)
    | some m =>
      let r := s'.packer.configure m events hold
      ({ s' with packer := r.1 }, r.2)))

/-- STREAM_QUERY (R159). -/
def execStreamQuery (t : Time) (s : State) : Host.Outcome State Fault Refusal :=
  .next (s.takeRequest .streamQuery t (reading fun s' => (.ok, .packer s'.packer.report)))


end Sys2Proof.Machine
end

