-- ==== Sys2Proof/Machine/Sensing.lean ====
section
/-! DEFINITION. The Action Scanner and the Pedal Unit (01, 02): what each of their commands does. -/

namespace Sys2Proof.Machine

/-- SCAN_FRAME (R1, R10). -/
def execScanFrame (t : Time) (keys hammers : List Nat) (pedals : PedalRaws) (s : State) : Host.Outcome State Fault Refusal :=
  .next (s.atTime t (State.scanFrame keys hammers pedals))

/-- SETTLE_TIMER (R8). -/
def execSettleTimer (t : Time) (s : State) : Host.Outcome State Fault Refusal :=
  .next (s.atTime t fun s' => if s'.scanner.settle.due then s'.settleExpires else s')

/-- CAL_SET (R4, R5). -/
def execCalSet (t : Time) (key : Nat) (rec : CalRecord) (s : State) : Host.Outcome State Fault Refusal :=
  .next (s.takeRequest .calSet t (plainly (State.calSet key rec)))

/-- THRESH_SET (R7). -/
def execThreshSet (t : Time) (set : Thresholds) (s : State) : Host.Outcome State Fault Refusal :=
  .next (s.takeRequest .threshSet t (State.threshSet set))

/-- CURVE_SET (R17); a curve that is neither is refused. -/
def execCurveSet (t : Time) (curve : Option Curve) (points : List CurvePoint) (s : State) : Host.Outcome State Fault Refusal :=
  .next (s.takeRequest .curveSet t (plainly fun s' => curve.elim (s', .badArgument) fun c => s'.curveSet c points))

/-- FAULT_CLEAR (R21, R37). -/
def execFaultClear (t : Time) (target : FaultTarget) (s : State) : Host.Outcome State Fault Refusal :=
  .next (s.takeRequest .faultClear t (plainly (State.faultClear target)))

/-- CAPTURE_BEGIN (R23). -/
def execCaptureBegin (t : Time) (s : State) : Host.Outcome State Fault Refusal :=
  .next (s.takeRequest .captureBegin t (plainly State.captureBegin))

/-- CAPTURE_END (R24). -/
def execCaptureEnd (t : Time) (s : State) : Host.Outcome State Fault Refusal :=
  .next (s.takeRequest .captureEnd t State.captureEnd)

/-- CAPTURE_CANCEL (R24). -/
def execCaptureCancel (t : Time) (s : State) : Host.Outcome State Fault Refusal :=
  .next (s.takeRequest .captureCancel t (plainly State.captureCancel))

/-- KEY_QUERY (R25). -/
def execKeyQuery (t : Time) (key : Nat) (s : State) : Host.Outcome State Fault Refusal :=
  .next (s.takeRequest .keyQuery t (reading (State.keyQuery key)))

/-- SCAN_QUERY (R25). -/
def execScanQuery (t : Time) (s : State) : Host.Outcome State Fault Refusal :=
  .next (s.takeRequest .scanQuery t (reading fun s' => (.ok, .scan s'.scanner.report)))

/-- PEDAL_CAL (R29); a pedal that is none of the three is refused. -/
def execPedalCal (t : Time) (pedal : Option Pedal) (rest full : Nat) (s : State) : Host.Outcome State Fault Refusal :=
  .next (s.takeRequest .pedalCal t (plainly fun s' => pedal.elim (s', .badArgument) fun p => s'.pedalCal p rest full))

/-- PEDAL_MODE (R30); a pedal or a mode that is none of those named is refused. -/
def execPedalMode (t : Time) (pedal : Option Pedal) (mode : Option PedalMode) (deadBand : Nat) (s : State) : Host.Outcome State Fault Refusal :=
  .next (s.takeRequest .pedalMode t (plainly fun s' =>
    match pedal, mode with
    | some p, some m => s'.pedalMode p m deadBand
    | _, _ => (s', .badArgument)))

/-- PEDAL_QUERY (R38); the reply carries each pedal's last good raw sample too, which R38's list leaves out and the procedure
of 02 reads from it (DEDUCED, log 50). -/
def execPedalQuery (t : Time) (s : State) : Host.Outcome State Fault Refusal :=
  .next (s.takeRequest .pedalQuery t (reading fun s' =>
    (.ok, .pedals s'.pedals.damper s'.pedals.sostenuto s'.pedals.soft s'.pedals.context)))


end Sys2Proof.Machine
end

