-- ==== Sys2Proof/Machine/Takes.lean ====
section
/-! DEFINITION. The Take Store (08): what each of its commands does. -/

namespace Sys2Proof.Machine

/-- TAKE_LIST (R137). -/
def execTakeList (t : Time) (s : State) : Host.Outcome State Fault Refusal :=
  .next (s.takeRequest .takeList t (reading fun s' => (.ok, s'.store.listing)))

/-- TAKE_INFO (R137). -/
def execTakeInfo (t : Time) (take : Nat) (s : State) : Host.Outcome State Fault Refusal :=
  .next (s.takeRequest .takeInfo t (reading fun s' => s'.store.takeInfo take))

/-- TAKE_RENAME (R138). -/
def execTakeRename (t : Time) (take : Nat) (name : List Byte) (s : State) : Host.Outcome State Fault Refusal :=
  .next (s.takeRequest .takeRename t (plainly fun s' =>
    let r := s'.store.rename take name
    ({ s' with store := r.1 }, r.2)))

/-- TAKE_DELETE (R139). -/
def execTakeDelete (t : Time) (take : Nat) (s : State) : Host.Outcome State Fault Refusal :=
  .next (s.takeRequest .takeDelete t (plainly fun s' =>
    let r := s'.store.deleteTake take
    ({ s' with store := r.1 }, r.2)))

/-- UPLOAD_OPEN (R140). -/
def execUploadOpen (t : Time) (take count : Nat) (name : List Byte) (s : State) : Host.Outcome State Fault Refusal :=
  .next (s.takeRequest .uploadOpen t (plainly fun s' =>
    let r := s'.store.openUpload take count name
    ({ s' with store := r.1 }, r.2)))

/-- UPLOAD_BLOCK (R131, R132, R141). -/
def execUploadBlock (t : Time) (index : Nat) (data : List Byte) (s : State) : Host.Outcome State Fault Refusal :=
  .next (s.takeRequest .uploadBlock t fun s' =>
    let r := s'.store.uploadBlock index data
    ({ s' with store := r.1 }, r.2))

/-- DOWNLOAD_OPEN (R142). -/
def execDownloadOpen (t : Time) (take first count : Nat) (s : State) : Host.Outcome State Fault Refusal :=
  .next (s.takeRequest .downloadOpen t fun s' =>
    let r := s'.store.openDownload take first count
    ({ s' with store := r.1 }, r.2))

/-- DOWNLOAD_BLOCK (R142). -/
def execDownloadBlock (t : Time) (s : State) : Host.Outcome State Fault Refusal :=
  .next (s.takeRequest .downloadBlock t fun s' =>
    let r := s'.store.downloadBlock
    ({ s' with store := r.1 }, r.2))

/-- TRANSFER_ABORT (R143). -/
def execTransferAbort (t : Time) (s : State) : Host.Outcome State Fault Refusal :=
  .next (s.takeRequest .transferAbort t (plainly fun s' =>
    let r := s'.store.abort
    ({ s' with store := r.1 }, r.2)))


end Sys2Proof.Machine
end

