-- ==== Sys2Proof/Machine/VoiceFetch.lean ====
section
/-! DEFINITION. The Voice Engine and the Sample Fetch Unit (05, 06): what each of their commands does. -/

namespace Sys2Proof.Machine

/-- SEGMENT_READ_DONE (R103, R104): it acts while the port carries a segment read. -/
def execSegmentReadDone (t : Time) (s : State) : Host.Outcome State Fault Refusal :=
  .next (s.atTime t fun s' => s'.fetch.inFlight.elim s' s'.segmentDone)

/-- SOUNDSET_LOAD_DONE (R96, R97, R107, R109, R110). -/
def execSoundsetLoadDone (t : Time) (s : State) : Host.Outcome State Fault Refusal :=
  .next (s.atTime t State.loadDone)

/-- POLY_SET (R89); a priority that is neither is refused. -/
def execPolySet (t : Time) (limit : Nat) (priority : Option Priority) (s : State) : Host.Outcome State Fault Refusal :=
  .next (s.takeRequest .polySet t (plainly fun s' =>
    match priority with
    | none => (s', .badArgument)
    | some p => if limitOk limit then (s'.setPoly limit p, .ok) else (s', .badArgument)))

/-- SOUND_OFF (R90); a scope that is none of the three is refused. -/
def execSoundOff (t : Time) (scope : Option Scope) (s : State) : Host.Outcome State Fault Refusal :=
  .next (s.takeRequest .soundOff t fun s' =>
    match scope with
    | none => (s', .badArgument, .nothing)
    | some c => ({ s' with voices := s'.voices.soundOff c }, .ok, .count (s'.voices.scopeCount c)))

/-- VOICE_QUERY (R91). -/
def execVoiceQuery (t : Time) (s : State) : Host.Outcome State Fault Refusal :=
  .next (s.takeRequest .voiceQuery t (reading fun s' => (.ok, .voices s'.voices.summary)))

/-- VOICE_READ (R91). -/
def execVoiceRead (t : Time) (first count : Nat) (s : State) : Host.Outcome State Fault Refusal :=
  .next (s.takeRequest .voiceRead t (reading fun s' =>
    if first ≤ 79 && inRange 1 16 count && first + count ≤ 80 then
      (.ok, .voiceRecords ((List.range count).map fun i => s'.voiceReport (first + i)))
    else (.badArgument, .nothing)))

/-- SOUNDSET_RELOAD (R107). -/
def execSoundsetReload (t : Time) (s : State) : Host.Outcome State Fault Refusal :=
  .next (s.takeRequest .soundsetReload t (plainly fun s' =>
    if s'.reloadBusy then (s', .busy) else ({ s' with fetch := s'.fetch.beginLoad }, .ok)))

/-- SOUNDSET_QUERY (R108). -/
def execSoundsetQuery (t : Time) (s : State) : Host.Outcome State Fault Refusal :=
  .next (s.takeRequest .soundsetQuery t (reading fun s' => (.ok, .soundSet s'.fetch.setReport)))

/-- ZONE_READ (R108). -/
def execZoneRead (t : Time) (first count : Nat) (s : State) : Host.Outcome State Fault Refusal :=
  .next (s.takeRequest .zoneRead t (reading fun s' =>
    if s'.fetch.status ≠ .valid then (.noSoundSet, .nothing)
    else if inRange 1 8 count && first + count ≤ s'.fetch.zones.length then
      (.ok, .zones ((s'.fetch.zones.drop first).take count))
    else (.badArgument, .nothing)))

/-- STREAM_READ (R108). -/
def execStreamRead (t : Time) (entry : Nat) (s : State) : Host.Outcome State Fault Refusal :=
  .next (s.takeRequest .streamRead t (reading fun s' =>
    if entry ≤ 79 then (.ok, .stream (s'.fetch.streamReport entry)) else (.badArgument, .nothing)))


end Sys2Proof.Machine
end

