-- ==== Sys2Proof/Machine/Dispatch.lean ====
section
/-! DEFINITION. What each command does: one arm per constructor of `Instr`, each one call of its meaning. -/

namespace Sys2Proof.Machine

/-- The effect of a command on everything but the queue. -/
def exec (i : Instr) (s : State) : Host.Outcome State Fault Refusal :=
  match i with
  | .fullReset strap => Sys2Proof.Machine.execFullReset strap s
  | .setupAreaReadDone t => Sys2Proof.Machine.execSetupAreaReadDone t s
  | .autoHome t => Sys2Proof.Machine.execAutoHome t s
  | .warmReset t => Sys2Proof.Machine.execWarmReset t s
  | .rxFrame t b => Sys2Proof.Machine.execRxFrame t b s
  | .rxGapTimeout t => Sys2Proof.Machine.execRxGapTimeout t s
  | .unknownKind t known => Sys2Proof.Machine.execUnknownKind t known s
  | .txFrameDone t => Sys2Proof.Machine.execTxFrameDone t s
  | .scanFrame t keys hammers pedals => Sys2Proof.Machine.execScanFrame t keys hammers pedals s
  | .streamHoldTimer t => Sys2Proof.Machine.execStreamHoldTimer t s
  | .settleTimer t => Sys2Proof.Machine.execSettleTimer t s
  | .encoderChange t c => Sys2Proof.Machine.execEncoderChange t c s
  | .indexEdge t active => Sys2Proof.Machine.execIndexEdge t active s
  | .endSwitchClose t sw => Sys2Proof.Machine.execEndSwitchClose t sw s
  | .endSwitchOpen t sw => Sys2Proof.Machine.execEndSwitchOpen t sw s
  | .railStall t => Sys2Proof.Machine.execRailStall t s
  | .railTravelTimeout t => Sys2Proof.Machine.execRailTravelTimeout t s
  | .segmentReadDone t => Sys2Proof.Machine.execSegmentReadDone t s
  | .soundsetLoadDone t => Sys2Proof.Machine.execSoundsetLoadDone t s
  | .outputFrame t => Sys2Proof.Machine.execOutputFrame t s
  | .audioBlockBoundary t => Sys2Proof.Machine.execAudioBlockBoundary t s
  | .plugDetectChange t asserted => Sys2Proof.Machine.execPlugDetectChange t asserted s
  | .plugSettleTimer t => Sys2Proof.Machine.execPlugSettleTimer t s
  | .muteLineChange t asserted => Sys2Proof.Machine.execMuteLineChange t asserted s
  | .recTakeClockTick t => Sys2Proof.Machine.execRecTakeClockTick t s
  | .cueDone t => Sys2Proof.Machine.execCueDone t s
  | .playerTick t => Sys2Proof.Machine.execPlayerTick t s
  | .waitTimer t => Sys2Proof.Machine.execWaitTimer t s
  | .calSet t key rec => Sys2Proof.Machine.execCalSet t key rec s
  | .threshSet t set => Sys2Proof.Machine.execThreshSet t set s
  | .curveSet t curve points => Sys2Proof.Machine.execCurveSet t curve points s
  | .faultClear t target => Sys2Proof.Machine.execFaultClear t target s
  | .captureBegin t => Sys2Proof.Machine.execCaptureBegin t s
  | .captureEnd t => Sys2Proof.Machine.execCaptureEnd t s
  | .captureCancel t => Sys2Proof.Machine.execCaptureCancel t s
  | .keyQuery t key => Sys2Proof.Machine.execKeyQuery t key s
  | .scanQuery t => Sys2Proof.Machine.execScanQuery t s
  | .pedalCal t pedal rest full => Sys2Proof.Machine.execPedalCal t pedal rest full s
  | .pedalMode t pedal mode deadBand => Sys2Proof.Machine.execPedalMode t pedal mode deadBand s
  | .pedalQuery t => Sys2Proof.Machine.execPedalQuery t s
  | .routeSet t monitor split streaming => Sys2Proof.Machine.execRouteSet t monitor split streaming s
  | .routeQuery t => Sys2Proof.Machine.execRouteQuery t s
  | .railMove t target policy => Sys2Proof.Machine.execRailMove t target policy s
  | .railHome t => Sys2Proof.Machine.execRailHome t s
  | .railStop t => Sys2Proof.Machine.execRailStop t s
  | .railConfig t acoustic silent moveDuty homingDuty travelLimit settle autoHome => Sys2Proof.Machine.execRailConfig t acoustic silent moveDuty homingDuty travelLimit settle autoHome s
  | .railQuery t => Sys2Proof.Machine.execRailQuery t s
  | .polySet t limit priority => Sys2Proof.Machine.execPolySet t limit priority s
  | .soundOff t scope => Sys2Proof.Machine.execSoundOff t scope s
  | .voiceQuery t => Sys2Proof.Machine.execVoiceQuery t s
  | .voiceRead t first count => Sys2Proof.Machine.execVoiceRead t first count s
  | .soundsetReload t => Sys2Proof.Machine.execSoundsetReload t s
  | .soundsetQuery t => Sys2Proof.Machine.execSoundsetQuery t s
  | .zoneRead t first count => Sys2Proof.Machine.execZoneRead t first count s
  | .streamRead t entry => Sys2Proof.Machine.execStreamRead t entry s
  | .volumeSet t master => Sys2Proof.Machine.execVolumeSet t master s
  | .mixSet t liveTrim playTrim source channel => Sys2Proof.Machine.execMixSet t liveTrim playTrim source channel s
  | .hpConfig t width plug mode => Sys2Proof.Machine.execHpConfig t width plug mode s
  | .unmute t => Sys2Proof.Machine.execUnmute t s
  | .mixQuery t => Sys2Proof.Machine.execMixQuery t s
  | .takeList t => Sys2Proof.Machine.execTakeList t s
  | .takeInfo t take => Sys2Proof.Machine.execTakeInfo t take s
  | .takeRename t take name => Sys2Proof.Machine.execTakeRename t take name s
  | .takeDelete t take => Sys2Proof.Machine.execTakeDelete t take s
  | .uploadOpen t take count name => Sys2Proof.Machine.execUploadOpen t take count name s
  | .uploadBlock t index data => Sys2Proof.Machine.execUploadBlock t index data s
  | .downloadOpen t take first count => Sys2Proof.Machine.execDownloadOpen t take first count s
  | .downloadBlock t => Sys2Proof.Machine.execDownloadBlock t s
  | .transferAbort t => Sys2Proof.Machine.execTransferAbort t s
  | .recStart t take arm name => Sys2Proof.Machine.execRecStart t take arm name s
  | .recMark t number => Sys2Proof.Machine.execRecMark t number s
  | .recPause t => Sys2Proof.Machine.execRecPause t s
  | .recResume t => Sys2Proof.Machine.execRecResume t s
  | .recStop t => Sys2Proof.Machine.execRecStop t s
  | .recQuery t => Sys2Proof.Machine.execRecQuery t s
  | .streamConfig t mode events hold => Sys2Proof.Machine.execStreamConfig t mode events hold s
  | .streamQuery t => Sys2Proof.Machine.execStreamQuery t s
  | .playStart t take fromMark toMark loops tempo parts report => Sys2Proof.Machine.execPlayStart t take fromMark toMark loops tempo parts report s
  | .playStop t when => Sys2Proof.Machine.execPlayStop t when s
  | .playPause t when => Sys2Proof.Machine.execPlayPause t when s
  | .playContinue t => Sys2Proof.Machine.execPlayContinue t s
  | .playTempo t tempo when => Sys2Proof.Machine.execPlayTempo t tempo when s
  | .playParts t parts => Sys2Proof.Machine.execPlayParts t parts s
  | .waitConfig t window timeout => Sys2Proof.Machine.execWaitConfig t window timeout s
  | .playSuspend t slot => Sys2Proof.Machine.execPlaySuspend t slot s
  | .playResume t slot => Sys2Proof.Machine.execPlayResume t slot s
  | .slotDiscard t slot => Sys2Proof.Machine.execSlotDiscard t slot s
  | .playerQuery t => Sys2Proof.Machine.execPlayerQuery t s
  | .status t => Sys2Proof.Machine.execStatus t s
  | .identify t => Sys2Proof.Machine.execIdentify t s
  | .statsRead t clear => Sys2Proof.Machine.execStatsRead t clear s
  | .restart t => Sys2Proof.Machine.execRestart t s
  | .byteReceived t b => Sys2Proof.Machine.execByteReceived t b s

end Sys2Proof.Machine
end

