-- ==== Sys2Proof/Safety.lean ====
section
/-! DEFINITION. What the statements say about states: when a request is taken and what its answer leaves, and the
invariants of the part. -/

namespace Sys2Proof.Machine

/-! ### Requests (R185, R186, R188) -/

/-- R185: the Link Controller takes the frame `f`: the link is READY, with the READY notice gone, the reply place empty and no
RESTART taken, and `f` heads the request queue with `rest` behind it. -/
def State.takesHead (s : State) (f : Frame) (rest : List Frame) : Prop :=
  s.link.ready = true ∧ s.link.readyPlace = none ∧ s.link.reply = none ∧ s.link.restart = .none
    ∧ s.link.requests = f :: rest

/-- R185, checks 3 and 4: the part knows the frame's kind as that of the request `q`, and the kind allows its payload length
(log 36). -/
def State.knowsKind (s : State) (q : Request) (f : Frame) : Prop :=
  ∃ row, s.kinds.find? (·.code == f.kind) = some row ∧ row.request = q ∧ f.payload.length ∈ row.lengths

/-- R185: in the table of kinds every request whose payload length the spec gives allows that length and no other. -/
def State.kindsLawful (s : State) : Prop :=
  ∀ row ∈ s.kinds, ∀ n, row.request.fixedLength = some n → row.lengths = [n]

/-- R185: the frame taken passes the four checks, and its kind names the request `q`: it goes to `q`'s block. -/
def State.offers (s : State) (q : Request) (f : Frame) (rest : List Frame) : Prop :=
  s.takesHead f rest ∧ f.cls.toNat % 16 = 1 ∧ f.tag ≠ 0 ∧ s.knowsKind q f

/-- R185: no frame is taken: the link is not READY, or the reply place is full, or a RESTART has been taken, or no request
waits. -/
def State.takesNothing (s : State) : Prop :=
  s.link.ready = false ∨ s.link.reply ≠ none ∨ s.link.restart ≠ .none ∨ s.link.requests = []

/-- The request that a command stands for, and its time (log 5); none for an event of the part. -/
def requestIn : Instr → Option (Request × Time)
  | .calSet t _ _ => some (.calSet, t)
  | .threshSet t _ => some (.threshSet, t)
  | .curveSet t _ _ => some (.curveSet, t)
  | .faultClear t _ => some (.faultClear, t)
  | .captureBegin t => some (.captureBegin, t)
  | .captureEnd t => some (.captureEnd, t)
  | .captureCancel t => some (.captureCancel, t)
  | .keyQuery t _ => some (.keyQuery, t)
  | .scanQuery t => some (.scanQuery, t)
  | .pedalCal t _ _ _ => some (.pedalCal, t)
  | .pedalMode t _ _ _ => some (.pedalMode, t)
  | .pedalQuery t => some (.pedalQuery, t)
  | .routeSet t _ _ _ => some (.routeSet, t)
  | .routeQuery t => some (.routeQuery, t)
  | .railMove t _ _ => some (.railMove, t)
  | .railHome t => some (.railHome, t)
  | .railStop t => some (.railStop, t)
  | .railConfig t _ _ _ _ _ _ _ => some (.railConfig, t)
  | .railQuery t => some (.railQuery, t)
  | .polySet t _ _ => some (.polySet, t)
  | .soundOff t _ => some (.soundOff, t)
  | .voiceQuery t => some (.voiceQuery, t)
  | .voiceRead t _ _ => some (.voiceRead, t)
  | .soundsetReload t => some (.soundsetReload, t)
  | .soundsetQuery t => some (.soundsetQuery, t)
  | .zoneRead t _ _ => some (.zoneRead, t)
  | .streamRead t _ => some (.streamRead, t)
  | .volumeSet t _ => some (.volumeSet, t)
  | .mixSet t _ _ _ _ => some (.mixSet, t)
  | .hpConfig t _ _ _ => some (.hpConfig, t)
  | .unmute t => some (.unmute, t)
  | .mixQuery t => some (.mixQuery, t)
  | .takeList t => some (.takeList, t)
  | .takeInfo t _ => some (.takeInfo, t)
  | .takeRename t _ _ => some (.takeRename, t)
  | .takeDelete t _ => some (.takeDelete, t)
  | .uploadOpen t _ _ _ => some (.uploadOpen, t)
  | .uploadBlock t _ _ => some (.uploadBlock, t)
  | .downloadOpen t _ _ _ => some (.downloadOpen, t)
  | .downloadBlock t => some (.downloadBlock, t)
  | .transferAbort t => some (.transferAbort, t)
  | .recStart t _ _ _ => some (.recStart, t)
  | .recMark t _ => some (.recMark, t)
  | .recPause t => some (.recPause, t)
  | .recResume t => some (.recResume, t)
  | .recStop t => some (.recStop, t)
  | .recQuery t => some (.recQuery, t)
  | .streamConfig t _ _ _ => some (.streamConfig, t)
  | .streamQuery t => some (.streamQuery, t)
  | .playStart t _ _ _ _ _ _ _ => some (.playStart, t)
  | .playStop t _ => some (.playStop, t)
  | .playPause t _ => some (.playPause, t)
  | .playContinue t => some (.playContinue, t)
  | .playTempo t _ _ => some (.playTempo, t)
  | .playParts t _ => some (.playParts, t)
  | .waitConfig t _ _ => some (.waitConfig, t)
  | .playSuspend t _ => some (.playSuspend, t)
  | .playResume t _ => some (.playResume, t)
  | .slotDiscard t _ => some (.slotDiscard, t)
  | .playerQuery t => some (.playerQuery, t)
  | .status t => some (.status, t)
  | .identify t => some (.identify, t)
  | .statsRead t _ => some (.statsRead, t)
  | .restart t => some (.restart, t)
  | _ => none

/-- The time of a command that stands for taking a request (log 5); none for an event of the part. -/
def requestTime (c : Instr) : Option Time := (requestIn c).map (·.2)

/-- R186, R188: the link once the request `f` is answered: it has left the queue, and its reply fills the reply place, or has
begun at once on a free line; a reply of one frame then leaves the place empty. -/
def Link.answering (f : Frame) (rest : List Frame) (status : Status) (content : Content) (l : Link) : Link :=
  let r : Reply := { kind := f.kind, tag := f.tag, status, content }
  match l.tx with
  | some _ => { l with requests := rest, reply := some { reply := r, begun := 0, parts := content.parts } }
  | none =>
    { l with
      requests := rest
      tx := some (.reply r 0 content.parts)
      reply := if content.parts ≤ 1 then none else some { reply := r, begun := 1, parts := content.parts } }

/-- The state once the request `f` is answered. -/
def State.answering (f : Frame) (rest : List Frame) (status : Status) (content : Content) (s : State) : State :=
  { s with link := s.link.answering f rest status content }

/-! ### Changes of rail state (R8, R55) -/

/-- R60: a position lies more than 8 counts from a target position. -/
abbrev outsideWindow (x goal : Nat) : Prop := x + 8 < goal ∨ goal + 8 < x

/-- R8, R55: the rail, as `r`, changes to a state other than ACOUSTIC and SILENT: the scanner's target mode is KEY_ONLY with no
settle timer, the router has the new state, and RAIL_STATE is sent. -/
def State.railEnters (st : RailState) (why : RailReason) (r : Rail) (s : State) : State :=
  ({ s with
    rail := { r with state := st }
    scanner := { s.scanner with target := .keyOnly, settle := none }
    router := { s.router with railState := st } } : State).notify
      (.railState st why r.position (r.motion.map fun m => (m.kind, m.target, m.retreating)))

/-- R8: the scanner after the rail comes to rest at a target: KEY_ONLY for the settle interval, or the target's mode at once
when the interval is 0. -/
def Scanner.settling (g : RailTarget) (settleMs : Nat) (sc : Scanner) : Scanner :=
  if settleMs = 0 then { sc with target := (match g with | .acoustic => .free | .silent => .stopped), settle := none }
  else { sc with target := .keyOnly, settle := some (settleMs * 1000) }

/-- R8, R55, R61: the rail arrives at a target: braked, its motion record removed, RAIL_MOVES counted, the settle timer
started, the router told, RAIL_STATE sent. -/
def State.railArrives (g : RailTarget) (why : RailReason) (s : State) : State :=
  let st := RailState.ofTarget g
  (({ s with
    rail := { s.rail with state := st, motion := none, phase := none, drive := .brake, duty := 0 }
    scanner := s.scanner.settling g s.rail.config.settle
    router := { s.router with railState := st } } : State).tally .railMoves).notify
      (.railState st why s.rail.position none)

/-- R70: a rail fault: braked, the fault kind kept, the motion record kept, the phase cleared, FAULT entered, RAIL_FAULTS
counted. A STALL or a TIMEOUT marks its moment (log 18). -/
def State.railFaults (kind : RailFault) (s : State) : State :=
  let faultNow := match kind with | .stall | .timeout => true | _ => false
  (s.railEnters .fault (.fault kind)
    { s.rail with drive := .brake, duty := 0, lastFault := some kind, phase := none, faultNow }).tally .railFaults

/-! ### The Recorder's records (R147, R151, R154) -/

/-- R151: records written one after another, each with its hand and its delta, up to a failed ask. -/
def State.writes : List (RecordBody × Hand × Nat) → State → State × Bool
  | [], s => (s, true)
  | (b, h, d) :: rs, s =>
    match s.emit b h d with
    | (s', true) => s'.writes rs
    | (s', false) => (s', false)

/-- R154: the same in a close, which a failed ask does not stop; answers whether every ask was met. -/
def State.writesOn : List (RecordBody × Hand × Nat) → State → State × Bool
  | [], s => (s, true)
  | (b, h, d) :: rs, s =>
    let x := s.emit b h d
    let y := x.1.writesOn rs
    (y.1, x.2 && y.2)

/-- R147: the GAP records that a time of `d` calls for. -/
def gapsFor (d : Nat) : List (RecordBody × Hand × Nat) :=
  if d ≤ 255 then []
  else List.replicate (d / 65535) (.gap 65535, .none, 0)
    ++ if d % 65535 ≤ 255 then [] else [(.gap (d % 65535), .none, 0)]

/-- R147: what is left of a time of `d` after its GAP records. -/
def leftAfterGaps (d : Nat) : Nat := if d ≤ 255 then d else if d % 65535 ≤ 255 then d % 65535 else 0

/-- Records of one moment: the first with delta `d`, the others with delta 0. -/
def stamped (d : Nat) : List (RecordBody × Hand) → List (RecordBody × Hand × Nat)
  | [] => []
  | (b, h) :: rs => (b, h, d) :: rs.map fun x => (x.1, x.2, 0)

/-- R147: records of one moment, a time of `d` after the last record written, with the GAP records that go before them. -/
def timedRecords (d : Nat) (rs : List (RecordBody × Hand)) : List (RecordBody × Hand × Nat) :=
  if rs = [] then [] else gapsFor d ++ stamped (leftAfterGaps d) rs

/-- R146: the three PEDAL records of a pedal context. -/
def pedalRecords (c : PedalContext) : List (RecordBody × Hand) :=
  [(.pedal 0 c.damper, .none), (.pedal 1 (if c.sostenuto then 127 else 0), .none), (.pedal 2 c.soft, .none)]

/-- The NOTE_OFF records of the open-note set, each with its stored hand. -/
def noteOffs (opens : List (Nat × Hand)) : List (RecordBody × Hand) := opens.map fun e => (.noteOff e.1, e.2)

/-- The Recorder records take `id`, whose directory entry is `tk`. -/
def State.records (s : State) (id : Nat) (tk : Take) : Prop :=
  s.recorder.take = some id ∧ 1 ≤ id ∧ s.store.takes[id - 1]? = some (some tk)

/-- The Practice Player plays take `id`, whose directory entry is `tk`. -/
def State.plays (s : State) (id : Nat) (tk : Take) : Prop :=
  s.player.take = some id ∧ 1 ≤ id ∧ s.store.takes[id - 1]? = some (some tk)

/-! ### The warm reset (R193) -/

/-- R27, R40, R51, R73, R93, R110, R124, R145, R155, R160, R182, R193: `v` holds the warm-reset state of every block, made from
`u`; the Recorder's close comes first. The depths, return counts and latest-strike qualities of the keys are the model's
choice (log 12). -/
def warmBlocksOf (u v : State) : Prop :=
  let rail (r : Rail) : Prop := v.rail = { r with occupied := false, autoHomeDue := v.rail.autoHomeDue }
  let still := u.rail.state = .acoustic ∨ u.rail.state = .silent ∨ u.rail.state = .parked
  let lost := u.rail.state = .moving ∨ u.rail.state = .held ∨ u.rail.state = .homing
  let target (g : RailTarget) : Prop := v.rail.state = RailState.ofTarget g
  let c := if u.recorder.state = .idle then u else u.closeRecording true
  (still → rail { u.rail with motion := none, drive := .brake, duty := 0, phase := none })
    ∧ (lost → rail { u.rail with
        state := .unhomed, position := none, motion := none, drive := .brake, duty := 0, phase := none })
    ∧ (u.rail.state = .fault → rail { u.rail with drive := .brake, duty := 0 })
    ∧ (u.rail.state = .unhomed → rail { u.rail with motion := none, position := none, phase := none })
    ∧ v.router = { u.router with railState := v.rail.state, passage := none }
    ∧ (let sc : Scanner := { u.scanner with
          keys := u.scanner.keys.map fun k => Key.fresh (k.staged.getD k.cal) u.scanner.thr, capturing := false }
       (∀ g, target g → v.scanner = sc.settling g u.rail.config.settle)
         ∧ ((∀ g, ¬target g) → v.scanner = { sc with target := .keyOnly, settle := none }))
    ∧ (∀ p, v.pedals.unit p = { u.pedals.unit p with
        depth := 0, good := none, switchDown := false, last := 0, faults := 0, faulted := false })
    ∧ v.pedals.context = { damper := 0, sostenuto := false, soft := 0, set := [] }
    ∧ v.voices = { u.voices with table := u.voices.table.map fun _ => none, counter := 0 }
    ∧ (v.fetch.bufs.length = u.fetch.bufs.length
        ∧ ∀ b ∈ v.fetch.bufs, b.a.fill = .empty ∧ b.b.fill = .empty ∧ b.pos = none)
    ∧ v.mixer = { u.mixer with silenceFlag := v.silenceCondition, silentOut := true, ramp := .none }
    ∧ v.store = { c.store with
        takes := c.store.takes.map fun x => x.bind fun tk => if tk.phase = .loading then none else
          some { tk with holders := { player := false, slotA := false, slotB := false, download := false } }
        pool := insertAll
          (c.store.takes.flatMap fun x => x.elim [] fun tk => if tk.phase = .loading then tk.blocks else []) c.store.pool
        transfer := .none }
    ∧ v.recorder = Recorder.reset
    ∧ v.packer = { u.packer with queue := [], openPacket := [], ready := false, backlog := [], timer := none, gap := 0 }
    ∧ v.player = { Player.reset with window := u.player.window, timeout := u.player.timeout }
    ∧ v.stats = List.replicate 27 0 ∧ v.clock = u.clock ∧ v.pins = u.pins ∧ v.soundMem = u.soundMem
    ∧ v.pending = u.pending ∧ v.kinds = u.kinds

/-! ### Invariants -/

/-- Both memories are in canonical form. -/
def State.memoriesCanonical (s : State) : Prop :=
  s.store.mem.wf storeByte = true ∧ s.soundMem.wf flashByte = true

/-- The bounds of the queues and lists (R156, R158, R174, R175, R185, R187). -/
def State.queuesBounded (s : State) : Prop :=
  s.link.requests.length ≤ 4 ∧ s.link.notices.length ≤ 16 ∧ s.packer.queue.length ≤ 8 ∧ s.packer.held ≤ 256
    ∧ s.player.expected.length ≤ 16 ∧ s.player.recent.length ≤ 16

/-- The rail is MOVING or HOMING (R52, R62). -/
abbrev Rail.inMotion (r : Rail) : Prop := r.state = .moving ∨ r.state = .homing

/-- R52, R62: the motor is driven exactly in MOVING and HOMING, and there only while the view of the flight table is
empty. -/
def State.interlocked (s : State) : Prop :=
  (s.rail.driven = true ↔ s.rail.inMotion) ∧ (s.rail.inMotion → s.rail.occupied = false)

/-- R191: the setup has not been taken yet in a full start-up. -/
def Link.beforeSetup (l : Link) : Prop := l.start = .loading true ∨ l.start = .setup

/-- R191, R192: the link is not READY before its start-up is over, the READY notice waits only until the link is READY, and
until a full start-up has taken its setup no hammer is in flight, no voice is allocated and the player is IDLE. -/
def State.startsQuietly (s : State) : Prop :=
  (s.link.start ≠ .over → s.link.ready = false ∧ s.link.readyPlace = none)
    ∧ (s.link.ready = true → s.link.readyPlace = none)
    ∧ (s.link.beforeSetup →
        (∀ k ∈ s.scanner.keys, k.flight = none) ∧ (∀ v ∈ s.voices.table, v = none) ∧ s.player.state = .idle)

/-- R19, R21, R62: the Rail Controller's view of the flight table is occupied exactly while some key has a flight record, and
a FAULTED key has none. -/
def State.viewExact (s : State) : Prop :=
  (s.rail.occupied = true ↔ ∃ k ∈ s.scanner.keys, k.flight.isSome = true)
    ∧ ∀ k ∈ s.scanner.keys, k.state = .faulted → k.flight = none

/-- R22: a disabled key has no flight record. -/
def State.disabledStill (s : State) : Prop := ∀ k ∈ s.scanner.keys, k.cal.enabled = false → k.flight = none

/-- R74, R75: 80 entries, a limit of 8 to 64, at most that many counted voices, and at most one of each source and key. -/
def State.voicesLawful (s : State) : Prop :=
  s.voices.table.length = 80 ∧ 8 ≤ s.voices.limit ∧ s.voices.limit ≤ 64 ∧ s.voices.counted ≤ s.voices.limit
    ∧ ∀ src key,
        (s.voices.table.countP fun x => x.any fun w => w.counted && w.source == src && w.key == key) ≤ 1

/-- The blocks of every take, in directory order. -/
def Store.takenBlocks (st : Store) : List Nat := st.takes.flatMap fun x => x.elim [] (·.blocks)

/-- R31, R34, R36: the live pedal context holds what the pedals last reported, SOSTENUTO is in SWITCH mode, the live sostenuto
set is empty while the sostenuto is UP, and before the setup the context is clear. -/
def State.contextReported (s : State) : Prop :=
  s.pedals.context.damper = s.pedals.damper.last ∧ s.pedals.context.soft = s.pedals.soft.last
    ∧ s.pedals.sostenuto.mode = .switch
    ∧ s.pedals.sostenuto.last = (if s.pedals.context.sostenuto then 127 else 0)
    ∧ (s.pedals.context.sostenuto = false → s.pedals.context.set = [])
    ∧ (s.link.beforeSetup → s.pedals.context = PedalContext.clear)

/-- R116, R117, R123, R124: the silence flag stands exactly while a silence condition holds, the silence until READY among them
(the model's form, log 56), and while it stands the output is silent and no ramp runs. -/
def State.silenceExact (s : State) : Prop :=
  s.mixer.silenceFlag = s.silenceCondition
    ∧ (s.mixer.silenceFlag = true → s.mixer.silentOut = true ∧ s.mixer.ramp = .none)

/-- R125, R126: the directory has 32 entries, every one of the 2048 blocks is in the pool or in exactly one take, and the
pool is in ascending order. -/
def State.blocksPartitioned (s : State) : Prop :=
  s.store.takes.length = 32 ∧ (s.store.pool ++ s.store.takenBlocks).Perm (List.range 2048)
    ∧ s.store.pool.Pairwise (· < ·)

/-! ### Settings -/

/-- A pedal has the same settings in both (R29, R30). -/
def PedalUnit.sameSettings (a b : PedalUnit) : Prop :=
  a.restRaw = b.restRaw ∧ a.fullRaw = b.fullRaw ∧ a.mode = b.mode ∧ a.deadBand = b.deadBand

/-- The settings that requests give the blocks are the same in both states (R7, R17, R29, R30, R49, R56, R89, R114, R121,
R159, R177). -/
def State.sameSettings (a b : State) : Prop :=
  (a.scanner.thr = b.scanner.thr ∧ a.scanner.hammerCurve = b.scanner.hammerCurve ∧ a.scanner.keyCurve = b.scanner.keyCurve)
    ∧ (∀ p, (a.pedals.unit p).sameSettings (b.pedals.unit p))
    ∧ (a.router.monitor = b.router.monitor ∧ a.router.split = b.router.split ∧ a.router.streaming = b.router.streaming)
    ∧ a.rail.config = b.rail.config ∧ (a.voices.limit = b.voices.limit ∧ a.voices.priority = b.voices.priority)
    ∧ (a.mixer.settings = b.mixer.settings ∧ a.mixer.width = b.mixer.width ∧ a.mixer.plugDetect = b.mixer.plugDetect
        ∧ a.mixer.muteMode = b.mixer.muteMode)
    ∧ (a.packer.enabled = b.packer.enabled ∧ a.packer.mode = b.packer.mode ∧ a.packer.perPacket = b.packer.perPacket
        ∧ a.packer.hold = b.packer.hold)
    ∧ a.player.window = b.player.window ∧ a.player.timeout = b.player.timeout

end Sys2Proof.Machine
end

