-- ==== Sys2Proof/Certificates/Slice0/Obligations.lean ====
section
/-! DEFINITION. The statements for the provers: what the rules of the spec say the commands of the Mabrow 880 do.

A request is stated on a state that offers a frame (`State.offers`), and its answer is written with `State.answering`; an event
is stated with the arbiter's choice after it (`State.arbitrate`, stated by itself in `TransmitOrder`). Time up to the
command is `State.upTo`, stated in `TimeMovesOnlyTheClockAndTheTimers`. Every equation says the whole next state, so it is its
own frame. -/

section Statements

open Sys2Proof Sys2Proof.Machine

/-! ### The step -/

/-- A step with a command at the front of the queue is that command's effect with the queue's rest. -/
def Obligations.StepRunsTheFrontCommand : Prop :=
  ∀ (s : State) (c : Instr) (cs : List Instr), s.pending = c :: cs → step s = exec c { s with pending := cs }

/-- A step on an empty queue lets one microsecond pass (the model's choice, log 2). -/
def Claims.EmptyQueueLetsAMicrosecondPass : Prop :=
  ∀ s : State, s.pending = [] → step s = .next (s.upTo (s.clock + 1))

/-- What time does by itself: the part clock and the running timers move, driven time grows while the motor is driven, and
nothing else changes (the model's choice of time as an operand, log 1; R57 for driven time). Any time that passes ends the
moment of a STALL or TIMEOUT (log 18). -/
def Claims.TimeMovesOnlyTheClockAndTheTimers : Prop :=
  ∀ (s : State) (t : Time),
    s.upTo t =
      let dt := (t - s.clock).toNat
      { s with
        clock := t
        scanner := { s.scanner with settle := s.scanner.settle.map (· - dt) }
        rail := { s.rail with
          motion := if s.rail.drive = .forward ∨ s.rail.drive = .reverse then
              s.rail.motion.map fun m => { m with driven := m.driven + dt }
            else s.rail.motion
          faultNow := s.rail.faultNow && dt == 0 }
        mixer := { s.mixer with plugTimer := s.mixer.plugTimer.map (· - dt) }
        recorder := { s.recorder with left := s.recorder.left - dt }
        packer := { s.packer with timer := s.packer.timer.map (· - dt) }
        player := { s.player with
          tickLeft := s.player.tickLeft.map (· - dt)
          cueLeft := s.player.cueLeft - dt
          waitTimer := s.player.waitTimer.map (· - dt)
          waitSpent := if s.player.state = .waiting then s.player.waitSpent + dt else s.player.waitSpent } }

/-- A step on an empty queue lets one microsecond pass, and time alone moves only the clock and the timers and ends a fault's
moment (the model's choices, logs 1, 2 and 18). -/
def Obligations.TimePassesAndMovesOnlyTheClockAndTheTimers : Prop :=
  Claims.EmptyQueueLetsAMicrosecondPass ∧ Claims.TimeMovesOnlyTheClockAndTheTimers

/-- Every command answers a next state: none faults and none is refused by the model. -/
def Claims.EveryCommandHasANextState : Prop :=
  ∀ (c : Instr) (s : State), ∃ s', exec c s = .next s'

/-- No command touches the queue of commands, the sound memory, which the part only reads, or the table of the kinds the part
knows (log 36). -/
def Claims.NoCommandTouchesTheQueueOrTheSoundMemory : Prop :=
  ∀ (c : Instr) (s s' : State), exec c s = .next s' →
    s'.pending = s.pending ∧ s'.soundMem = s.soundMem ∧ s'.kinds = s.kinds

/-- Every command answers a next state (R186: a refused request is answered and the part goes on), and none touches the queue
of commands or the sound memory, which the part only reads. -/
def Obligations.EveryCommandAnswersANextState : Prop :=
  Claims.EveryCommandHasANextState ∧ Claims.NoCommandTouchesTheQueueOrTheSoundMemory

/-! ### The link (11) -/

/-- R185: while no request can be taken, a request command changes nothing but the time. -/
def Claims.RequestsWaitUntilTheyCanBeTaken : Prop :=
  ∀ (c : Instr) (t : Time) (s : State), requestTime c = some t → s.takesNothing → exec c s = .next (s.upTo t)

/-- R185: a frame that fails one of the link's four checks leaves the queue, is answered with the first check it fails, and
changes nothing else. Which kinds the part knows, and the lengths they allow, is the table of kinds, a free value (log 36),
but for the lengths the spec gives (`Request.fixedLength`); the command's operand decides nothing. -/
def Claims.TurnedAwayFramesAreAnsweredWithTheirFirstFailure : Prop :=
  ∀ (s : State) (t : Time) (known : Bool) (f : Frame) (rest : List Frame), s.takesHead f rest →
    let answer (x : Status) : Prop := exec (.unknownKind t known) s = .next ((s.upTo t).answering f rest x .nothing)
    (f.cls.toNat % 16 ≠ 1 → answer .unknownKind)
      ∧ (f.cls.toNat % 16 = 1 → f.tag = 0 → answer .badTag)
      ∧ (f.cls.toNat % 16 = 1 → f.tag ≠ 0 → (∀ row ∈ s.kinds, row.code ≠ f.kind) → answer .unknownKind)
      ∧ ∀ row, f.cls.toNat % 16 = 1 → f.tag ≠ 0 → s.kinds.find? (·.code == f.kind) = some row →
          (f.payload.length ∉ row.lengths → answer .badLength)
            ∧ ∀ n, s.kindsLawful → row.request.fixedLength = some n → f.payload.length ≠ n → answer .badLength

/-- R183, R185: a frame that fails a check is no request for a block. One that passes them goes to the request its kind names: a
command of another request does not take it, and it is not turned away (logs 5, 36). -/
def Claims.FramesAreTakenByTheirChecks : Prop :=
  ∀ (s : State) (t : Time) (known : Bool) (f : Frame) (rest : List Frame), s.takesHead f rest →
    let passes (q : Request) : Prop := f.cls.toNat % 16 = 1 ∧ f.tag ≠ 0 ∧ s.knowsKind q f
    ((∀ q, ¬passes q) → ∀ c, requestTime c = some t → exec c s = .next (s.upTo t))
      ∧ ∀ q, passes q →
          (∀ c q', requestIn c = some (q', t) → q' ≠ q → exec c s = .next (s.upTo t))
            ∧ exec (.unknownKind t known) s = .next (s.upTo t).arbitrate

/-- R185: requests wait while none can be taken; a frame that fails the link's checks is answered with its first failure (the
convention of request commands is log 5's, the table of kinds log 36's). -/
def Obligations.RequestsWaitOrAreTurnedAway : Prop :=
  Claims.RequestsWaitUntilTheyCanBeTaken ∧ Claims.TurnedAwayFramesAreAnsweredWithTheirFirstFailure
    ∧ Claims.FramesAreTakenByTheirChecks

/-- R183 to R185: what a received byte does, in HUNT and in FRAME. That RX_FRAME and BYTE_RECEIVED act alike, each as the
arrival of one byte, is DEDUCED (log 27). -/
def Claims.ReceivedBytesAreFramed : Prop :=
  ∀ (s : State) (t : Time) (b : RxByte) (c : Instr), c = .byteReceived t b ∨ c = .rxFrame t b →
    let u := s.upTo t
    let with1 (x : Option (List Byte)) (last : Time) : State := { u with link := { u.link with rxFrame := x, rxLast := last } }
    match s.link.rxFrame with
    | none =>
      exec c s = .next (State.arbitrate
        (if b.stopOk = true ∧ b.value = 0xC3 then with1 (some [0xC3]) t else u))
    | some bs =>
      let all := bs ++ [b.value]
      let body := (all.drop 1).take (all.length - 3)
      let crcOk := all.drop (all.length - 2) = [((crc16 body) >>> 8).setWidth 8, (crc16 body).setWidth 8]
      exec c s = .next (State.arbitrate
        (if b.stopOk = false then (with1 none u.link.rxLast).tally .linkCrc
         else if all.length = 2 ∧ 240 < (all.getD 1 0).toNat then (with1 none t).tally .linkCrc
         else if 2 ≤ all.length ∧ all.length = (all.getD 1 0).toNat + 7 then
           if crcOk then
             if s.link.requests.length < 4 then
               { u with link := { u.link with
                 rxFrame := none, rxLast := t
                 requests := u.link.requests ++
                   [{ cls := all.getD 2 0, kind := all.getD 3 0, tag := all.getD 4 0,
                      payload := (all.drop 5).take (all.length - 7) }] } }
             else (with1 none t).tally .linkOverrun
           else (with1 none t).tally .linkCrc
         else with1 (some all) t))

/-- R184: a gap of more than 2 ms in FRAME discards the frame and counts LINK_TRUNCATED; a shorter one, or a gap in HUNT,
is not due and does nothing (log 3). -/
def Claims.ReceiveGapTruncatesTheFrame : Prop :=
  ∀ (s : State) (t : Time),
    exec (.rxGapTimeout t) s = .next (State.arbitrate
      (if s.link.rxFrame ≠ none ∧ 2000 < (t - s.link.rxLast).toNat then
        ({ s.upTo t with link := { s.link with rxFrame := none } } : State).tally .linkTruncated
       else s.upTo t))

/-- R183 to R185: what received bytes do in HUNT and in FRAME, and what a gap does (logs 3, 27). -/
def Obligations.ReceivedBytesAndGapsAreFramed : Prop :=
  Claims.ReceivedBytesAreFramed ∧ Claims.ReceiveGapTruncatesTheFrame

/-- R183, R184: the bytes of any frame, received one after another in HUNT with room in the queue, put that frame at the
tail of the request queue and count nothing. -/
def Claims.FrameBytesArriveAsTheirFrame : Prop :=
  ∀ (cls kind tag : Byte) (payload : List Byte) (s : State),
    payload.length ≤ 240 → s.link.rxFrame = none → s.link.requests.length < 4 →
    let s' := (frameBytes cls kind tag payload).foldl (fun x b => x.receive { value := b, stopOk := true }) s
    s'.link.requests = s.link.requests ++ [({ cls, kind, tag, payload } : Frame)] ∧ s'.link.rxFrame = none ∧ s'.stats = s.stats

/-- R183: a frame the part sends is its start byte, its length, class, kind and tag, its payload, and the CRC of all but the
start byte, high byte first; a reply has its request's kind and tag and the continues flag on every part but the last, a
notice and a stream frame have tag 0. The kind codes of notices and stream frames are free values (log 6). -/
def Claims.SentFramesHaveTheirFields : Prop :=
  (∀ x : TxFrame,
      let p := x.payload
      let body := BitVec.ofNat 8 p.length :: x.cls :: x.kind :: x.tag :: p
      x.bytes = ([0xC3] : List Byte) ++ body ++ [((crc16 body) >>> 8).setWidth 8, (crc16 body).setWidth 8]
        ∧ x.bytes.length = p.length + 7)
    ∧ (∀ (r : Reply) (i n : Nat), (TxFrame.reply r i n).kind = r.kind ∧ (TxFrame.reply r i n).tag = r.tag
        ∧ (TxFrame.reply r i n).cls = if i + 1 < n then 0x82 else 0x02)
    ∧ (∀ n : Notice, (TxFrame.notice n).cls = 0x03 ∧ (TxFrame.notice n).tag = 0 ∧ (TxFrame.notice n).payload.length ≤ 240)
    ∧ (∀ n : ReadyNotice, (TxFrame.ready n).cls = 0x03 ∧ (TxFrame.ready n).tag = 0 ∧ (TxFrame.ready n).payload.length ≤ 240)
    ∧ ∀ (gap : Nat) (es : List LiveEvent), (TxFrame.stream gap es).cls = 0x04 ∧ (TxFrame.stream gap es).tag = 0
        ∧ (TxFrame.stream gap es).payload =
            [BitVec.ofNat 8 es.length, BitVec.ofNat 8 gap, BitVec.ofNat 8 (gap / 256)] ++ es.flatMap LiveEvent.bytes
        ∧ (TxFrame.stream gap es).payload.length = 3 + 8 * es.length

/-- R186: a reply is one frame when its payload is at most 240 bytes, and else is cut into parts of at most 239 content bytes,
each behind the status byte, which in order make up the content; content of 956 bytes takes four frames at most, and so do
the replies of SCAN_QUERY and VOICE_READ, the only ones whose layout is not bounded by the spec's words (log 6). -/
def Claims.RepliesAreCutIntoParts : Prop :=
  (∀ (r : Reply),
      let n := r.content.parts
      let part (i : Nat) : List Byte := (TxFrame.reply r i n).payload
      (n = 1 ↔ r.content.bytes.length + 1 ≤ 240)
        ∧ (∀ i, part i = r.status.code :: (part i).drop 1 ∧ (part i).length ≤ 240)
        ∧ (List.range n).flatMap (fun i => (part i).drop 1) = r.content.bytes
        ∧ (r.content.bytes.length ≤ 956 → n ≤ 4))
    ∧ (∀ r, (Content.scan r).parts ≤ 4) ∧ (∀ rs, (Content.voiceRecords rs).parts ≤ 4)
    ∧ (∀ r : ScanReport, r.flights.length = 88 → 352 ≤ (Content.scan r).bytes.length)
    ∧ (∀ ts free x, ts.length = 32 → (Content.takeList ts free x).bytes.length = 232
        ∧ (Content.takeList ts free x).parts = 1)

/-- R183, R184, R186: frames received and frames sent. -/
def Obligations.FrameBytesArriveAsTheirFrame : Prop :=
  Claims.FrameBytesArriveAsTheirFrame ∧ Claims.SentFramesHaveTheirFields ∧ Claims.RepliesAreCutIntoParts

/-- R188: the frame in progress has left the line, no RESTART being taken: the arbiter begins READY when it waits, and the
silence flag follows (R117); else, while READY, the reply's next frame, else the oldest notice, else the packet at the head of
the packet queue (the packer then settles its open packet, see `PacketsBecomeReadyAndJoinTheQueue`); else nothing. That an
UNHOMED rail with auto-home set is due to home from that moment is the model's form of R192 (DEDUCED, log 20). -/
def Claims.TransmitOrder : Prop :=
  ∀ (s : State) (t : Time), s.link.restart = .none →
    let u := s.upTo t
    exec (.txFrameDone t) s = .next
      (match s.link.readyPlace with
       | some n =>
         ({ u with
           link := { s.link with tx := some (.ready n), readyPlace := none, ready := true }
           rail := { u.rail with
             autoHomeDue := decide (s.rail.state = .unhomed) && s.rail.config.autoHome } } : State).followSilence
       | none =>
         if s.link.ready = false then { u with link := { s.link with tx := none } }
         else
           match s.link.reply, s.link.notices, s.packer.queue with
           | some p, _, _ =>
             { u with link := { s.link with
               tx := some (.reply p.reply p.begun p.parts)
               reply := if p.parts ≤ p.begun + 1 then none else some { p with begun := p.begun + 1 } } }
           | none, n :: ns, _ => { u with link := { s.link with tx := some (.notice n), notices := ns } }
           | none, [], es :: q =>
             { u with
               link := { s.link with tx := some (.stream s.packer.gap es) }
               packer := ({ u.packer with queue := q, gap := 0 } : Packer).settle }
           | none, [], [] => { u with link := { s.link with tx := none } })

/-- R157, R158: the open packet is ready when it holds an event and has its maximum, or no hold time in PACKED, or the enable is
DISABLED; a ready packet joins the queue while it has a place, and the next one is formed from the backlog. -/
def Claims.PacketsBecomeReadyAndJoinTheQueue : Prop :=
  ∀ p : Packer,
    let most := if p.mode = .single then 1 else p.perPacket
    let ripe := p.openPacket ≠ [] ∧
      (most ≤ p.openPacket.length ∨ (p.mode = .packed ∧ p.hold = 0) ∨ p.enabled = false)
    let moved := p.backlog.take most
    let next : Packer := { p with
      queue := p.queue ++ [p.openPacket], openPacket := moved, backlog := p.backlog.drop most, ready := false
      timer := if moved = [] ∨ p.mode = .single ∨ p.hold = 0 then none else some (p.hold * 1000) }
    (p.ready = false → ¬ripe → p.settle = p)
      ∧ (p.ready = true → 8 ≤ p.queue.length → p.settle = p)
      ∧ (p.ready = false → ripe → 8 ≤ p.queue.length → p.settle = { p with ready := true, timer := none })
      ∧ (p.ready = true ∨ ripe → p.queue.length < 8 →
          (moved = [] ∨ moved.length < most ∧ ¬(p.mode = .packed ∧ p.hold = 0) ∧ p.enabled = true) → p.settle = next)
      ∧ (p.ready = true ∨ ripe → p.queue.length < 8 → p.settle = next.settle)

/-- R187: a notice joins the tail of the notice queue, or is discarded with NOTICES_LOST when 16 are queued. -/
def Claims.NoticesQueueUpToSixteen : Prop :=
  ∀ (s : State) (n : Notice),
    s.notify n =
      if s.link.notices.length < 16 then { s with link := { s.link with notices := s.link.notices ++ [n] } }
      else s.tally .noticesLost

/-- R157, R158, R187, R188, R192: the arbiter's choice when the line falls free, the packets it takes from, and the notice queue
(log 20 for auto-home). -/
def Obligations.NoticesQueueAndFramesAreSentInOrder : Prop :=
  Claims.TransmitOrder ∧ Claims.PacketsBecomeReadyAndJoinTheQueue ∧ Claims.NoticesQueueUpToSixteen

/-- R190: counting adds one to its counter, which rolls over from 16,777,215 to 0, and to no other; the 27 counters stand in
the order of the rule. -/
def Claims.CountingTouchesOneCounter : Prop :=
  (∀ (s : State) (c : Counter), s.stats.length = 27 → (s.tally c).stat c = s.stat c + 1)
    ∧ (∀ (s : State) (c c' : Counter), c' ≠ c → (s.tally c).stat c' = s.stat c')
    ∧ (((List.finRange 8).map Counter.band) ++
        ([.keyOnlyStrikes, .repetitions, .silentPresses, .keyFaults, .pedalFaults, .railMoves, .railFaults, .voiceSteals,
         .notesDropped, .fetchUnderruns, .mixerClips, .waitHits, .waitMisses, .waitWrong, .streamDrops, .linkCrc,
         .linkTruncated, .linkOverrun, .noticesLost] : List Counter)).map Counter.place = List.range 27

/-- R190: STATS_READ replies with every counter, and with the clear flag sets every counter to 0 after copying it; a flag
other than 0 or 1 is refused. -/
def Claims.StatsReadCopiesThenClears : Prop :=
  ∀ (s : State) (t : Time) (clear : Nat) (f : Frame) (rest : List Frame), s.offers .statsRead f rest →
    exec (.statsRead t clear) s = .next
      (if clear = 0 then (s.upTo t).answering f rest .ok (.stats s.stats)
       else if clear = 1 then ({ s.upTo t with stats := List.replicate 27 0 } : State).answering f rest .ok (.stats s.stats)
       else (s.upTo t).answering f rest .badArgument .nothing)

/-- R190: the statistics counters and STATS_READ. -/
def Obligations.CountersCountAndStatsReadClearsThem : Prop :=
  Claims.CountingTouchesOneCounter ∧ Claims.StatsReadCopiesThenClears

/-- The queries are answered OK with the state as it stands when the request is taken, and change nothing but the link: every
field of R25, R38, R50, R71, R91, R108, R122, R137, R155, R159, R180 and R189. PEDAL_QUERY's pedals carry their last good raw
sample too (DEDUCED, log 50), the revision is a free value (log 38), and the write position 0 and the reserve 0 that REC_QUERY
gives in IDLE are the model's choice (log 55). -/
def Claims.QueriesReportAndChangeNothing : Prop :=
  ∀ (s : State) (t : Time) (f : Frame) (rest : List Frame),
    let dt := (t - s.clock).toNat
    let left (x : Timer) : Nat := (x.map (· - dt)).getD 0
    let ok (c : Content) : Host.Outcome State Fault Refusal := .next ((s.upTo t).answering f rest .ok c)
    let live := s.router.railState == .silent || s.router.monitor
    let p := s.player
    let driven := s.rail.drive = .forward ∨ s.rail.drive = .reverse
    let muted := match s.mixer.muteMode with | .level => s.pins.mute | .latch => s.mixer.latched
    let voices (q : Voice → Bool) : Nat := s.voices.table.countP fun x => x.any q
    let counted (w : Voice) : Bool := match w.phase with | .fading _ _ _ => false | _ => true
    let phases (src : Source) : PhaseCounts :=
      { starting := voices fun w => w.source == src && w.phase == .starting
        sounding := voices fun w => w.source == src && w.phase == .sounding
        damped := voices fun w => w.source == src && (match w.phase with | .damped _ _ => true | _ => false)
        fading := voices fun w => w.source == src && !counted w }
    let taken (x : Option Nat) : Option Take := x.bind fun id => if id = 0 then none else (s.store.takes[id - 1]?).join
    let held := (s.packer.queue.map List.length).sum + s.packer.openPacket.length + s.packer.backlog.length
    (s.offers .scanQuery f rest → exec (.scanQuery t) s = ok (.scan
        { thr := s.scanner.thr, hammerCurve := s.scanner.hammerCurve, keyCurve := s.scanner.keyCurve
          target := s.scanner.target, settleLeft := left s.scanner.settle, capturing := s.scanner.capturing
          waiting := s.scanner.keys.countP fun k => k.thr != s.scanner.thr
          flights := s.scanner.keys.zipIdx.filterMap fun x => x.1.flight.map fun y => (x.2, y) }))
      ∧ (s.offers .pedalQuery f rest → exec (.pedalQuery t) s =
          ok (.pedals s.pedals.damper s.pedals.sostenuto s.pedals.soft s.pedals.context))
      ∧ (s.offers .routeQuery f rest → exec (.routeQuery t) s = ok (.route
        { monitor := s.router.monitor, split := s.router.split, streaming := s.router.streaming
          railState := s.router.railState, soundGate := live
          recorderGate := s.recorder.state == .armed || s.recorder.state == .recording
          matcherGate := (p.state == .playing || p.state == .waiting)
            && (p.parts.left == .practice || p.parts.right == .practice || p.parts.noHand == .practice)
          packerGate := s.router.streaming, voiceGate := live }))
      ∧ (s.offers .railQuery f rest → exec (.railQuery t) s = ok (.rail
        { state := s.rail.state, position := s.rail.position, drive := s.rail.drive
          duty := if driven then some s.rail.duty else none, occupied := s.rail.occupied, index := s.pins.index
          acousticSwitch := s.pins.acousticSwitch, silentSwitch := s.pins.silentSwitch
          motion := if driven then s.rail.motion.map fun m => { m with driven := m.driven + dt } else s.rail.motion
          phase := s.rail.phase, lastFault := s.rail.lastFault, config := s.rail.config }))
      ∧ (s.offers .voiceQuery f rest → exec (.voiceQuery t) s = ok (.voices
        { limit := s.voices.limit, priority := s.voices.priority, counter := s.voices.counter, counted := voices counted
          live := phases .live, playback := phases .playback, free := s.voices.table.countP (· == none) }))
      ∧ (s.offers .soundsetQuery f rest → exec (.soundsetQuery t) s = ok (.soundSet
        { status := s.fetch.status, header := s.fetch.header, failure := s.fetch.failure
          primes := s.fetch.queue.countP (·.cls == .prime), refills := s.fetch.queue.countP (·.cls == .refill)
          inFlight := match s.fetch.port with | some (.segment e) => some (e.voice, e.cls, e.segment) | _ => none }))
      ∧ (s.offers .mixQuery f rest → exec (.mixQuery t) s = ok (.mix
        { settings := s.mixer.settings, width := s.mixer.width, plugDetect := s.mixer.plugDetect
          muteMode := s.mixer.muteMode, plug := s.mixer.plug, plugLine := s.pins.plug, plugLeft := left s.mixer.plugTimer
          muteLine := s.pins.mute, latched := s.mixer.latched, muteActive := muted, silent := s.mixer.silentOut
          rampBlock := match s.mixer.ramp with | .settings _ => true | _ => false
          silenceRamp := s.mixer.ramp == .silence }))
      ∧ (s.offers .takeList f rest → exec (.takeList t) s = ok (.takeList
        (s.store.takes.map fun x =>
          match x with
          | none => { state := .empty, origin := none, truncated := false, pins := 0, blocks := 0, duration := 0 }
          | some tk =>
            { state := match tk.phase with | .recording => .recording | .loading => .loading | .closed => .closed
              origin := some tk.origin, truncated := tk.truncated
              pins := tk.holders.player.toNat + tk.holders.slotA.toNat + tk.holders.slotB.toNat + tk.holders.download.toNat
              blocks := tk.blocks.length, duration := tk.duration })
        s.store.pool.length s.store.transfer))
      ∧ (s.offers .recQuery f rest → exec (.recQuery t) s = ok (.recorder
        { state := s.recorder.state, take := s.recorder.take, clock := s.recorder.clock, last := s.recorder.last
          writePos := (taken s.recorder.take).elim 0 (·.count)
          reserve := (taken s.recorder.take).elim 0 fun tk => tk.blocks.length - tk.count / 32
          opens := s.recorder.opens }))
      ∧ (s.offers .streamQuery f rest → exec (.streamQuery t) s = ok (.packer
        { enabled := s.packer.enabled, mode := s.packer.mode, perPacket := s.packer.perPacket, hold := s.packer.hold, held
          queued := s.packer.queue.length, openCount := s.packer.openPacket.length, ready := s.packer.ready
          backlog := s.packer.backlog.length, gap := s.packer.gap, timeLeft := left s.packer.timer }))
      ∧ (s.offers .playerQuery f rest → exec (.playerQuery t) s = ok (.player
        { state := p.state, take := p.take, pos := p.pos, clock := p.clock, tickStart := p.tickStart, tempo := p.tempo
          staged := p.staged, halt := p.halt, fromMark := p.fromMark, toMark := p.toMark, repeats := p.repeats
          parts := p.parts, reportMarks := p.reportMarks, mark := p.mark, context := p.context, openNotes := p.openNotes
          waitPending := p.waitPending, expected := p.expected, recent := p.recent, window := p.window
          timeout := p.timeout, waitLeft := left p.waitTimer, hits := p.hits, misses := p.misses, wrong := p.wrong
          slotA := p.slotA.map fun c => (c.take, c.clock), slotB := p.slotB.map fun c => (c.take, c.clock) }))
      ∧ (s.offers .status f rest → exec (.status t) s = ok (.status
        { ready := true, requests := rest.length, notices := s.link.notices.length, rail := s.rail.state
          position := s.rail.position, faultedKeys := s.scanner.keys.countP (·.state == .faulted)
          damperFaulted := s.pedals.damper.faulted, sostenutoFaulted := s.pedals.sostenuto.faulted
          softFaulted := s.pedals.soft.faulted, setStatus := s.fetch.status, counted := voices counted
          limit := s.voices.limit, plug := s.mixer.plug, muteActive := muted, freeBlocks := s.store.pool.length
          transfer := match s.store.transfer with | .none => .none | .upload _ _ _ => .upload | .download _ _ _ => .download
          recorder := s.recorder.state, recTake := s.recorder.take, player := p.state, playTake := p.take
          slotA := p.slotA.isSome, slotB := p.slotB.isSome, streamEvents := held }))
      ∧ (s.offers .identify f rest → exec (.identify t) s = ok (.identity
          { part := "Mabrow 880", revision := Config.revision, keys := 88, voices := 80, limit := 64, zones := 512,
            blocks := 2048, blockBytes := 128, takes := 32, slots := 2, expected := 16, streamEvents := 256, requests := 4,
            notices := 16, payload := 240 }))

/-- The queries that name what they read: answered with every field their rule gives when the name is good, refused otherwise,
changing nothing but the link (R25, R91, R108, R137). That ZONE_READ answers NO_SOUND_SET ahead of BAD_ARGUMENT is DEDUCED
(log 42), that the head of the fetch queue is place 0 is the model's choice (log 52), and so is the reading of the reserve
beyond the write position (log 33). -/
def Claims.NamedQueriesReportOrAreRefused : Prop :=
  ∀ (s : State) (t : Time) (f : Frame) (rest : List Frame) (n m : Nat),
    let answer (x : Status) (c : Content) : Host.Outcome State Fault Refusal := .next ((s.upTo t).answering f rest x c)
    let voice (i : Nat) : VoiceReport :=
      match (s.voices.table[i]?).join with
      | none =>
        { state := .free, source := none, key := none, velocity := none, zone := none, gain := none, released := none
          seq := none, releaseTime := none, attSteps := none, fadeBlocks := none, held := none }
      | some w =>
        let c := match w.source with | .live => s.pedals.context | .playback => s.player.context
        { state := match w.phase with
            | .starting => .starting | .sounding => .sounding | .damped _ _ => .damped | .fading _ _ _ => .fading
          source := some w.source, key := some w.key, velocity := some w.velocity, zone := some w.zone, gain := some w.gain
          released := some w.released, seq := some w.seq
          releaseTime := match w.phase with | .damped r _ => some r | _ => none
          attSteps := match w.phase with | .damped _ a => some (2 * a / attDb) | _ => none
          fadeBlocks := match w.phase with | .fading b _ _ => some b | _ => none
          held := if w.phase = .sounding ∧ w.released = true then some (c.set.contains w.key || 64 ≤ c.damper) else none }
    let half (h : Half) : Fill × Option Nat := (h.fill, if h.fill = .empty then none else some h.segment)
    let b := s.fetch.bufs.getD n StreamBuf.reset
    (∀ k, s.scanner.keys[n]? = some k → n ≤ 87 → s.offers .keyQuery f rest → exec (.keyQuery t n) s = answer .ok (.key
        { state := k.state, hammer := if k.flight = none then .atRest else .inFlight, mode := k.mode, scale := k.scale
          keyDepth := k.keyDepth, hammerDepth := k.hammerDepth, keyFaults := k.keyFaults, hammerFaults := k.hammerFaults
          cal := k.cal, staged := k.staged, adopting := k.thr != s.scanner.thr, flight := k.flight }))
      ∧ (87 < n → s.offers .keyQuery f rest → exec (.keyQuery t n) s = answer .badArgument .nothing)
      ∧ (s.offers .voiceRead f rest → exec (.voiceRead t n m) s =
          (if n ≤ 79 ∧ 1 ≤ m ∧ m ≤ 16 ∧ n + m ≤ 80 then
            answer .ok (.voiceRecords ((List.range m).map fun i => voice (n + i)))
           else answer .badArgument .nothing))
      ∧ (s.offers .zoneRead f rest → exec (.zoneRead t n m) s =
          (if s.fetch.status ≠ .valid then answer .noSoundSet .nothing
           else if 1 ≤ m ∧ m ≤ 8 ∧ n + m ≤ s.fetch.zones.length then answer .ok (.zones ((s.fetch.zones.drop n).take m))
           else answer .badArgument .nothing))
      ∧ (79 < n → s.offers .streamRead f rest → exec (.streamRead t n) s = answer .badArgument .nothing)
      ∧ (n ≤ 79 → s.offers .streamRead f rest → ∃ w, exec (.streamRead t n) s = answer .ok (.stream
            { serves := b.serves, pos := b.pos, a := half b.a, b := half b.b, waiting := w
              inFlight := match s.fetch.port with
                | some (.segment e) => decide (e.voice = n) && decide (b.serves.map (·.seq) = some e.seq)
                | _ => false })
          ∧ ((∀ e ∈ s.fetch.queue, e.voice ≠ n) → w = none)
          ∧ ∀ i e, s.fetch.queue[i]? = some e → e.voice = n →
              (∀ j e', j < i → s.fetch.queue[j]? = some e' → e'.voice ≠ n) → w = some (e.cls, i))
      ∧ (s.offers .takeInfo f rest → exec (.takeInfo t n) s =
          (if n = 0 ∨ 32 < n then answer .badArgument .nothing
           else match (s.store.takes[n - 1]?).join with
             | none => answer .notFound .nothing
             | some tk => answer .ok (.take
               { state := match tk.phase with | .recording => .recording | .loading => .loading | .closed => .closed
                 name := tk.name, origin := tk.origin, truncated := tk.truncated, blocks := tk.blocks.length
                 count := tk.count, duration := tk.duration, marks := tk.marks, holders := tk.holders
                 pins := tk.holders.player.toNat + tk.holders.slotA.toNat + tk.holders.slotB.toNat
                   + tk.holders.download.toNat
                 received := if tk.phase = .loading then
                     match s.store.transfer with | .upload _ next _ => some next | _ => none
                   else none
                 reserveBeyond := if tk.phase = .recording then some (tk.blocks.length - tk.count / 32 - 1) else none })))

/-- The queries: answered with the state as it stands, changing nothing but the link (logs 33, 38, 42, 50, 52; log 55 for the
write position 0 and the reserve 0 that REC_QUERY gives in IDLE). -/
def Obligations.QueriesAnswerWithoutChange : Prop :=
  Claims.QueriesReportAndChangeNothing ∧ Claims.NamedQueriesReportOrAreRefused

/-! ### The rail (04) -/

/-- R66: RAIL_STOP settled by the rail state. -/
def Obligations.RailStopIsSettledByTheRailState : Prop :=
  ∀ (s : State) (t : Time) (f : Frame) (rest : List Frame), s.offers .railStop f rest →
    let u := s.upTo t
    let stopped (st : RailState) : Host.Outcome State Fault Refusal := .next
      ((u.railEnters st .stopped { u.rail with motion := none, phase := none, drive := .brake, duty := 0 }).answering f rest
        .ok .nothing)
    (s.rail.state = .moving → exec (.railStop t) s = stopped .parked)
      ∧ (s.rail.state = .homing → exec (.railStop t) s = stopped .unhomed)
      ∧ (∀ m, s.rail.state = .held → s.rail.motion = some m →
          exec (.railStop t) s = stopped (match m.kind with | .move => .parked | .home => .unhomed))
      ∧ (s.rail.state ≠ .moving → s.rail.state ≠ .homing → s.rail.state ≠ .held →
          exec (.railStop t) s = .next (u.answering f rest .refusedState .nothing))

/-- R58: RAIL_MOVE is refused without change for a bad argument, while the rail is not homed, and in FAULT; and a rail that
rests at the target named changes nothing. -/
def Claims.RailMoveIsRefusedWithoutChange : Prop :=
  ∀ (s : State) (t : Time) (f : Frame) (rest : List Frame) (g : RailTarget) (p : Policy), s.offers .railMove f rest →
    let answer (x : Status) : Host.Outcome State Fault Refusal := .next ((s.upTo t).answering f rest x .nothing)
    (∀ q, exec (.railMove t none q) s = answer .badArgument)
      ∧ (∀ h, exec (.railMove t h none) s = answer .badArgument)
      ∧ (s.rail.state = .unhomed ∨ s.rail.state = .homing → exec (.railMove t (some g) (some p)) s = answer .notHomed)
      ∧ (∀ m, s.rail.state = .held → s.rail.motion = some m → m.kind = .home →
          exec (.railMove t (some g) (some p)) s = answer .notHomed)
      ∧ (s.rail.state = .fault → exec (.railMove t (some g) (some p)) s = answer .faulted)
      ∧ (∀ x, s.rail.state = RailState.ofTarget g → s.rail.position = some x → ¬outsideWindow x (s.rail.config.position g) →
          exec (.railMove t (some g) (some p)) s = answer .ok)

/-- R58, R60: RAIL_MOVE in a resting state sets up a motion: held back while a hammer is in flight, driven toward the target
when the position is outside its window, arriving at once from PARKED inside it. The last encoder change of a motion that goes
straight into HELD is the model's choice (log 49). -/
def Claims.RailMoveSetsUpAMotion : Prop :=
  ∀ (s : State) (t : Time) (f : Frame) (rest : List Frame) (g : RailTarget) (p : Policy) (x : Nat), s.offers .railMove f rest →
    s.rail.state = .acoustic ∨ s.rail.state = .silent ∨ s.rail.state = .parked → s.rail.position = some x →
    let u := s.upTo t
    let goal := s.rail.config.position g
    let m : Motion :=
      { kind := .move, target := some g, targetPos := some goal
        origin := some (match s.rail.state with | .acoustic => .acoustic | .silent => .silent | _ => .parked)
        policy := p, retreating := false, driven := 0, lastChange := t }
    let r := { u.rail with motion := some m, phase := none }
    (s.rail.occupied = true → (s.rail.state = RailState.ofTarget g → outsideWindow x goal) →
        exec (.railMove t (some g) (some p)) s = .next
          ((u.railEnters .held .held { r with drive := .brake, duty := 0 }).answering f rest .ok .nothing))
      ∧ (s.rail.occupied = false → outsideWindow x goal →
        exec (.railMove t (some g) (some p)) s = .next
          ((u.railEnters .moving .commanded
            { r with drive := if x < goal then .forward else .reverse, duty := s.rail.config.moveDuty }).answering
              f rest .ok .nothing))
      ∧ (s.rail.occupied = false → s.rail.state ≠ RailState.ofTarget g → ¬outsideWindow x goal →
        exec (.railMove t (some g) (some p)) s = .next
          ((({ u with rail := r } : State).railArrives g .arrived).answering f rest .ok .nothing))

/-- R59: RAIL_MOVE in MOVING or HELD replaces the motion's target without a change of state or a notice; the origin is kept. -/
def Claims.RailMoveReplacesTheTarget : Prop :=
  ∀ (s : State) (t : Time) (f : Frame) (rest : List Frame) (g : RailTarget) (p : Policy) (x : Nat) (m : Motion),
    s.offers .railMove f rest → s.rail.motion = some m → s.rail.position = some x →
    let u := s.upTo t
    let goal := s.rail.config.position g
    let m' (last : Time) : Motion := { (u.rail.motion.getD m) with
      target := some g, targetPos := some goal, policy := p, retreating := false, driven := 0, lastChange := last }
    (s.rail.state = .moving → outsideWindow x goal →
        exec (.railMove t (some g) (some p)) s = .next (({ u with rail := { u.rail with
          motion := some (m' t), drive := if x < goal then .forward else .reverse
          duty := s.rail.config.moveDuty } } : State).answering f rest .ok .nothing))
      ∧ (s.rail.state = .moving → ¬outsideWindow x goal →
        exec (.railMove t (some g) (some p)) s = .next ((u.railArrives g .arrived).answering f rest .ok .nothing))
      ∧ (s.rail.state = .held → m.kind = .move →
        exec (.railMove t (some g) (some p)) s = .next
          (({ u with rail := { u.rail with motion := some (m' m.lastChange) } } : State).answering f rest .ok .nothing))

/-- R58, R59: RAIL_MOVE settled by the rail state. -/
def Obligations.RailMoveIsSettledByTheRailState : Prop :=
  Claims.RailMoveIsRefusedWithoutChange ∧ Claims.RailMoveSetsUpAMotion ∧ Claims.RailMoveReplacesTheTarget

/-- R64, R72: RAIL_HOME, and auto-home after READY (due by the mark that READY sets: DEDUCED, log 20), begin a homing: a new
HOME motion, the position forgotten, the phase from the ACOUSTIC end switch; HOMING, or HELD while a hammer is in flight. No
notice when that state stood already. The last encoder change in HELD is the model's choice (log 49). -/
def Obligations.HomingBegins : Prop :=
  ∀ (s : State) (t : Time),
    let u := s.upTo t
    let st : RailState := if s.rail.occupied then .held else .homing
    let why : RailReason := if s.rail.occupied then .held else .commanded
    let r : Rail := { u.rail with
      motion := some { kind := .home, target := none, targetPos := none, origin := none, policy := .pause,
                       retreating := false, driven := 0, lastChange := t }
      position := none, autoHomeDue := false
      phase := some (if s.pins.acousticSwitch then .escape else .seek)
      drive := if s.rail.occupied then .brake else if s.pins.acousticSwitch then .forward else .reverse
      duty := if s.rail.occupied then 0 else s.rail.config.homingDuty }
    let home : State := if s.rail.state = st then { u with rail := { r with state := st } } else u.railEnters st why r
    (∀ (f : Frame) (rest : List Frame), s.offers .railHome f rest →
        exec (.railHome t) s = .next (home.answering f rest .ok .nothing))
      ∧ (s.rail.autoHomeDue = true → s.rail.state = .unhomed → exec (.autoHome t) s = .next home.arbitrate)

/-- R56: RAIL_CONFIG: its ranges, then the rail state, then all seven settings together. -/
def Obligations.RailConfigIsSettledByTheRailState : Prop :=
  ∀ (s : State) (t : Time) (f : Frame) (rest : List Frame) (a b d h l w : Nat) (x : Bool), s.offers .railConfig f rest →
    let u := s.upTo t
    let answer (v : State) (y : Status) : Host.Outcome State Fault Refusal := .next (v.answering f rest y .nothing)
    exec (.railConfig t a b d h l w none) s = answer u .badArgument
      ∧ exec (.railConfig t a b d h l w (some x)) s =
        (if ¬(a ≤ 4095 ∧ b ≤ 4095 ∧ 10 ≤ d ∧ d ≤ 100 ∧ 10 ≤ h ∧ h ≤ 100 ∧ 500 ≤ l ∧ l ≤ 10000 ∧ w ≤ 2000 ∧ a + 17 ≤ b) then
           answer u .badArgument
         else if s.rail.state = .moving ∨ s.rail.state = .held ∨ s.rail.state = .homing then answer u .busy
         else answer { u with rail := { u.rail with config :=
           { acoustic := a, silent := b, moveDuty := d, homingDuty := h, travelLimit := l, settle := w, autoHome := x } } } .ok)

/-- R53, R60, R61, R67: a legal encoder change moves a homed position by one within 0 to 4095; in FAULT only at the very
moment of a STALL or a TIMEOUT that was taken first (log 18). While MOVING it sets the last encoder change and the drive, and
inside the window the rail arrives, with RETREATED at the origin of a retreat. In HOMING without a position it sets the last
encoder change alone. -/
def Claims.EncoderStepsMoveThePosition : Prop :=
  ∀ (s : State) (t : Time) (up : Bool),
    let u := s.upTo t
    let driven := s.rail.drive = .forward ∨ s.rail.drive = .reverse
    let stepped (m : Motion) : Motion := { m with driven := m.driven + (t - s.clock).toNat, lastChange := t }
    (∀ m, s.rail.position = none → s.rail.state = .homing → s.rail.motion = some m → driven →
        exec (.encoderChange t (.step up)) s = .next (State.arbitrate { u with rail := { u.rail with
          motion := some (stepped m) } }))
      ∧ ∀ x, s.rail.position = some x →
        let y := if up then min 4095 (x + 1) else x - 1
        (s.rail.state ≠ .fault → s.rail.state ≠ .moving → ¬driven →
            exec (.encoderChange t (.step up)) s = .next (State.arbitrate { u with rail := { u.rail with position := some y } }))
          ∧ (s.rail.state = .fault → s.rail.faultNow = false ∨ t ≠ s.clock → ¬driven →
            exec (.encoderChange t (.step up)) s = .next u.arbitrate)
          ∧ (s.rail.state = .fault → s.rail.faultNow = true → t = s.clock → ¬driven →
            exec (.encoderChange t (.step up)) s = .next (State.arbitrate { u with rail := { u.rail with position := some y } }))
          ∧ ∀ (m : Motion) (g : RailTarget) (goal : Nat), s.rail.state = .moving → s.rail.motion = some m →
              m.targetPos = some goal → driven →
              let arrives (why : RailReason) : Host.Outcome State Fault Refusal := .next (State.arbitrate
                (if ¬outsideWindow y goal then
                   ({ u with rail := { u.rail with position := some y, motion := some (stepped m) } } : State).railArrives g why
                 else { u with rail := { u.rail with
                   position := some y, motion := some (stepped m), drive := if y < goal then .forward else .reverse
                   duty := s.rail.config.moveDuty } }))
              (m.retreating = false → m.target = some g → exec (.encoderChange t (.step up)) s = arrives .arrived)
                ∧ (m.retreating = true → m.origin = some (match g with | .acoustic => .acoustic | .silent => .silent) →
                    exec (.encoderChange t (.step up)) s = arrives .retreated)

/-- R67 to R70: each condition of a rail fault, in a state other than FAULT, faults the rail with its kind.
END_SWITCH_CLOSE is a closing whatever level the switch stood at before (log 46), and the moment of a STALL or a TIMEOUT is marked
(`State.railFaults`; log 18). -/
def Claims.RailFaultConditionsBrakeTheRail : Prop :=
  ∀ (s : State) (t : Time),
    let u := s.upTo t
    let driven := s.rail.drive = .forward ∨ s.rail.drive = .reverse
    let close (sw : EndSwitch) : State :=
      match sw with
      | .acoustic => { u with pins := { u.pins with acousticSwitch := true } }
      | .silent => { u with pins := { u.pins with silentSwitch := true } }
    (s.rail.state ≠ .unhomed → s.rail.state ≠ .fault →
        exec (.encoderChange t .illegal) s = .next (u.railFaults .encoder).arbitrate)
      ∧ (∀ m, s.rail.motion = some m → s.rail.state ≠ .fault → driven → 150000 ≤ (t - m.lastChange).toNat →
        exec (.railStall t) s = .next (u.railFaults .stall).arbitrate)
      ∧ (∀ m, s.rail.motion = some m → s.rail.state ≠ .fault → driven →
        s.rail.config.travelLimit * 1000 < m.driven + (t - s.clock).toNat →
        exec (.railTravelTimeout t) s = .next (u.railFaults .timeout).arbitrate)
      ∧ (∀ m sw x goal, s.rail.motion = some m → s.rail.state = .moving → s.rail.position = some x →
        m.targetPos = some goal → outsideWindow x goal →
        exec (.endSwitchClose t sw) s = .next ((close sw).railFaults .limit).arbitrate)
      ∧ (s.rail.state = .homing → exec (.endSwitchClose t .silent) s = .next ((close .silent).railFaults .limit).arbitrate)
      ∧ (s.rail.state = .homing ∨ s.rail.state = .held → s.rail.phase = some .seek →
        exec (.endSwitchClose t .acoustic) s = .next ((close .acoustic).railFaults .noIndex).arbitrate)

/-- R70: a rail in FAULT takes no new fault: nothing but the levels and the time change. -/
def Claims.AFaultedRailTakesNoNewFault : Prop :=
  ∀ (s : State) (t : Time), s.rail.state = .fault →
    let u := s.upTo t
    exec (.encoderChange t .illegal) s = .next u.arbitrate
      ∧ exec (.railStall t) s = .next u.arbitrate
      ∧ exec (.railTravelTimeout t) s = .next u.arbitrate
      ∧ exec (.endSwitchClose t .acoustic) s =
          .next (State.arbitrate { u with pins := { u.pins with acousticSwitch := true } })
      ∧ exec (.endSwitchClose t .silent) s =
          .next (State.arbitrate { u with pins := { u.pins with silentSwitch := true } })

/-- R67 to R70: rail faults (logs 18, 46). -/
def Obligations.RailFaultsBrakeTheRail : Prop :=
  Claims.RailFaultConditionsBrakeTheRail ∧ Claims.AFaultedRailTakesNoNewFault

/-- R65: homing: in ESCAPE the ACOUSTIC end switch opening turns the drive to SEEK; in SEEK an index edge sets the position to
1024 and goes on as a move to the ACOUSTIC target, or arrives there with reason HOMED. In HELD both act likewise without a
drive: the phase becomes SEEK, and the motion becomes that move, or arrives. An edge command is an edge whatever level stood
before (log 46); the last encoder change is kept (log 19). -/
def Claims.HomingFindsTheIndex : Prop :=
  ∀ (s : State) (t : Time) (m : Motion), s.rail.motion = some m →
    let u := s.upTo t
    let v : State := { u with pins := { u.pins with index := true } }
    let open1 : State := { u with pins := { u.pins with acousticSwitch := false } }
    let goal := s.rail.config.acoustic
    let r : Rail := { u.rail with
      position := some 1024, phase := none
      motion := some { kind := .move, target := some .acoustic, targetPos := some goal, origin := none, policy := .pause,
                       retreating := false, driven := 0, lastChange := m.lastChange } }
    (s.rail.state = .homing → s.rail.phase = some .escape →
        exec (.endSwitchOpen t .acoustic) s = .next (State.arbitrate
          { open1 with rail := { u.rail with phase := some .seek, drive := .reverse } }))
      ∧ (s.rail.state = .held → s.rail.phase = some .escape →
        exec (.endSwitchOpen t .acoustic) s = .next (State.arbitrate { open1 with rail := { u.rail with phase := some .seek } }))
      ∧ (s.rail.state = .homing → s.rail.phase = some .seek → outsideWindow 1024 goal →
        exec (.indexEdge t true) s = .next (v.railEnters .moving .homed
          { r with drive := if 1024 < goal then .forward else .reverse, duty := s.rail.config.moveDuty }).arbitrate)
      ∧ (s.rail.state = .held → s.rail.phase = some .seek → outsideWindow 1024 goal →
        exec (.indexEdge t true) s = .next (State.arbitrate { v with rail := r }))
      ∧ (s.rail.state = .homing ∨ s.rail.state = .held → s.rail.phase = some .seek → ¬outsideWindow 1024 goal →
        exec (.indexEdge t true) s = .next (({ v with rail := r } : State).railArrives .acoustic .homed).arbitrate)

/-- R53, R54, R68: the inputs that have no use where the rail stands. A step without a position moves nothing while the motor
stands still; the index input becoming inactive, an index edge outside the SEEK phase of a HOME motion, an opening of the
SILENT end switch, one of the ACOUSTIC end switch outside ESCAPE, and a closing outside MOVING, HOMING and SEEK, or in MOVING
within 8 counts of the target, set the level of their input alone. -/
def Claims.InputsWithoutAUseSetTheirLevelAlone : Prop :=
  ∀ (s : State) (t : Time),
    let u := s.upTo t
    let driven := s.rail.drive = .forward ∨ s.rail.drive = .reverse
    let homing (p : HomingPhase) : Prop := (s.rail.state = .homing ∨ s.rail.state = .held) ∧ s.rail.phase = some p
    let index (b : Bool) : Host.Outcome State Fault Refusal := .next (State.arbitrate { u with pins := { u.pins with index := b } })
    let level (sw : EndSwitch) (b : Bool) : Host.Outcome State Fault Refusal := .next (State.arbitrate
      (match sw with
       | .acoustic => { u with pins := { u.pins with acousticSwitch := b } }
       | .silent => { u with pins := { u.pins with silentSwitch := b } }))
    (∀ up, s.rail.position = none → s.rail.state ≠ .moving → ¬driven →
        exec (.encoderChange t (.step up)) s = .next u.arbitrate)
      ∧ exec (.indexEdge t false) s = index false
      ∧ (¬homing .seek → exec (.indexEdge t true) s = index true)
      ∧ exec (.endSwitchOpen t .silent) s = level .silent false
      ∧ (¬homing .escape → exec (.endSwitchOpen t .acoustic) s = level .acoustic false)
      ∧ (∀ sw, s.rail.state ≠ .moving → s.rail.state ≠ .homing → s.rail.state ≠ .held →
        exec (.endSwitchClose t sw) s = level sw true)
      ∧ (s.rail.state = .homing ∨ s.rail.state = .held → s.rail.phase ≠ some .seek →
        exec (.endSwitchClose t .acoustic) s = level .acoustic true)
      ∧ (s.rail.state = .held → exec (.endSwitchClose t .silent) s = level .silent true)
      ∧ ∀ sw m x goal, s.rail.state = .moving → s.rail.motion = some m → s.rail.position = some x →
          m.targetPos = some goal → ¬outsideWindow x goal → exec (.endSwitchClose t sw) s = level sw true

/-- R53, R54, R60, R61, R65, R67: encoder steps, the end switches and the index, where they have a use and where they have none
(logs 18, 19, 46). -/
def Obligations.EncoderAndHomingInputsMoveTheRail : Prop :=
  Claims.EncoderStepsMoveThePosition ∧ Claims.HomingFindsTheIndex ∧ Claims.InputsWithoutAUseSetTheirLevelAlone

/-- R62: a report of a flight record added brakes a rail in MOVING or HOMING into HELD, its motion record as it stands, and
otherwise only makes the view occupied. -/
def Claims.AHammerInFlightBrakesTheRail : Prop :=
  ∀ s : State,
    s.flightAdded =
      if s.rail.inMotion then s.railEnters .held .held { s.rail with occupied := true, drive := .brake, duty := 0 }
      else { s with rail := { s.rail with occupied := true } }

/-- R60, R61, R63: when the flight table empties, a HELD rail goes on: a homing in its phase, a move toward its target, and a
RETREAT with a resting origin back to that origin; within 8 counts of where it goes it arrives at once, with RETREATED at
the origin of a retreat. In any other state only the view changes. -/
def Claims.TheRailGoesOnWhenTheTableEmpties : Prop :=
  ∀ s : State,
    (s.rail.state ≠ .held → s.flightEmptied = { s with rail := { s.rail with occupied := false } })
      ∧ ∀ m, s.rail.state = .held → s.rail.motion = some m →
        let r := { s.rail with occupied := false }
        match m.kind with
        | .home => s.flightEmptied = s.railEnters .homing .resumed { r with
            motion := some { m with lastChange := s.clock }, duty := r.config.homingDuty
            drive := if r.phase = some .escape then .forward else .reverse }
        | .move =>
          let back : Option RailTarget :=
            if m.policy = .retreat ∧ m.retreating = false then
              match m.origin with | some .acoustic => some .acoustic | some .silent => some .silent | _ => none
            else none
          let m' : Motion := match back with
            | some g => { m with target := some g, targetPos := some (r.config.position g), retreating := true, driven := 0 }
            | none => m
          ∀ x goal, s.rail.position = some x → m'.targetPos = some goal →
            (outsideWindow x goal →
              s.flightEmptied = s.railEnters .moving .resumed { r with
                motion := some { m' with lastChange := s.clock }, duty := r.config.moveDuty
                drive := if x < goal then .forward else .reverse })
            ∧ ∀ g, ¬outsideWindow x goal →
                let arrives (why : RailReason) : Prop :=
                  s.flightEmptied = ({ s with rail := { r with motion := some m' } } : State).railArrives g why
                (m'.retreating = false → m'.target = some g → arrives .arrived)
                  ∧ (m'.retreating = true → m'.origin = some (match g with | .acoustic => .acoustic | .silent => .silent) →
                      arrives .retreated)

/-- R60 to R63: the rail and the flight table. -/
def Obligations.HammersInFlightHoldTheRail : Prop :=
  Claims.AHammerInFlightBrakesTheRail ∧ Claims.TheRailGoesOnWhenTheTableEmpties

/-! ### Sensing and pedals (01, 02) -/

/-- R2, R5, R22: CAL_SET of a good record: staged for a key that is not at REST; in force at once, the staged slot emptied,
for a key at REST that stays enabled or becomes so, its depths recomputed from the last good samples with the new record (a
sensor without one keeps its depth: the model's choice, log 43). A key that becomes enabled has no last good samples. -/
def Claims.CalSetIsAppliedOrStaged : Prop :=
  ∀ (s : State) (t : Time) (f : Frame) (rest : List Frame) (i : Nat) (k : Key) (c : CalRecord), s.offers .calSet f rest →
    i ≤ 87 → s.scanner.keys[i]? = some k → calOk c = true →
    let u := s.upTo t
    let put (k' : Key) (x : Status) : Host.Outcome State Fault Refusal := .next
      (({ u with scanner := { u.scanner with keys := s.scanner.keys.set i k' } } : State).answering f rest x .nothing)
    let new : Key := { k with
      cal := c, staged := none
      keyDepth := match k.keyGood with | some g => depthOf c.keyRest c.keyBottom g.raw | none => k.keyDepth
      hammerDepth := match k.hammerGood with
        | some g => depthOf c.hammerRest (hammerTopOf c k.scale) g.raw | none => k.hammerDepth }
    (k.state ≠ .rest → exec (.calSet t i c) s = put { k with staged := some c } .staged)
      ∧ (k.state = .rest → k.cal.enabled = true → c.enabled = true → exec (.calSet t i c) s = put new .applied)
      ∧ (k.state = .rest → k.cal.enabled = false → c.enabled = true →
          exec (.calSet t i c) s = put { new with keyGood := none, hammerGood := none } .applied)

/-- R4: the checks of a calibration record, as the table gives them, and a record or a key index that fails them is refused
without change. -/
def Claims.CalSetChecksTheRecord : Prop :=
  (∀ c : CalRecord, calOk c = true ↔
      c.keyRest ≤ 4095 ∧ c.keyBottom ≤ 4095 ∧ c.hammerRest ≤ 4095 ∧ c.hammerTop ≤ 4095
        ∧ c.keyRest ≠ c.keyBottom ∧ c.hammerRest ≠ c.hammerTop ∧ -16 ≤ c.trim ∧ c.trim ≤ 15
        ∧ ∀ x, c.hammerStopped = some x →
            x ≤ 4095 ∧ (c.hammerRest < c.hammerTop ∧ c.hammerRest < x ∨ c.hammerTop < c.hammerRest ∧ x < c.hammerRest))
    ∧ ∀ (s : State) (t : Time) (f : Frame) (rest : List Frame) (i : Nat) (c : CalRecord), s.offers .calSet f rest →
        87 < i ∨ calOk c = false →
        exec (.calSet t i c) s = .next ((s.upTo t).answering f rest .badArgument .nothing)

/-- R22: a record with the enabled flag clear, taken for a key at REST, leaves it without samples and counts and removes its
flight record, if it has one; when that empties the flight table, the Rail Controller is told. The depths a disabled key
shows are those the record gives, or the old ones (the model's choice, logs 12, 43). -/
def Claims.DisablingAKeyEndsItsFlight : Prop :=
  ∀ (s : State) (t : Time) (f : Frame) (rest : List Frame) (i : Nat) (k : Key) (c : CalRecord), s.offers .calSet f rest →
    i ≤ 87 → s.scanner.keys[i]? = some k → calOk c = true → c.enabled = false → k.state = .rest →
    let u := s.upTo t
    let off : Key := { k with
      cal := c, staged := none, aTimeKey := none, aTimeHammer := none, returns := 0, flight := none, keyGood := none
      hammerGood := none, keyFaults := 0, hammerFaults := 0
      keyDepth := match k.keyGood with | some g => depthOf c.keyRest c.keyBottom g.raw | none => k.keyDepth
      hammerDepth := match k.hammerGood with
        | some g => depthOf c.hammerRest (hammerTopOf c k.scale) g.raw | none => k.hammerDepth }
    let v : State := { u with scanner := { u.scanner with keys := s.scanner.keys.set i off } }
    exec (.calSet t i c) s = .next
      ((if k.flight.isSome = true ∧ (∀ x ∈ s.scanner.keys.set i off, x.flight = none) then v.flightEmptied else v).answering
        f rest .applied .nothing)

/-- R2, R4, R5, R22: CAL_SET (logs 12, 43). -/
def Obligations.CalSetIsSettledByTheKey : Prop :=
  Claims.CalSetIsAppliedOrStaged ∧ Claims.CalSetChecksTheRecord ∧ Claims.DisablingAKeyEndsItsFlight

/-- R7: THRESH_SET: the orderings, then the set is current at once and in force for every key at REST; the reply carries the
number of keys that have not adopted it. -/
def Claims.ThreshSetIsAdoptedAtRest : Prop :=
  ∀ (s : State) (t : Time) (f : Frame) (rest : List Frame) (x : Thresholds), s.offers .threshSet f rest →
    let u := s.upTo t
    let ok := 0 < x.rest ∧ x.rest < x.start ∧ x.start < x.damper ∧ x.damper < x.rearm ∧ x.rearm ≤ x.kA ∧ x.kA < x.kB
      ∧ x.kB ≤ 1000 ∧ x.hRest < x.freeA ∧ x.freeA < x.freeB ∧ x.freeB ≤ 1000 ∧ x.hRest < x.stoppedA
      ∧ x.stoppedA < x.stoppedB ∧ x.stoppedB ≤ 1000
    let keys := s.scanner.keys.map fun k => if k.state = .rest then { k with thr := x } else k
    (¬ok → exec (.threshSet t x) s = .next (u.answering f rest .badArgument .nothing))
      ∧ (ok → exec (.threshSet t x) s = .next (({ u with scanner := { u.scanner with thr := x, keys } } : State).answering
          f rest .ok (.count (keys.countP fun k => k.thr != x))))

/-- R17: CURVE_SET replaces the named curve, or is refused without change. -/
def Claims.CurveSetReplacesTheCurve : Prop :=
  ∀ (s : State) (t : Time) (f : Frame) (rest : List Frame) (ps : List CurvePoint), s.offers .curveSet f rest →
    let u := s.upTo t
    let answer (v : State) (x : Status) : Host.Outcome State Fault Refusal := .next (v.answering f rest x .nothing)
    let ok := (∀ p ∈ ps, 1 ≤ p.time ∧ p.time ≤ 1000000 ∧ 1 ≤ p.velocity ∧ p.velocity ≤ 127)
      ∧ (ps.map (·.time)).Pairwise (· < ·)
    exec (.curveSet t none ps) s = answer u .badArgument
      ∧ (¬ok → ∀ c, exec (.curveSet t c ps) s = answer u .badArgument)
      ∧ (ok → exec (.curveSet t (some .hammer) ps) s = answer { u with scanner := { u.scanner with hammerCurve := ps } } .ok
          ∧ exec (.curveSet t (some .keyOnly) ps) s = answer { u with scanner := { u.scanner with keyCurve := ps } } .ok)

/-- R7, R17: THRESH_SET and CURVE_SET. -/
def Obligations.ThresholdsAndCurvesAreSet : Prop :=
  Claims.ThreshSetIsAdoptedAtRest ∧ Claims.CurveSetReplacesTheCurve

/-- R21, R37: FAULT_CLEAR returns a FAULTED key to REST or ends a pedal's fault; otherwise it is refused without change. The
depths a cleared key shows are the model's choice (log 12), and so are the depth (log 48) and, in LEVEL mode, the switch state
(log 47) of a cleared pedal. -/
def Claims.FaultClearEndsAFault : Prop :=
  ∀ (s : State) (t : Time) (f : Frame) (rest : List Frame), s.offers .faultClear f rest →
    let u := s.upTo t
    let answer (v : State) (x : Status) : Host.Outcome State Fault Refusal := .next (v.answering f rest x .nothing)
    (∀ i k, i ≤ 87 → s.scanner.keys[i]? = some k →
        let k' : Key := { k with
          state := .rest, aTimeKey := none, aTimeHammer := none, returns := 0, flight := none, keyGood := none
          hammerGood := none, keyDepth := 0, hammerDepth := 0, keyFaults := 0, hammerFaults := 0 }
        exec (.faultClear t (.key i)) s =
          if k.state = .faulted then
            answer { u with scanner := { u.scanner with keys := s.scanner.keys.set i k' } } .ok
          else answer u .refusedState)
      ∧ (∀ i, 87 < i → exec (.faultClear t (.key i)) s = answer u .badArgument)
      ∧ exec (.faultClear t .other) s = answer u .badArgument
      ∧ ∀ p,
        let x : PedalUnit := { s.pedals.unit p with faulted := false, faults := 0, good := none }
        exec (.faultClear t (.pedal p)) s =
          if (s.pedals.unit p).faulted = true then answer { u with pedals := s.pedals.setUnit p x } .ok
          else answer u .refusedState

/-- R2, R5, R23, R24: a capture begins with an empty record for each key; CAPTURE_CANCEL discards the records. CAPTURE_END ends
the capture; a key whose excursions are at least 1200 and 800 gets a record of its captured raws, the other fields kept, the
stopped top only where R4 allows it: applied at REST, staged elsewhere; the reply counts the keys updated, applied and
staged. (A disabled key has no flight record: see `StepsKeepDisabledKeysStill`. Depths: log 43.) -/
def Claims.CapturesBeginAndEnd : Prop :=
  ∀ (s : State) (t : Time) (f : Frame) (rest : List Frame),
    let u := s.upTo t
    let answer (v : State) (x : Status) (c : Content) : Host.Outcome State Fault Refusal := .next (v.answering f rest x c)
    let with1 (on : Bool) (keys : List Key) : State := { u with scanner := { u.scanner with capturing := on, keys } }
    let gap (a b : Nat) : Nat := (a - b) + (b - a)
    let record (k : Key) : Option CalRecord :=
      match k.capture with
      | some { keyStart := some ks, keyFar := some kf, hammerStart := some hs, hammerFar := some hf } =>
        if 1200 ≤ gap ks kf ∧ 800 ≤ gap hs hf then
          some { k.cal with
            keyRest := ks, keyBottom := kf, hammerRest := hs, hammerTop := hf
            hammerStopped := k.cal.hammerStopped.filter fun x =>
              decide (hs < hf ∧ hs < x) || decide (hf < hs ∧ x < hs) }
        else none
      | _ => none
    let applied (k : Key) (c : CalRecord) : Key :=
      let new : Key := { k with
        cal := c, staged := none, capture := none
        keyDepth := match k.keyGood with | some g => depthOf c.keyRest c.keyBottom g.raw | none => k.keyDepth
        hammerDepth := match k.hammerGood with
          | some g => depthOf c.hammerRest (hammerTopOf c k.scale) g.raw | none => k.hammerDepth }
      if k.cal.enabled then new
      else { new with
        aTimeKey := none, aTimeHammer := none, returns := 0, flight := none, keyGood := none, hammerGood := none
        keyFaults := 0, hammerFaults := 0 }
    let ended (k : Key) : Key :=
      match record k with
      | none => { k with capture := none }
      | some c => if k.state = .rest then applied k c else { k with staged := some c, capture := none }
    let number (p : Key → Bool) : Nat := s.scanner.keys.countP fun k => (record k).isSome && p k
    (s.scanner.capturing = true → s.offers .captureBegin f rest → exec (.captureBegin t) s = answer u .busy .nothing)
      ∧ (s.scanner.capturing = false → s.offers .captureBegin f rest → exec (.captureBegin t) s =
          answer (with1 true (s.scanner.keys.map fun k => { k with
          capture := some { keyStart := none, keyFar := none, hammerStart := none, hammerFar := none } })) .ok .nothing)
      ∧ (s.scanner.capturing = true → s.offers .captureCancel f rest → exec (.captureCancel t) s =
          answer (with1 false (s.scanner.keys.map fun k => { k with capture := none })) .ok .nothing)
      ∧ (s.scanner.capturing = false → s.offers .captureCancel f rest →
          exec (.captureCancel t) s = answer u .refusedState .nothing)
      ∧ (s.scanner.capturing = false → s.offers .captureEnd f rest →
          exec (.captureEnd t) s = answer u .refusedState .nothing)
      ∧ (s.scanner.capturing = true → s.disabledStill → s.offers .captureEnd f rest →
          exec (.captureEnd t) s = answer (with1 false (s.scanner.keys.map ended)) .ok
            (.captureCounts (number fun _ => true) (number (·.state == .rest)) (number (·.state != .rest))))

/-- R23: a capture record with one more sample of a sensor: a fault sample changes nothing, the first good one is the starting
raw, and a later one is the farthest when it lies farther from it (of two equally far the earlier stays: the model's choice,
log 45). -/
def Claims.CapturesKeepTheFarthestRaw : Prop :=
  ∀ (raw a b : Nat) (x y : Option Nat),
    let gap (p q : Nat) : Nat := (p - q) + (q - p)
    let good := 16 ≤ raw ∧ raw ≤ 4079
    (¬good → captureRaw x y raw = (x, y))
      ∧ (good → captureRaw none none raw = (some raw, some raw))
      ∧ (good → captureRaw (some a) (some b) raw = (some a, some (if gap a b < gap a raw then raw else b)))

/-- R21, R23, R24, R37: FAULT_CLEAR and the captures (logs 12, 43, 45, 47, 48). -/
def Obligations.FaultsAreClearedAndCapturesRun : Prop :=
  Claims.FaultClearEndsAFault ∧ Claims.CapturesBeginAndEnd ∧ Claims.CapturesKeepTheFarthestRaw

/-- R1, R2, R6: after a scan frame that gives an enabled, working key good samples, the key keeps them as its last good ones,
stands at their depths under the record then in force, and has no fault counts. -/
def Claims.GoodSamplesSetTheDepths : Prop :=
  ∀ (s : State) (t : Time) (ks hs : List Nat) (p : PedalRaws) (i : Nat) (k : Key) (x y : Nat),
    s.link.start ≠ .loading true → s.link.start ≠ .setup → i ≤ 87 → s.scanner.keys[i]? = some k → k.state ≠ .faulted →
    ks[i]? = some x → hs[i]? = some y → 16 ≤ x → x ≤ 4079 → 16 ≤ y → y ≤ 4079 →
    let c := if k.state = .rest then k.staged.getD k.cal else k.cal
    c.enabled = true →
    ∃ s' k', exec (.scanFrame t ks hs p) s = .next s' ∧ s'.scanner.keys[i]? = some k' ∧ k'.cal = c
      ∧ k'.keyGood = some { raw := x, time := t } ∧ k'.hammerGood = some { raw := y, time := t }
      ∧ k'.keyDepth = depthOf c.keyRest c.keyBottom x
      ∧ k'.hammerDepth = depthOf c.hammerRest (hammerTopOf c k'.scale) y
      ∧ k'.keyFaults = 0 ∧ k'.hammerFaults = 0

/-- R2: a depth is the linear map of the raw value, clamped to 0 to 1000 and rounded down, in either direction of travel. -/
def Claims.DepthsAreLinearClampedAndRoundedDown : Prop :=
  ∀ (rest full raw : Nat),
    let clamp (n : Int) : Nat := (min 1000 (max 0 n)).toNat
    (rest < full → depthOf rest full raw = clamp (((raw : Int) - rest) * 1000 / ((full : Int) - rest)))
      ∧ (full < rest → depthOf rest full raw = clamp (((rest : Int) - raw) * 1000 / ((rest : Int) - full)))

/-- R20, R21: in the frame in which a sensor's fault count reaches 8, the key becomes FAULTED, without stroke times and
without a flight record (log 11). -/
def Claims.EightFaultSamplesFaultTheKey : Prop :=
  ∀ (s : State) (t : Time) (ks hs : List Nat) (p : PedalRaws) (i : Nat) (k : Key) (x : Nat),
    s.link.start ≠ .loading true → s.link.start ≠ .setup → i ≤ 87 → s.scanner.keys[i]? = some k → k.state ≠ .faulted →
    k.state ≠ .rest → k.cal.enabled = true → k.keyFaults = 7 → ks[i]? = some x → x < 16 ∨ 4079 < x →
    ∃ s' k', exec (.scanFrame t ks hs p) s = .next s' ∧ s'.scanner.keys[i]? = some k' ∧ k'.state = .faulted
      ∧ k'.aTimeKey = none ∧ k'.aTimeHammer = none ∧ k'.flight = none

/-- R1, R10, R33, R191: a scan frame takes the 88 keys in ascending order and then DAMPER, SOSTENUTO and SOFT (log 9): each
key's frame is computed on the key alone, and what it asks of the rest of the part is then done in its order. Before the setup
is taken nothing is scanned. -/
def Claims.AScanFrameTakesTheKeysThenThePedals : Prop :=
  ∀ (s : State) (t : Time) (ks hs : List Nat) (p : PedalRaws),
    let u := s.upTo t
    let one (v : State) (i : Nat) : State :=
      match v.scanner.keys[i]? with
      | none => v
      | some k =>
        let x : FrameSet := { now := v.clock, index := i, thr := v.scanner.thr, hammerCurve := v.scanner.hammerCurve
                              keyCurve := v.scanner.keyCurve, target := v.scanner.target, capturing := v.scanner.capturing }
        let r := k.frame x (ks.getD i 0) (hs.getD i 0)
        r.2.foldl (State.perform v.clock) { v with scanner := { v.scanner with keys := v.scanner.keys.set i r.1 } }
    (s.link.start = .loading true ∨ s.link.start = .setup → exec (.scanFrame t ks hs p) s = .next u.arbitrate)
      ∧ (s.link.start ≠ .loading true → s.link.start ≠ .setup →
          exec (.scanFrame t ks hs p) s = .next (State.arbitrate
            (((((List.range 88).foldl one u).scanPedal .damper p.damper).scanPedal .sostenuto p.sostenuto).scanPedal
              .soft p.soft)))

/-- R10, R15, R19, R20: what a key asks for: a record added to the flight table is reported to the Rail Controller, a record
removed only when the table is then empty; an event goes to the router with the frame time; counters count, and a notice is
sent. -/
def Claims.WhatAKeyAsksForIsDone : Prop :=
  ∀ (s : State) (t : Time),
    s.perform t .flightAdded = s.flightAdded
      ∧ ((∀ k ∈ s.scanner.keys, k.flight = none) → s.perform t .flightRemoved = s.flightEmptied)
      ∧ ((∃ k ∈ s.scanner.keys, k.flight ≠ none) → s.perform t .flightRemoved = s)
      ∧ (∀ b, s.perform t (.event b) = s.route b t) ∧ (∀ c, s.perform t (.count c) = s.tally c)
      ∧ ∀ n, s.perform t (.notice n) = s.notify n

/-- R5, R6, R21 to R23: the beginning of a key's frame: its capture record takes the samples while a capture runs; a key at REST
adopts its staged record, its depths recomputed with it (log 43), the threshold set, and the target mode with its hammer
scale. A FAULTED key then does nothing more; a disabled one stays at REST without strokes, samples and counts, its
depths as they were (log 12), and a flight record goes; any other is sensed. -/
def Claims.KeysAdoptAtRest : Prop :=
  ∀ (x : FrameSet) (kr hr : Nat) (k : Key),
    let k1 : Key := { k with
      capture := if x.capturing = true then
          k.capture.map fun c =>
            { keyStart := (captureRaw c.keyStart c.keyFar kr).1, keyFar := (captureRaw c.keyStart c.keyFar kr).2
              hammerStart := (captureRaw c.hammerStart c.hammerFar hr).1
              hammerFar := (captureRaw c.hammerStart c.hammerFar hr).2 }
        else k.capture }
    let settled : Key := match k.staged with
      | none => k1
      | some c => { k1 with
          cal := c, staged := none
          keyDepth := match k.keyGood with | some g => depthOf c.keyRest c.keyBottom g.raw | none => k.keyDepth
          hammerDepth := match k.hammerGood with
            | some g => depthOf c.hammerRest (hammerTopOf c k.scale) g.raw | none => k.hammerDepth }
    let k2 : Key := if k.state = .rest then
        { settled with thr := x.thr, mode := x.target
                       scale := match x.target with | .stopped => .stopped | .free | .keyOnly => .free }
      else k1
    (k.state = .faulted → k.frame x kr hr = (k1, []))
      ∧ (k.state ≠ .faulted → k2.cal.enabled = false →
          k.frame x kr hr = ({ k2 with
              state := .rest, aTimeKey := none, aTimeHammer := none, returns := 0, flight := none, keyGood := none
              hammerGood := none, keyFaults := 0, hammerFaults := 0 },
            if k.flight = none then [] else [.flightRemoved]))
      ∧ (k.state ≠ .faulted → k2.cal.enabled = true → k.frame x kr hr = k2.sense x kr hr)

/-- R1 to R3, R9, R10, R20: an enabled key's samples: a fault sample adds one to its sensor's count and a good one clears it.
A count of 8 faults the key, after its NOTE_OFF when it was DOWN or LIFTING, the end of its flight, KEY_FAULT and its count,
and does nothing else in its frame (log 11). Otherwise the depths are those of the good samples under the record in force, and
the key moves, is demoted (R9), takes its transitions and keeps its good samples. -/
def Claims.KeysAreSensed : Prop :=
  ∀ (x : FrameSet) (kr hr : Nat) (k : Key),
    let bad (raw : Nat) : Prop := raw < 16 ∨ 4079 < raw
    let n := if bad kr then k.keyFaults + 1 else 0
    let m := if bad hr then k.hammerFaults + 1 else 0
    let counted : Key := { k with keyFaults := n, hammerFaults := m }
    let km : Motion1 :=
      { prev := match k.keyGood with | some g => depthOf k.cal.keyRest k.cal.keyBottom g.raw | none => 0
        prevTime := k.keyGood.map (·.time)
        cur := if bad kr then none else some (depthOf k.cal.keyRest k.cal.keyBottom kr) }
    let top := hammerTopOf k.cal k.scale
    let hm : Motion1 :=
      { prev := match k.hammerGood with | some g => depthOf k.cal.hammerRest top g.raw | none => 0
        prevTime := k.hammerGood.map (·.time)
        cur := if bad hr then none else some (depthOf k.cal.hammerRest top hr) }
    let moved := counted.moves x km hm
    let demoted : Key :=
      if (moved.1.state = .down ∨ moved.1.state = .released) ∧ moved.1.mode ≠ x.target then { moved.1 with mode := .keyOnly }
      else moved.1
    let chained := demoted.chain x km hm 8 []
    (8 ≤ n ∨ 8 ≤ m → k.sense x kr hr =
        ({ counted with state := .faulted, aTimeKey := none, aTimeHammer := none, returns := 0, flight := none },
          (if k.state = .down ∨ k.state = .lifting then [.event (.noteOff x.index k.quality)] else [])
            ++ (if k.flight = none then [] else [.flightRemoved])
            ++ [.notice (.keyFault x.index (if 8 ≤ n then some kr else none) (if 8 ≤ m then some hr else none)),
                .count .keyFaults]))
      ∧ (n < 8 → m < 8 → k.sense x kr hr =
          ({ chained.1 with
              keyGood := if bad kr then chained.1.keyGood else some { raw := kr, time := x.now }
              hammerGood := if bad hr then chained.1.hammerGood else some { raw := hr, time := x.now } },
            moved.2 ++ chained.2))

/-- R28, R31 to R33, R36, R37: a pedal in a scan frame: a faulted one does nothing; a fault sample counts, and the eighth faults
the pedal (level 0, its switch state UP but for a LEVEL pedal's, which is the model's choice, log 47), gives its event of 0,
sends PEDAL_FAULT and counts. A good sample sets the depth; in LEVEL mode the level is reported when it has moved by the dead
band, or newly stands at 0 or 127; in SWITCH mode the switch goes DOWN at 600 and UP below 400, and a change is reported. -/
def Claims.PedalsAreSampled : Prop :=
  ∀ (s : State) (p : Pedal) (raw : Nat),
    let u := s.pedals.unit p
    let bad := raw < 16 ∨ 4079 < raw
    let put (x : PedalUnit) : State := { s with pedals := s.pedals.setUnit p x }
    let d := depthOf u.restRaw u.fullRaw raw
    let good : PedalUnit := { u with faults := 0, good := some raw, depth := d }
    let l := d * 127 / 1000
    let report := u.deadBand ≤ (l - u.last) + (u.last - l) ∨ ((l = 0 ∨ l = 127) ∧ l ≠ u.last)
    let down : Bool := if u.switchDown = true then decide (400 ≤ d) else decide (600 ≤ d)
    let value := if down = true then 127 else 0
    (u.faulted = true → s.scanPedal p raw = s)
      ∧ (u.faulted = false → bad → u.faults < 7 → s.scanPedal p raw = put { u with faults := u.faults + 1 })
      ∧ (u.faulted = false → bad → 7 ≤ u.faults → s.scanPedal p raw =
          (((put { u with
              faults := u.faults + 1, last := 0, faulted := true
              switchDown := if u.mode = .switch then false else u.switchDown }).pedalEvent p 0).notify
            (.pedalFault p raw)).tally .pedalFaults)
      ∧ (u.faulted = false → ¬bad → u.mode = .level →
          (report → s.scanPedal p raw = (put { good with last := l }).pedalEvent p l)
            ∧ (¬report → s.scanPedal p raw = put good))
      ∧ (u.faulted = false → ¬bad → u.mode = .switch →
          (value ≠ u.last → s.scanPedal p raw = (put { good with switchDown := down, last := value }).pedalEvent p value)
            ∧ (value = u.last → s.scanPedal p raw = put { good with switchDown := down }))

/-- R33 to R35: a pedal event changes its field of the live pedal context, and then goes to the router with the frame time. A
SOSTENUTO event of 127 takes hold of the keys then DOWN or LIFTING, any other empties the set. -/
def Claims.PedalEventsChangeTheContext : Prop :=
  ∀ (s : State) (l : Nat),
    let c := s.pedals.context
    let held := s.scanner.keys.zipIdx.filterMap fun x => if x.1.state = .down ∨ x.1.state = .lifting then some x.2 else none
    let gives (p : Pedal) (c' : PedalContext) : Prop :=
      s.pedalEvent p l = ({ s with pedals := { s.pedals with context := c' } } : State).route (.pedal p l) s.clock
    gives .damper { c with damper := l } ∧ gives .soft { c with soft := l }
      ∧ gives .sostenuto (if l = 127 then { c with sostenuto := true, set := held } else { c with sostenuto := false, set := [] })

/-- R1 to R3, R5, R6, R9, R10, R20 to R23, R28, R31 to R37: what a scan frame makes of a key and of a pedal (logs 9, 11, 12, 43,
44, 47). -/
def Obligations.ScanFramesSenseTheKeys : Prop :=
  Claims.GoodSamplesSetTheDepths ∧ Claims.DepthsAreLinearClampedAndRoundedDown ∧ Claims.EightFaultSamplesFaultTheKey
    ∧ Claims.AScanFrameTakesTheKeysThenThePedals ∧ Claims.WhatAKeyAsksForIsDone ∧ Claims.KeysAdoptAtRest
    ∧ Claims.KeysAreSensed ∧ Claims.PedalsAreSampled ∧ Claims.PedalEventsChangeTheContext

/-- R12, R15, R16: a key in PRESSING under FREE timing whose hammer crosses FREE H_B upward while an H_A time is present, and
whose key stays at or above T_rearm, strikes: DOWN, both stroke times removed, the flight marked, one NOTE_ON with the
velocity of its travel time, and its band counted. -/
def Claims.AStrikeIsRecognisedAtHB : Prop :=
  ∀ (x : FrameSet) (km hm : Motion1) (k : Key) (a d : Nat) (ta : Time),
    k.state = .pressing → k.mode = .free → x.target = .free → k.aTimeHammer = some ta →
    km.cur = some d → k.thr.rest ≤ d → k.thr.rearm ≤ d → k.thr.damper ≤ d →
    hm.cur = some a → hm.prev < k.thr.freeB → k.thr.freeB ≤ a →
    let v := trimmed (curveVelocity x.hammerCurve (hm.crossTime k.thr.freeB x.now - ta).toNat) k.cal.trim
    (k.chain x km hm 8 []) =
      ({ k with state := .down, aTimeKey := none, aTimeHammer := none, quality := .hammer
                flight := k.flight.map fun f => { f with struck := true } },
       [.event (.noteOn x.index v false .hammer), .count (bandOf v)])

/-- R3: a threshold is crossed upward when the previous depth lies below it and the new one at or above it, downward the other
way; a depth held by a fault sample crosses nothing. The crossing time lies on the line between the two samples, rounded to
the nearest microsecond, halves up; without a last good sample it is the frame time. -/
def Claims.CrossingsAreInterpolated : Prop :=
  ∀ (m : Motion1) (th : Nat) (now : Time),
    (m.rises th = true ↔ ∃ c, m.cur = some c ∧ m.prev < th ∧ th ≤ c)
      ∧ (m.falls th = true ↔ ∃ c, m.cur = some c ∧ th ≤ m.prev ∧ c < th)
      ∧ (m.prevTime = none → m.crossTime th now = now)
      ∧ ∀ t0 c, m.prevTime = some t0 → m.cur = some c → m.prev < th → th ≤ c →
          let span := (now - t0).toNat
          m.crossTime th now =
            t0 + BitVec.ofNat 32 ((2 * (span * (th - m.prev)) + (c - m.prev)) / (2 * (c - m.prev)))

/-- R3, R10, R18, R19: a key's depths, stroke times and hammer state after its samples: a stroke time is set by an upward
crossing of its threshold and removed by a downward one. A hammer at or above H_rest leaves rest, with a record of the
crossing time (where H_rest was not crossed in that frame, a free value: log 13), the peak and the struck flag clear; in
flight it keeps its peak, and the fourth frame below H_rest in a row ends the flight. A fault sample leaves the hammer state
as it was. -/
def Claims.HammersLeaveAndReturn : Prop :=
  ∀ (x : FrameSet) (km hm : Motion1) (k : Key),
    let stroke (m : Motion1) (th : Nat) (old : Option Time) : Option Time :=
      if m.rises th = true then some (m.crossTime th x.now) else if m.falls th = true then none else old
    let shown (m : Motion1) (held : Nat) : Nat :=
      match m.cur with | some c => c | none => if m.prevTime = none then held else m.prev
    let k' : Key := { k with
      keyDepth := shown km k.keyDepth, hammerDepth := shown hm k.hammerDepth, aTimeKey := stroke km k.thr.kA k.aTimeKey
      aTimeHammer := stroke hm (match k.scale with | .free => k.thr.freeA | .stopped => k.thr.stoppedA) k.aTimeHammer }
    (hm.cur = none → k.moves x km hm = (k', []))
      ∧ ∀ d, hm.cur = some d →
        (k.flight = none → d < k.thr.hRest → k.moves x km hm = (k', []))
          ∧ (k.flight = none → k.thr.hRest ≤ d → k.moves x km hm =
              ({ k' with
                  returns := 0
                  flight := some
                    { leftRest := if hm.prev < k.thr.hRest then hm.crossTime k.thr.hRest x.now
                        else Config.leftRestTime x.index x.now
                      peak := d, struck := false } }, [.flightAdded]))
          ∧ ∀ f, k.flight = some f →
            let f' : Flight := { f with peak := max f.peak d }
            (k.thr.hRest ≤ d → k.moves x km hm = ({ k' with flight := some f', returns := 0 }, []))
              ∧ (d < k.thr.hRest → k.returns < 3 →
                  k.moves x km hm = ({ k' with flight := some f', returns := k.returns + 1 }, []))
              ∧ (d < k.thr.hRest → 3 ≤ k.returns →
                  k.moves x km hm = ({ k' with flight := none, returns := 4 }, [.flightRemoved]))

/-- R12, R13: a strike is timed by the active mode: FREE and STOPPED from the H_A time to the upward crossing of that mode's
H_B, KEY_ONLY from the K_A time to that of K_B, modulo the wrap of the part clock; without the A time there is none. -/
def Claims.StrikesAreTimedByTheActiveMode : Prop :=
  ∀ (x : FrameSet) (km hm : Motion1) (k : Key),
    let timed (m : Motion1) (b : Nat) (a : Option Time) (q : Quality) : Option (Nat × Quality) :=
      match a with
      | some ta => if m.rises b = true then some ((m.crossTime b x.now - ta).toNat, q) else none
      | none => none
    k.strikeNow x km hm =
      match k.mode with
      | .free => timed hm k.thr.freeB k.aTimeHammer .hammer
      | .stopped => timed hm k.thr.stoppedB k.aTimeHammer .hammer
      | .keyOnly => timed km k.thr.kB k.aTimeKey .keyOnly

/-- R9 to R11, R13, R14: a frame without a strike. Under thresholds in their order (R7) a key at depth `d` takes the transitions
its state calls for, several in one frame where they follow each other: press, silent press, lift, release with one NOTE_OFF,
the return to REST and the new press; a key DOWN or RELEASED whose mode is not the target's becomes KEY_ONLY. -/
def Claims.KeysTakeTheirTransitions : Prop :=
  ∀ (x : FrameSet) (km hm : Motion1) (k : Key), k.strikeNow x km hm = none →
    (km.cur = none → k.chain x km hm 8 [] = (k, []))
      ∧ (k.state = .faulted → k.chain x km hm 8 [] = (k, []))
      ∧ ∀ d, km.cur = some d → k.thr.rest < k.thr.start → k.thr.start < k.thr.damper → k.thr.damper < k.thr.rearm →
        let stays : Prop := k.chain x km hm 8 [] = (k, [])
        let goes (st : KeyState) (acts : List KeyAct) : Prop := k.chain x km hm 8 [] = ({ k with state := st }, acts)
        let ends (st : KeyState) : Prop := k.chain x km hm 8 [] =
          ({ k with state := st, mode := if k.mode = x.target then k.mode else .keyOnly },
            [.event (.noteOff x.index k.quality)])
        (k.state = .rest → d < k.thr.start → stays)
          ∧ (k.state = .rest → k.thr.start ≤ d → goes .pressing [])
          ∧ (k.state = .pressing → k.thr.rest ≤ d → stays)
          ∧ (k.state = .pressing → d < k.thr.rest → goes .rest [.count .silentPresses])
          ∧ (k.state = .down → k.thr.rearm ≤ d → stays)
          ∧ (k.state = .down → d < k.thr.rearm → k.thr.damper ≤ d → goes .lifting [])
          ∧ (k.state = .lifting → k.thr.damper ≤ d → stays)
          ∧ (k.state = .down ∨ k.state = .lifting → d < k.thr.damper → k.thr.rest ≤ d → ends .released)
          ∧ (k.state = .down ∨ k.state = .lifting → d < k.thr.rest → ends .rest)
          ∧ (k.state = .released → k.thr.rest ≤ d → d < k.thr.damper → stays)
          ∧ (k.state = .released → d < k.thr.rest → goes .rest [])
          ∧ (k.state = .released → k.thr.damper ≤ d → goes .pressing [])

/-- R9, R12, R13, R15: a strike of a key in PRESSING, or that comes to PRESSING in the frame, and a repetition strike of a key
in LIFTING: DOWN, both stroke times removed, the quality kept, the flight marked, NOTE_ON with its repeat flag and velocity,
and the counts. A key above T_rearm stays DOWN; one below goes on to LIFTING, and below T_damper to RELEASED with its
NOTE_OFF. A key struck in a frame whose key depth lies below T_rest is the model's choice (log 10). -/
def Claims.StrikesSoundTheirKey : Prop :=
  ∀ (x : FrameSet) (km hm : Motion1) (k : Key) (travel : Nat) (q : Quality), k.strikeNow x km hm = some (travel, q) →
    k.thr.rest < k.thr.start → k.thr.start < k.thr.damper → k.thr.damper < k.thr.rearm →
    let v := trimmed (curveVelocity (match q with | .hammer => x.hammerCurve | .keyOnly => x.keyCurve) travel) k.cal.trim
    let struck (st : KeyState) : Key := { k with
      state := st, aTimeKey := none, aTimeHammer := none, quality := q
      mode := if k.mode = x.target then k.mode else .keyOnly
      flight := k.flight.map fun f => { f with struck := true } }
    let sounds (again : Bool) : List KeyAct :=
      [.event (.noteOn x.index v again q), .count (match q with | .keyOnly => .keyOnlyStrikes | .hammer => bandOf v)]
        ++ (if again = true then [.count .repetitions] else [])
    let off : List KeyAct := [.event (.noteOff x.index q)]
    let pressed := k.state = .pressing ∨ (k.state = .rest ∧ ∃ d, km.cur = some d ∧ k.thr.start ≤ d)
      ∨ (k.state = .released ∧ ∃ d, km.cur = some d ∧ k.thr.damper ≤ d)
    let gives (again : Bool) (st : KeyState) (more : List KeyAct) : Prop :=
      k.chain x km hm 8 [] = (struck st, sounds again ++ more)
    ((∀ d, km.cur = some d → k.thr.rearm ≤ d) → (pressed → gives false .down []) ∧ (k.state = .lifting → gives true .down []))
      ∧ (∀ d, km.cur = some d → k.thr.damper ≤ d → d < k.thr.rearm →
          (pressed → gives false .lifting []) ∧ (k.state = .lifting → gives true .lifting []))
      ∧ (∀ d, km.cur = some d → k.thr.rest ≤ d → d < k.thr.damper →
          (pressed → gives false .released off) ∧ (k.state = .lifting → gives true .released off))
      ∧ (∀ d, km.cur = some d → d < k.thr.rest →
          (k.state = .pressing → k.chain x km hm 8 [] = ({ k with state := .rest }, [.count .silentPresses]))
            ∧ (k.state = .lifting → gives true .rest off))

/-- R15: the velocity bands: 1 to 16, 17 to 32, and so on to 113 to 127. -/
def Claims.StrikesCountTheirBand : Prop :=
  ∀ v, 1 ≤ v → v ≤ 127 → ∃ i : Fin 8, bandOf v = .band i ∧ 16 * i.val < v ∧ v ≤ 16 * i.val + 16

/-- R16: a travel time below the first point's gives 127, above the last point's gives 1, at a point's its velocity, and between
two points the velocity on the line between them, rounded to the nearest whole number, halves up; the trim is added and the
result clamped to 1 to 127. -/
def Claims.VelocityFollowsTheCurve : Prop :=
  ∀ (ps : List CurvePoint) (t : Nat), (ps.map (·.time)).Pairwise (· < ·) → ps ≠ [] →
    ((∀ p ∈ ps, t < p.time) → curveVelocity ps t = 127)
      ∧ ((∀ p ∈ ps, p.time < t) → curveVelocity ps t = 1)
      ∧ (∀ p ∈ ps, t = p.time → curveVelocity ps t = p.velocity)
      ∧ (∀ l p q r, ps = l ++ p :: q :: r → p.time < t → t < q.time →
          curveVelocity ps t =
            (2 * (p.velocity * (q.time - t) + q.velocity * (t - p.time)) + (q.time - p.time)) / (2 * (q.time - p.time)))
      ∧ ∀ (v : Nat) (trim : Int), (trimmed v trim : Int) = min 127 (max 1 ((v : Int) + trim))

/-- R3, R9 to R16, R18, R19: crossings, stroke times, hammer flights, transitions, strikes and velocities (logs 10, 13). -/
def Obligations.StrikesAndTheirVelocities : Prop :=
  Claims.AStrikeIsRecognisedAtHB ∧ Claims.CrossingsAreInterpolated ∧ Claims.HammersLeaveAndReturn
    ∧ Claims.StrikesAreTimedByTheActiveMode ∧ Claims.KeysTakeTheirTransitions ∧ Claims.StrikesSoundTheirKey
    ∧ Claims.StrikesCountTheirBand ∧ Claims.VelocityFollowsTheCurve

/-- R8: the settle timer expires: the target mode becomes FREE in ACOUSTIC and STOPPED in SILENT. -/
def Obligations.TheSettleTimerGivesTheRailsMode : Prop :=
  ∀ (s : State) (t : Time) (n : Nat), s.scanner.settle = some n → n ≤ (t - s.clock).toNat →
    let u := s.upTo t
    let v (m : Mode) : State := { u with scanner := { u.scanner with target := m, settle := none } }
    (s.rail.state = .acoustic → exec (.settleTimer t) s = .next (v .free).arbitrate)
      ∧ (s.rail.state = .silent → exec (.settleTimer t) s = .next (v .stopped).arbitrate)

/-- R29, R30: PEDAL_CAL and PEDAL_MODE take their checked values; a change from LEVEL to SWITCH sets the switch state from the
last reported level; the last reported level never changes. -/
def Obligations.PedalSettingsAreTaken : Prop :=
  ∀ (s : State) (t : Time) (f : Frame) (rest : List Frame) (p : Pedal) (a b : Nat) (m : PedalMode),
    let u := s.upTo t
    let old := s.pedals.unit p
    let set : PedalUnit := { old with
      mode := m, deadBand := a
      switchDown := if old.mode = .level ∧ m = .switch then decide (64 ≤ old.last) else old.switchDown }
    let answer (v : State) (x : Status) : Host.Outcome State Fault Refusal := .next (v.answering f rest x .nothing)
    (s.offers .pedalCal f rest → exec (.pedalCal t (some p) a b) s =
        (if a ≤ 4095 ∧ b ≤ 4095 ∧ a ≠ b then
          answer { u with pedals := s.pedals.setUnit p ({ old with restRaw := a, fullRaw := b } : PedalUnit) } .ok
         else answer u .badArgument))
      ∧ (s.offers .pedalCal f rest → exec (.pedalCal t none a b) s = answer u .badArgument)
      ∧ (s.offers .pedalMode f rest → exec (.pedalMode t (some p) (some m) a) s =
        (if (p = .sostenuto ∧ m = .level) ∨ a = 0 ∨ 16 < a then answer u .badArgument
         else answer { u with pedals := s.pedals.setUnit p set } .ok))
      ∧ (∀ q, s.offers .pedalMode f rest → exec (.pedalMode t none q a) s = answer u .badArgument)
      ∧ (∀ q, s.offers .pedalMode f rest → exec (.pedalMode t q none a) s = answer u .badArgument)

/-! ### Routing and streaming (03, 09) -/

/-- R49, R159: ROUTE_SET sets its three settings together, a change of the streaming enable passing to the Stream Packer,
which settles its open packet under it (`TheEnableSettlesTheOpenPacket`, `PacketsBecomeReadyAndJoinTheQueue`); a value out of
range is refused without change. -/
def Claims.RouteSetTakesThreeSettings : Prop :=
  ∀ (s : State) (t : Time) (f : Frame) (rest : List Frame) (m : Bool) (n : Nat) (x : Bool), s.offers .routeSet f rest →
    let u := s.upTo t
    let answer (v : State) (y : Status) : Host.Outcome State Fault Refusal := .next (v.answering f rest y .nothing)
    exec (.routeSet t (some m) n (some x)) s =
        (if 88 < n then answer u .badArgument
         else answer { u with
           router := { s.router with monitor := m, split := n, streaming := x }
           packer := if s.router.streaming = x ∨ s.packer.enabled = x then u.packer
             else ({ u.packer with enabled := x } : Packer).settle } .ok)
      ∧ (∀ y, exec (.routeSet t none n y) s = answer u .badArgument)
      ∧ (∀ y, exec (.routeSet t y n none) s = answer u .badArgument)

/-- R42, R45 to R48: the hand of an event, and the gates of the four consumers. -/
def Claims.GatesFollowTheirBlocks : Prop :=
  (∀ (r : Router) (k v : Nat) (a : Bool) (q : Quality),
      r.hand (.noteOn k v a q) = (if k < r.split then .left else .right)
        ∧ r.hand (.noteOff k q) = (if k < r.split then .left else .right))
    ∧ (∀ (r : Router) (p : Pedal) (l : Nat), r.hand (.pedal p l) = .none)
    ∧ ∀ (s : State),
        let live := s.router.railState = .silent ∨ s.router.monitor = true
        let practice := (s.player.state = .playing ∨ s.player.state = .waiting)
          ∧ (s.player.parts.left = .practice ∨ s.player.parts.right = .practice ∨ s.player.parts.noHand = .practice)
        (∀ k v a q, (s.gates (.noteOn k v a q)).voices = true ↔ live)
          ∧ (∀ k q, (s.gates (.noteOff k q)).voices = true ↔
              live ∨ ∃ w, some w ∈ s.voices.table ∧ w.counted = true ∧ w.source = .live ∧ w.key = k)
          ∧ (∀ p l, (s.gates (.pedal p l)).voices = true)
          ∧ (∀ e, (s.gates e).recorder = true ↔ s.recorder.state = .armed ∨ s.recorder.state = .recording)
          ∧ (∀ k v a q, (s.gates (.noteOn k v a q)).matcher = true ↔ practice)
          ∧ (∀ k q, (s.gates (.noteOff k q)).matcher = false) ∧ (∀ p l, (s.gates (.pedal p l)).matcher = false)
          ∧ (∀ e, (s.gates e).packer = true ↔ s.router.streaming = true)

/-- R41, R43, R44, R76: the router completes an event with its hand and frame time, reads every gate once, and delivers it to
each consumer whose gate is open and to no other. The spec gives the consumers no order; the model's is the Voice Engine, the
Recorder, the Wait Matcher, the Stream Packer (log 8). -/
def Claims.EventsReachTheOpenGates : Prop :=
  ∀ (s : State) (b : EventBody) (t : Time),
    let e : LiveEvent := { body := b, hand := s.router.hand b, time := t }
    let g := s.gates b
    let v0 : State := { s with router := { s.router with passage := some e } }
    let v1 : State := if g.voices = true then
        match b with
        | .noteOn k v _ _ => v0.noteOn .live k v
        | .noteOff k _ => v0.noteOff .live k
        | .pedal _ _ => v0.pedalClaim .live
      else v0
    let v2 : State := if g.recorder = true then v1.recordEvent e else v1
    let v3 : State := if g.matcher = true then
        match b with | .noteOn k _ _ _ => v2.matchStrike k t | _ => v2
      else v2
    let v4 : State := if g.packer = true then v3.streamEvent e else v3
    s.route b t = { v4 with router := { v4.router with passage := none } }

/-- R41 to R49, R76: routing, its gates and the delivery of an event (log 8). -/
def Obligations.RoutingAndItsGates : Prop :=
  Claims.RouteSetTakesThreeSettings ∧ Claims.GatesFollowTheirBlocks ∧ Claims.EventsReachTheOpenGates

/-- R156: with 256 events held a live event is dropped, counted in STREAM_DROPS and the gap count; otherwise the packer holds
one event more. -/
def Claims.AFullStreamBufferDropsEvents : Prop :=
  ∀ (s : State) (e : LiveEvent),
    (256 ≤ s.packer.held →
        s.streamEvent e =
          ({ s with packer := { s.packer with gap := min 65535 (s.packer.gap + 1) } } : State).tally .streamDrops)
      ∧ (s.packer.held < 256 → (s.streamEvent e).packer.held = s.packer.held + 1
          ∧ s.streamEvent e = { s with packer := (s.streamEvent e).packer })

/-- R156: with room in the stream buffer an event joins the tail of the backlog when the backlog is not empty or the open packet
holds its maximum, and otherwise the end of the open packet; the hold timer starts with a packet's first event in PACKED with
a hold time, and the packet is settled (`PacketsBecomeReadyAndJoinTheQueue`). -/
def Claims.EventsJoinTheOpenPacketOrTheBacklog : Prop :=
  ∀ (s : State) (e : LiveEvent), s.packer.held < 256 →
    let p := s.packer
    let most := if p.mode = .single then 1 else p.perPacket
    (p.backlog ≠ [] ∨ most ≤ p.openPacket.length →
        s.streamEvent e = { s with packer := { p with backlog := p.backlog ++ [e] } })
      ∧ (p.backlog = [] → p.openPacket.length < most →
        s.streamEvent e = { s with packer := ({ p with
          openPacket := p.openPacket ++ [e]
          timer := if p.openPacket ≠ [] then p.timer
            else if p.mode = .packed ∧ p.hold ≠ 0 then some (p.hold * 1000) else none } : Packer).settle })

/-- R157, R158: the hold timer expires with events in the open packet: the timer stops, the packet is ready, and it is settled
(`PacketsBecomeReadyAndJoinTheQueue`). With nothing in the backlog and a place in the queue it joins the queue and the open
packet is empty; with 8 packets queued it is ready and stays. -/
def Claims.TheHoldTimerSendsThePacketOn : Prop :=
  ∀ (s : State) (t : Time) (n : Nat), s.packer.timer = some n → n ≤ (t - s.clock).toNat → s.packer.openPacket ≠ [] →
    let u := s.upTo t
    let runs (p : Packer) : Prop := exec (.streamHoldTimer t) s = .next (State.arbitrate { u with packer := p })
    let ready : Packer := { u.packer with ready := true, timer := none }
    runs ready.settle
      ∧ (s.packer.backlog = [] → s.packer.queue.length < 8 →
        runs { ready with queue := s.packer.queue ++ [s.packer.openPacket], openPacket := [], ready := false })
      ∧ (8 ≤ s.packer.queue.length → runs ready)

/-- R159: STREAM_CONFIG: its ranges, then the events held, then its three settings together. That BAD_ARGUMENT is answered
ahead of BUSY is DEDUCED (log 42). -/
def Claims.StreamConfigNeedsAnEmptyBuffer : Prop :=
  ∀ (s : State) (t : Time) (f : Frame) (rest : List Frame) (m : PackMode) (n h : Nat), s.offers .streamConfig f rest →
    let u := s.upTo t
    let answer (v : State) (y : Status) : Host.Outcome State Fault Refusal := .next (v.answering f rest y .nothing)
    exec (.streamConfig t none n h) s = answer u .badArgument
      ∧ exec (.streamConfig t (some m) n h) s =
        (if n = 0 ∨ 28 < n ∨ 50 < h then answer u .badArgument
         else if s.packer.held ≠ 0 then answer u .busy
         else answer { u with packer := { u.packer with mode := m, perPacket := n, hold := h } } .ok)

/-- R159: a change of the streaming enable. To DISABLED, an open packet that holds an event becomes ready, and joins the queue
when it has a place; an empty one, and the change to ENABLED with nothing open, touch nothing else. No change, no effect. -/
def Claims.TheEnableSettlesTheOpenPacket : Prop :=
  ∀ p : Packer,
    (∀ x, p.enabled = x → p.setEnabled x = p)
      ∧ (∀ x, p.enabled ≠ x → p.setEnabled x = ({ p with enabled := x } : Packer).settle)
      ∧ (p.enabled = true → p.openPacket ≠ [] → 8 ≤ p.queue.length → p.ready = false →
          p.setEnabled false = { p with enabled := false, ready := true, timer := none })
      ∧ (p.enabled = true → p.openPacket ≠ [] → p.queue.length < 8 → p.backlog = [] →
          p.setEnabled false = { p with
            enabled := false, queue := p.queue ++ [p.openPacket], openPacket := [], ready := false, timer := none })
      ∧ ∀ x, p.openPacket = [] → p.ready = false → p.setEnabled x = { p with enabled := x }

/-- R156 to R159: the Stream Packer (log 42 for the order of STREAM_CONFIG's refusals). -/
def Obligations.StreamPacking : Prop :=
  Claims.AFullStreamBufferDropsEvents ∧ Claims.EventsJoinTheOpenPacketOrTheBacklog ∧ Claims.TheHoldTimerSendsThePacketOn
    ∧ Claims.TheEnableSettlesTheOpenPacket ∧ Claims.StreamConfigNeedsAnEmptyBuffer

/-! ### Voices and fetch (05, 06) -/

/-- R77, R79: a note-on claim with a valid sound set takes the lowest-numbered zone for its key and effective velocity; with no
counted voice of its source and key and room under the limit, it allocates the lowest FREE entry, STARTING, with its gain,
and asks for its prime. -/
def Claims.ANoteOnAllocatesTheLowestFreeEntry : Prop :=
  ∀ (s : State) (src : Source) (key vel z i : Nat) (zn : Zone),
    let soft := (s.context src).soft
    let ev := if 64 ≤ soft then max 1 (vel - 16) else vel
    let serves (y : Zone) : Prop := y.lowKey ≤ key ∧ key ≤ y.highKey ∧ y.lowVel ≤ ev ∧ ev ≤ y.highVel
    s.fetch.status = .valid → s.fetch.zones[z]? = some zn → serves zn →
    (∀ j y, j < z → s.fetch.zones[j]? = some y → ¬serves y) →
    (∀ w, some w ∈ s.voices.table → w.counted = true → w.source = src → w.key ≠ key) →
    s.voices.counted < s.voices.limit →
    s.voices.table[i]? = some none → (∀ j, j < i → s.voices.table[j]? ≠ some none) →
    s.noteOn src key vel = { s with
      voices := { s.voices with
        table := s.voices.table.set i (some
          { phase := .starting, source := src, key, velocity := vel, zone := z,
            gain := zn.gain + (127 - vel) / 4 + soft / 22, released := false, seq := s.voices.counter })
        counter := s.voices.counter + 1 }
      fetch := s.fetch.askPrime i s.voices.counter z }

/-- R77: without a VALID sound set, or with no zone for the claim, the note is dropped and counted, and nothing else changes. -/
def Claims.ANoteWithoutAZoneIsDropped : Prop :=
  ∀ (s : State) (src : Source) (key vel : Nat),
    let soft := (s.context src).soft
    let ev := if 64 ≤ soft then max 1 (vel - 16) else vel
    s.fetch.status ≠ .valid
        ∨ (∀ y ∈ s.fetch.zones, ¬(y.lowKey ≤ key ∧ key ≤ y.highKey ∧ y.lowVel ≤ ev ∧ ev ≤ y.highVel)) →
    s.noteOn src key vel = s.tally .notesDropped

/-- R78: the steal order: the oldest DAMPED voice, else the oldest SOUNDING voice of the lower-priority source, else the oldest
SOUNDING voice, else the oldest STARTING voice. -/
def Claims.TheStealOrderPicksTheOldest : Prop :=
  ∀ (v : Voices),
    let oldest (p : Voice → Prop) : Prop := ∃ i w, v.victim = some i ∧ v.table[i]? = some (some w) ∧ p w
      ∧ ∀ w', some w' ∈ v.table → p w' → (v.counter - w'.seq).toNat ≤ (v.counter - w.seq).toNat
    let damped (w : Voice) : Prop := w.isDamped = true
    let lower (w : Voice) : Prop := w.phase = .sounding
      ∧ w.source = (match v.priority with | .liveFirst => .playback | .playbackFirst => .live)
    let sounding (w : Voice) : Prop := w.phase = .sounding
    let starting (w : Voice) : Prop := w.phase = .starting
    let has (p : Voice → Prop) : Prop := ∃ w, some w ∈ v.table ∧ p w
    (has damped → oldest damped)
      ∧ (¬has damped → has lower → oldest lower)
      ∧ (¬has damped → ¬has lower → has sounding → oldest sounding)
      ∧ (¬has damped → ¬has lower → ¬has sounding → has starting → oldest starting)

/-- R77 to R79, R86: the second and third step of a note-on claim that has its zone. A counted voice of its source and key is
put into FADING, uncounted, and the claim goes on without it. With no such voice and the counted number at the limit, the
victim of the steal order is put into FADING and VOICE_STEALS counted, and the claim goes on. With no FREE entry left the note
is dropped and counted, and what the claim has done stands. The level a fade starts from, kept in the phase, is DEDUCED (log
24). -/
def Claims.ANoteOnRestrikesStealsAndThenAllocates : Prop :=
  ∀ (s : State) (src : Source) (key vel : Nat),
    let soft := (s.context src).soft
    let ev := if 64 ≤ soft then max 1 (vel - 16) else vel
    let serves (y : Zone) : Prop := y.lowKey ≤ key ∧ key ≤ y.highKey ∧ y.lowVel ≤ ev ∧ ev ≤ y.highVel
    let mine (w : Voice) : Prop := w.counted = true ∧ w.source = src ∧ w.key = key
    let fades (i : Nat) (w : Voice) : State :=
      { s with voices := { s.voices with
        table := s.voices.table.set i (some { w with phase := .fading 0 false (match w.phase with | .damped _ a => a | _ => 0) }) } }
    s.fetch.status = .valid → (∃ y ∈ s.fetch.zones, serves y) →
    (∀ i w, s.voices.table[i]? = some (some w) → mine w →
        (∀ j w', j ≠ i → s.voices.table[j]? = some (some w') → ¬mine w') →
        s.noteOn src key vel = (fades i w).noteOn src key vel)
      ∧ ((∀ w, some w ∈ s.voices.table → ¬mine w) →
          (∀ i w, s.voices.counted = s.voices.limit → s.voices.victim = some i → s.voices.table[i]? = some (some w) →
              s.noteOn src key vel = ((fades i w).tally .voiceSteals).noteOn src key vel)
            ∧ (s.voices.counted < s.voices.limit → none ∉ s.voices.table →
              s.noteOn src key vel = s.tally .notesDropped))

/-- R77 to R79: note-on claims allocate, drop, re-strike and steal (log 24). -/
def Obligations.NoteOnClaimsAllocateDropOrSteal : Prop :=
  Claims.ANoteOnAllocatesTheLowestFreeEntry ∧ Claims.ANoteWithoutAZoneIsDropped ∧ Claims.ANoteOnRestrikesStealsAndThenAllocates
    ∧ Claims.TheStealOrderPicksTheOldest

/-- R80: the release time for a damper level. -/
def Claims.ReleaseTimesFollowTheDamper : Prop :=
  ∀ l, (l ≤ 31 → releaseTime l = 120) ∧ (32 ≤ l → l ≤ 63 → releaseTime l = 120 + (l - 31) * 60)
    ∧ (64 ≤ l → releaseTime l = 4000)

/-- R81: a note-off claim settled by its counted voice: released while STARTING; while SOUNDING it stays when held and is
DAMPED at 0 dB when not; DAMPED or absent, nothing changes. -/
def Claims.ANoteOffIsSettledByItsVoice : Prop :=
  ∀ (s : State) (src : Source) (key : Nat),
    let c := s.context src
    let held := key ∈ c.set ∨ 64 ≤ c.damper
    let mine (w : Voice) : Prop := w.counted = true ∧ w.source = src ∧ w.key = key
    ((∀ w, some w ∈ s.voices.table → ¬mine w) → s.noteOff src key = s)
      ∧ ∀ i w, s.voices.table[i]? = some (some w) → mine w →
          (∀ j w', j < i → s.voices.table[j]? = some (some w') → ¬mine w') →
          let put (w' : Voice) : State :=
            { s with voices := { s.voices with table := s.voices.table.set i (some w') } }
          (w.phase = .starting → s.noteOff src key = put { w with released := true })
            ∧ (w.phase = .sounding → held → s.noteOff src key = put { w with released := true })
            ∧ (w.phase = .sounding → ¬held → s.noteOff src key =
                put { w with released := true, phase := .damped (releaseTime c.damper) 0 })
            ∧ (w.isDamped = true → s.noteOff src key = s)

/-- R83: a pedal change claim: every DAMPED voice of the source takes the release time for its damper level, every released
SOUNDING voice of it that is no longer held is DAMPED at 0 dB, and no other voice is touched. -/
def Claims.APedalChangeDampsWhatItNoLongerHolds : Prop :=
  ∀ (s : State) (src : Source),
    let c := s.context src
    let after (w : Voice) : Voice :=
      if w.source = src then
        match w.phase with
        | .damped _ a => { w with phase := .damped (releaseTime c.damper) a }
        | .sounding =>
          if w.released = true ∧ ¬(w.key ∈ c.set ∨ 64 ≤ c.damper) then { w with phase := .damped (releaseTime c.damper) 0 }
          else w
        | .starting | .fading _ _ _ => w
      else w
    s.pedalClaim src = { s with voices := { s.voices with table := s.voices.table.map (Option.map after) } }

/-- R80, R81, R83: held voices, release times, note-off claims and pedal change claims. -/
def Obligations.NoteOffClaimsReleaseTheirVoice : Prop :=
  Claims.ReleaseTimesFollowTheDamper ∧ Claims.ANoteOffIsSettledByItsVoice ∧ Claims.APedalChangeDampsWhatItNoLongerHolds

/-- R82, R86, R100, R105, R115, R116: an audio block boundary: DAMPED voices fall by 60 dB a release time and are FREE at 96 dB,
fades count their blocks and are FREE after the fifth, a voice whose prime has come begins to play, and the mixer takes its
settings, with a ramp block or a silence ramp where the rules call for one. A voice that becomes FREE leaves the fetch queue,
where the others keep their order, empties its halves and has no play position; what its buffer serves is kept (log 37). The
memory port, and the buffers of the entries that were FREE, stay. That a fading voice keeps the level it had on entry is
DEDUCED (log 24), and the frame count that starts afresh is the model's choice (log 26). -/
def Obligations.AudioBoundariesAdvanceReleasesAndFades : Prop :=
  (∀ l, attGrowth (releaseTime l) * releaseTime l = 60 * attDb)
    ∧ ∀ (s : State) (t : Time), s.voices.table.length = 80 → s.fetch.bufs.length = 80 → s.link.readyPlace = none →
      let ends (w : Voice) : Bool :=
        match w.phase with
        | .starting | .sounding => false
        | .damped r a => decide (96 * attDb ≤ a + attGrowth r)
        | .fading n begun _ => begun && decide (4 ≤ n)
      ∃ s', exec (.audioBlockBoundary t) s = .next s'
        ∧ (∀ i : Nat, s.voices.table[i]? = some none → s'.voices.table[i]? = some none ∧ s'.fetch.buf i = s.fetch.buf i)
        ∧ s'.fetch.queue = s.fetch.queue.filter (fun e => !((s.voices.table[e.voice]?).join.any ends))
        ∧ s'.fetch.bufs.length = 80
        ∧ (∀ (i : Nat) (w : Voice), s.voices.table[i]? = some (some w) →
            let empty : Half := { fill := .empty, segment := 0, data := [] }
            let freed : Prop := s'.voices.table[i]? = some none ∧
              s'.fetch.buf i = { s.fetch.buf i with a := empty, b := empty, pos := none, due := false }
            let kept (w' : Voice) : Prop := s'.voices.table[i]? = some (some w') ∧
              s'.fetch.buf i = (if (s.fetch.buf i).due then { s.fetch.buf i with pos := some 0, due := false }
                else s.fetch.buf i)
            match w.phase with
            | .starting | .sounding => kept w
            | .damped r a =>
              if 96 * attDb ≤ a + attGrowth r then freed
              else kept { w with phase := .damped r (a + attGrowth r) }
            | .fading n begun a =>
              if begun = false then kept { w with phase := .fading n true a }
              else if 4 ≤ n then freed
              else kept { w with phase := .fading (n + 1) true a })
        ∧ s'.mixer = { (s.upTo t).mixer with
            inForce := s.mixer.settings, widthInForce := s.mixer.width, silentOut := s.mixer.silenceFlag, frameInBlock := 0
            ramp := if s.mixer.silenceFlag then .none else if s.mixer.silentOut then .silence
              else if s.mixer.inForce = s.mixer.settings then .none else .settings s.mixer.inForce }
        ∧ s' = { s.upTo t with
            voices := { s.voices with table := s'.voices.table }
            fetch := { s.fetch with bufs := s'.fetch.bufs, queue := s'.fetch.queue }
            mixer := s'.mixer, link := s'.link, packer := s'.packer }

/-- R101, R116, R117: an output frame while the output is silent sends two slots of 0, and a playing voice's position advances
by one all the same (log 25). -/
def Claims.SilentFramesAreZeroAndVoicesPlayOn : Prop :=
  ∀ (s : State) (t : Time), s.mixer.silentOut = true → s.link.readyPlace = none → s.fetch.bufs.length = 80 →
    ∃ s', exec (.outputFrame t) s = .next s' ∧ s'.mixer.port = { left := 0, right := 0 }
      ∧ s'.stat .mixerClips = s.stat .mixerClips
      ∧ s' = { s.upTo t with
          voices := s'.voices, fetch := s'.fetch, mixer := s'.mixer, stats := s'.stats, link := s'.link, packer := s'.packer }
      ∧ ∀ (i p : Nat) (w : Voice) (z : Zone), i < 80 → s.voices.table[i]? = some (some w) → (s.fetch.buf i).pos = some p →
          s.fetch.zones[w.zone]? = some z → z.loopStart.isSome = true ∨ p + 1 < z.length → (p + 1) % 256 ≠ 0 →
          (s'.fetch.buf i).pos = some (p + 1) ∧ s'.voices.table[i]? = some (some w)

/-- R111 to R113, R117: a voice of a centred zone at 0 dB, with every gain at 0 dB and no ramp, is sent as its sample times 256
in both slots' upper 24 bits, and clips nothing. -/
def Claims.AFullLevelVoiceIsSentUnchanged : Prop :=
  ∀ (m : Mixer) (x : Int) (src : Source), -32768 ≤ x → x ≤ 32767 → m.silentOut = false → m.ramp = .none →
    m.widthInForce = 24 →
    m.inForce = { master := .code 0, liveTrim := 0, playTrim := 0, source := .both, channel := .stereo } →
    m.form [{ source := src, sample := x, att := 0, fade := 240, pan := 64 }] =
      ({ left := BitVec.ofInt 32 (x * 65536), right := BitVec.ofInt 32 (x * 65536) }, false)

/-- R101, R113, R117: an output frame: the mixed frame goes out on the serial audio port, a clipped one counts MIXER_CLIPS,
and then the 80 entries play on in ascending order (that the frame goes ahead of the positions is DEDUCED, log 25; the frame
count is the model's choice, log 26, and so is the order of refills that come together, log 51). -/
def Claims.AnOutputFrameSendsAndPlaysOn : Prop :=
  ∀ (s : State) (t : Time),
    exec (.outputFrame t) s = .next ((List.range 80).foldl State.playEntry (s.upTo t).sendFrame).arbitrate
      ∧ let f := s.mixer.form s.supplies
        let sent : State := { s with mixer := { s.mixer with port := f.1, frameInBlock := s.mixer.frameInBlock + 1 } }
        s.sendFrame = if f.2 = true then sent.tally .mixerClips else sent

/-- R85, R99, R101, R102, R105: one entry at an output frame: its play position advances by one; past the last frame of an
unlooped zone the voice becomes FREE; crossing into a FULL half it plays on and asks for the segment after, if there is one;
crossing into a half that is not FULL it underruns: FREE at once, FETCH_UNDERRUNS counted. A voice that becomes FREE leaves
the queue and empties its halves; what its buffer serves is kept (log 37). -/
def Claims.PlayingVoicesCrossEndOrUnderrun : Prop :=
  ∀ (s : State) (i : Nat),
    ((s.voices.table[i]?).join = none ∨ (s.fetch.buf i).pos = none → s.playEntry i = s)
      ∧ ∀ (p : Nat) (w : Voice) (z : Zone), s.voices.table[i]? = some (some w) → (s.fetch.buf i).pos = some p →
        s.fetch.zones[w.zone]? = some z →
        let b := s.fetch.buf i
        let n := (p + 1) / 256
        let empty : Half := { fill := .empty, segment := 0, data := [] }
        let put (x : StreamBuf) : Fetch := { s.fetch with bufs := s.fetch.bufs.set i x }
        let into : Half := if n % 2 = 0 then b.a else b.b
        let left (h : Half) : StreamBuf :=
          if n % 2 = 0 then { b with pos := some (p + 1), b := h } else { b with pos := some (p + 1), a := h }
        let freed : State := { s with
          voices := { s.voices with table := s.voices.table.set i none }
          fetch := { put { b with a := empty, b := empty, pos := none, due := false } with
                     queue := s.fetch.queue.filter (·.voice != i) } }
        let ended := z.loopStart = none ∧ z.length ≤ p + 1
        let full := into.fill = .full ∧ into.segment = n
        let more := z.loopStart ≠ none ∨ 256 * (n + 1) < z.length
        (ended → s.playEntry i = freed)
          ∧ (¬ended → (p + 1) % 256 ≠ 0 → s.playEntry i = { s with fetch := put { b with pos := some (p + 1) } })
          ∧ (¬ended → (p + 1) % 256 = 0 → full → more → s.playEntry i = { s with
              fetch := (put (left { fill := .queued, segment := n + 1, data := [] })).place
                { cls := .refill, voice := i, seq := w.seq, segment := n + 1 } })
          ∧ (¬ended → (p + 1) % 256 = 0 → full → ¬more → s.playEntry i = { s with fetch := put (left empty) })
          ∧ (¬ended → (p + 1) % 256 = 0 → ¬full → s.playEntry i = freed.tally .fetchUnderruns)

/-- R86, R87, R98, R101, R111: what the voices supply to the frame, in ascending entry number: a voice with a play position
that is SOUNDING, DAMPED or FADING supplies the sample frame at its position, its gain and the pan of its zone, with its
release attenuation in DAMPED and FADING and the fade's linear fall (the shape of a fade is DEDUCED, log 24); any other
nothing. The frame's number in its block is the model's count (log 26). -/
def Claims.VoicesSupplyTheirSampleAtTheirLevel : Prop :=
  ∀ s : State,
    let k := min 48 (s.mixer.frameInBlock + 1)
    s.supplies = (s.voices.table.zipIdx.filterMap fun x => x.1.bind fun w => s.supply k (x.2, w))
      ∧ ∀ (k i : Nat) (w : Voice),
        let b := s.fetch.buf i
        (b.pos = none ∨ w.phase = .starting → s.supply k (i, w) = none)
          ∧ ∀ (p : Nat) (z : Zone), b.pos = some p → s.fetch.zones[w.zone]? = some z →
            let half : Half := if p / 256 % 2 = 0 then b.a else b.b
            let gives (att fade : Nat) : Prop := s.supply k (i, w) =
              some { source := w.source, sample := (half.data.getD (p % 256) 0).toInt
                     att := w.gain * attDb / 2 + att, fade, pan := z.pan }
            match w.phase with
            | .starting => True
            | .sounding => gives 0 240
            | .damped _ a => gives a 240
            | .fading n begun a => gives a (if begun = true then 240 - (48 * n + k) else 240)

/-- R111: the factor 10 to the power −A/20: 1 at 0 dB, exactly a tenth of itself 20 dB on, at each half dB the 40th root of a
power of 10 to 240 binary places, and between them the exponential series in fixed point (DESIGN CHOICE, log 23). -/
def Claims.DecibelsAreFactors : Prop :=
  fixedGain 0 = 1 ∧ (∀ a, fixedGain (a + 20 * attDb) = fixedGain a / 10)
    ∧ (∀ h : Nat, h < 40 →
        let x : Rat := fixedGain (h * attDb / 2) ^ 40 * (10 : Rat) ^ h
        x ≤ 1 + 1 / (2 : Rat) ^ 240 ∧ 1 ≤ x + 1 / (2 : Rat) ^ 240)
    ∧ ∀ (a : Nat) (term : Nat → Nat), 0 < a → a < 20 * attDb → term 0 = 2 ^ 256 →
        (∀ n, term (n + 1) = term n * (fixedLn10 * a / (20 * attDb)) / 2 ^ 256 / (n + 1)) →
        fixedGain a =
          ((((List.range 50).map fun n => term (2 * n)).sum - ((List.range 50).map fun n => term (2 * n + 1)).sum : Nat) : Rat)
            / (2 : Rat) ^ 256

/-- R111 to R113, R115 to R117: a frame that is not silent: each supply times 256 and its factor, split by its pan, its bus
trimmed, selected or left out by the source, the channels kept or halved together, under the master gain; ramped in frame k
with the weights (48 − k) / 48 and k / 48 from the old settings, or k / 48 from silence; rounded once, halves away from zero;
saturated, which is what clips; and put in the upper 24 bits of its slot, in the 16-bit width without its lower 8 bits. (The
precision of the factors: log 23; the frame's number: log 26.) -/
def Claims.FramesAreMixedRampedRoundedAndSaturated : Prop :=
  ∀ (m : Mixer) (xs : List Supply), m.silentOut = false →
    let w : Rat := ((min 48 (m.frameInBlock + 1) : Nat) : Rat) / 48
    let trim (g : GainPath) (x : Supply) : Option Nat :=
      match x.source with
      | .live => if g.source = .both ∨ g.source = .liveOnly then some g.liveTrim else none
      | .playback => if g.source = .both ∨ g.source = .playbackOnly then some g.playTrim else none
    let gain (g : GainPath) (x : Supply) : Rat :=
      match g.master, trim g x with
      | .code n, some d => fixedGain (x.att + (d + n) * attDb / 2)
      | _, _ => 0
    let part (g : GainPath) (x : Supply) : Rat := (x.sample : Rat) * 256 * gain g x * ((x.fade : Rat) / 240)
    let leftOf (p : Nat) : Rat := if p ≤ 64 then 1 else ((127 - p : Nat) : Rat) / 63
    let rightOf (p : Nat) : Rat := if 64 ≤ p then 1 else (p : Rat) / 64
    let left (g : GainPath) : Rat := (xs.map fun x => part g x * leftOf x.pan).sum
    let right (g : GainPath) : Rat := (xs.map fun x => part g x * rightOf x.pan).sum
    let mixed (g : GainPath) : Rat × Rat :=
      match g.channel with
      | .stereo => (left g, right g)
      | .mono => ((left g + right g) / 2, (left g + right g) / 2)
    let new := mixed m.inForce
    let out : Rat × Rat :=
      match m.ramp with
      | .none => new
      | .silence => (w * new.1, w * new.2)
      | .settings g => ((1 - w) * (mixed g).1 + w * new.1, (1 - w) * (mixed g).2 + w * new.2)
    let nearest (y : Rat) (n : Int) : Prop :=
      (n : Rat) - 1 / 2 ≤ y ∧ y ≤ (n : Rat) + 1 / 2 ∧ (y = (n : Rat) - 1 / 2 → 0 < y) ∧ (y = (n : Rat) + 1 / 2 → y < 0)
    let clip (n : Int) : Int := max (-8388608) (min 8388607 n)
    let slot (n : Int) : BitVec 32 := BitVec.ofInt 32 (if m.widthInForce = 16 then n / 256 * 65536 else n * 256)
    ∃ l r : Int, nearest out.1 l ∧ nearest out.2 r
      ∧ m.form xs = ({ left := slot (clip l), right := slot (clip r) }, decide (clip l ≠ l ∨ clip r ≠ r))

/-- R85 to R87, R98, R99, R101, R102, R105, R111 to R113, R115 to R117: output frames (logs 23, 24, 25, 26, 37, 51). -/
def Obligations.OutputFramesAreFormed : Prop :=
  Claims.SilentFramesAreZeroAndVoicesPlayOn ∧ Claims.AFullLevelVoiceIsSentUnchanged
    ∧ Claims.VoicesSupplyTheirSampleAtTheirLevel ∧ Claims.DecibelsAreFactors
    ∧ Claims.FramesAreMixedRampedRoundedAndSaturated ∧ Claims.AnOutputFrameSendsAndPlaysOn
    ∧ Claims.PlayingVoicesCrossEndOrUnderrun

/-- R84, R100, R104: the completion of the prime of a STARTING voice, nothing else waiting: half A is FULL with segment 0, and
the voice is SOUNDING, or DAMPED when it was released and is not held. -/
def Claims.APrimeMakesItsVoiceSound : Prop :=
  ∀ (s : State) (t : Time) (i : Nat) (w : Voice) (z : Zone),
    s.fetch.port = some (.segment { cls := .prime, voice := i, seq := w.seq, segment := 0 }) → s.fetch.queue = [] →
    s.voices.table[i]? = some (some w) → w.phase = .starting → i < s.fetch.bufs.length →
    (s.fetch.buf i).serves = some { seq := w.seq, zone := w.zone } → s.fetch.zones[w.zone]? = some z →
    s.link.readyPlace = none →
    let c := s.context w.source
    let held := w.key ∈ c.set ∨ 64 ≤ c.damper
    ∃ s', exec (.segmentReadDone t) s = .next s'
      ∧ (s'.fetch.buf i).a = { fill := .full, segment := 0, data := s.segmentData z 0 }
      ∧ (s'.fetch.buf i).due = true
      ∧ (w.released = false ∨ held → s'.voices.table[i]? = some (some { w with phase := .sounding }))
      ∧ (w.released = true → ¬held →
          s'.voices.table[i]? = some (some { w with phase := .damped (releaseTime c.damper) 0 }))
      ∧ (∀ j, j ≠ i → s'.voices.table[j]? = s.voices.table[j]? ∧ s'.fetch.buf j = s.fetch.buf j)
      ∧ s' = { s.upTo t with voices := s'.voices, fetch := s'.fetch, link := s'.link, packer := s'.packer }

/-- R104: a completed read whose voice is FREE, or whose entry serves another allocation, changes no half and no voice. -/
def Claims.StaleReadsAreDiscarded : Prop :=
  ∀ (s : State) (t : Time) (e : FetchEntry), s.fetch.port = some (.segment e) → s.fetch.queue = [] →
    s.voices.table[e.voice]? = some none ∨ (s.fetch.buf e.voice).serves.map (·.seq) ≠ some e.seq →
    exec (.segmentReadDone t) s = .next (State.arbitrate { s.upTo t with fetch := { s.fetch with port := none } })

/-- R99, R100, R103: the fetch queue: a PRIME is placed behind the last PRIME and ahead of every REFILL, a REFILL at the tail;
an idle port takes the head at once and its half becomes READING. A new voice's buffer is set afresh with half A QUEUED for
segment 0 and a PRIME placed. -/
def Claims.FetchEntriesQueueInTwoRuns : Prop :=
  (∀ (e : FetchEntry) (ps rs : List FetchEntry), (∀ x ∈ ps, x.cls = .prime) → (∀ x ∈ rs, x.cls = .refill) →
      placeEntry e (ps ++ rs) = if e.cls = .prime then ps ++ e :: rs else ps ++ rs ++ [e])
    ∧ (∀ (f : Fetch) (e : FetchEntry), f.port ≠ none → f.place e = { f with queue := placeEntry e f.queue })
    ∧ (∀ (f : Fetch) (e h : FetchEntry) (q : List FetchEntry), f.port = none → placeEntry e f.queue = h :: q →
        let b := f.buf h.voice
        let marked : StreamBuf :=
          if h.segment % 2 = 0 then { b with a := { b.a with fill := .reading } }
          else { b with b := { b.b with fill := .reading } }
        f.place e = { f with port := some (.segment h), queue := q, bufs := f.bufs.set h.voice marked })
    ∧ ∀ (f : Fetch) (i : Nat) (seq : BitVec 32) (zone : Nat),
        let fresh : StreamBuf :=
          { a := { fill := .queued, segment := 0, data := [] }, b := { fill := .empty, segment := 0, data := [] }
            pos := none, serves := some { seq, zone }, due := false }
        f.askPrime i seq zone =
          ({ f with bufs := f.bufs.set i fresh } : Fetch).place { cls := .prime, voice := i, seq, segment := 0 }

/-- R84, R98, R100, R103, R104: a completed read for the present occupant of its entry fills the half with the segment's
frames, those past the end of a looped zone from its loop start on, over and over; a PRIME finds its STARTING voice, which sounds (or is damped at once, released and not held) and asks for segment 1 if
there is one; the port then takes the next head entry. -/
def Claims.CompletedReadsFillTheirHalf : Prop :=
  ∀ (s : State) (t : Time) (e : FetchEntry) (w : Voice) (z : Zone), s.fetch.port = some (.segment e) →
    s.voices.table[e.voice]? = some (some w) → (s.fetch.buf e.voice).serves = some { seq := e.seq, zone := w.zone } →
    s.fetch.zones[w.zone]? = some z →
    let u := s.upTo t
    let b := s.fetch.buf e.voice
    let full : Half := { fill := .full, segment := e.segment, data := s.segmentData z e.segment }
    let filled : StreamBuf := if e.segment % 2 = 0 then { b with a := full } else { b with b := full }
    let put (x : StreamBuf) : Fetch := { s.fetch with bufs := s.fetch.bufs.set e.voice x }
    let next (f : Fetch) : Fetch :=
      match f.queue with
      | [] => { f with port := none }
      | h :: q =>
        let y := f.buf h.voice
        { f with
          port := some (.segment h), queue := q
          bufs := f.bufs.set h.voice (if h.segment % 2 = 0 then { y with a := { y.a with fill := .reading } }
            else { y with b := { y.b with fill := .reading } }) }
    let c := s.context w.source
    let sounding : Voice :=
      if w.released = true ∧ ¬(w.key ∈ c.set ∨ 64 ≤ c.damper) then { w with phase := .damped (releaseTime c.damper) 0 }
      else { w with phase := .sounding }
    let frame (p : Nat) : Nat :=
      match z.loopStart with
      | none => p
      | some l => if p < z.length then p else l + (p - z.length) % (z.length - l)
    (e.cls = .refill ∨ w.phase ≠ .starting →
        exec (.segmentReadDone t) s = .next (State.arbitrate { u with fetch := next (put filled) }))
      ∧ (e.cls = .prime → e.segment = 0 → w.phase = .starting →
        exec (.segmentReadDone t) s = .next (State.arbitrate { u with
          voices := { s.voices with table := s.voices.table.set e.voice (some sounding) }
          fetch := next (if z.loopStart ≠ none ∨ 256 < z.length then
              { put { filled with due := true, b := { fill := .queued, segment := 1, data := [] } } with
                queue := s.fetch.queue ++ [{ cls := .refill, voice := e.voice, seq := w.seq, segment := 1 }] }
            else put { filled with due := true }) }))
      ∧ z.segmentFrames e.segment = (if z.loopStart = none then min 256 (z.length - 256 * e.segment) else 256)
      ∧ ∀ j, j < z.segmentFrames e.segment → (s.segmentData z e.segment)[j]? =
          some (BitVec.ofNat 16 (s.flashNat (z.start + 2 * frame (256 * e.segment + j)) 2))

/-- R84, R98 to R100, R103, R104: the fetch queue and completed segment reads. -/
def Obligations.SegmentReadsFillOrAreDiscarded : Prop :=
  Claims.APrimeMakesItsVoiceSound ∧ Claims.StaleReadsAreDiscarded ∧ Claims.FetchEntriesQueueInTwoRuns
    ∧ Claims.CompletedReadsFillTheirHalf

/-- R86, R89: POLY_SET sets both settings; a limit below the counted number steals down to it, one voice at a time, each the
victim of the steal order under the new priority, put into FADING and counted. (The level a fade starts from: log 24.) -/
def Obligations.PolySetStealsDownToItsLimit : Prop :=
  ∀ (s : State) (t : Time) (f : Frame) (rest : List Frame) (n : Nat) (p : Priority), s.offers .polySet f rest →
    let u := s.upTo t
    let set : State := { u with voices := { s.voices with limit := n, priority := p } }
    let fade (w : Voice) : Voice := { w with phase := .fading 0 false (match w.phase with | .damped _ a => a | _ => 0) }
    let stealOne (v : State) : State :=
      match v.voices.victim with
      | none => v
      | some i =>
        match (v.voices.table[i]?).join with
        | none => v
        | some w =>
          ({ v with voices := { v.voices with table := v.voices.table.set i (some (fade w)) } } : State).tally .voiceSteals
    (∀ q, n < 8 ∨ 64 < n → exec (.polySet t n q) s = .next (u.answering f rest .badArgument .nothing))
      ∧ exec (.polySet t n none) s = .next (u.answering f rest .badArgument .nothing)
      ∧ (8 ≤ n → n ≤ 64 → s.voices.counted ≤ n → exec (.polySet t n (some p)) s = .next (set.answering f rest .ok .nothing))
      ∧ (8 ≤ n → n ≤ 64 → n < s.voices.counted →
          let v := (List.range (s.voices.counted - n)).foldl (fun x _ => stealOne x) set
          exec (.polySet t n (some p)) s = .next (v.answering f rest .ok .nothing)
            ∧ v.voices.limit = n ∧ v.voices.priority = p ∧ v.voices.counted = n
            ∧ (s.stats.length = 27 →
                v.stat .voiceSteals = s.stat .voiceSteals + BitVec.ofNat 24 (s.voices.counted - n))
            ∧ (∀ c, c ≠ .voiceSteals → v.stat c = s.stat c) ∧ v = { u with voices := v.voices, stats := v.stats })

/-- R86, R90: SOUND_OFF puts every counted voice of its scope into FADING and replies with their number; it touches nothing
else. The level a fade starts from, kept in the phase, is DEDUCED (log 24). -/
def Obligations.SoundOffFadesItsScope : Prop :=
  ∀ (s : State) (t : Time) (f : Frame) (rest : List Frame), s.offers .soundOff f rest →
    let u := s.upTo t
    let into (c : Scope) (src : Source) : Bool :=
      match c with | .both => true | .live => src == .live | .playback => src == .playback
    let hit (c : Scope) (w : Voice) : Bool := w.counted && into c w.source
    let fade (c : Scope) (w : Voice) : Voice :=
      if hit c w then { w with phase := .fading 0 false (match w.phase with | .damped _ a => a | _ => 0) } else w
    exec (.soundOff t none) s = .next (u.answering f rest .badArgument .nothing)
      ∧ ∀ c, exec (.soundOff t (some c)) s = .next
          (({ u with voices := { s.voices with table := s.voices.table.map (Option.map (fade c)) } } : State).answering f rest
            .ok (.count (s.voices.table.countP fun x => x.any (hit c))))

/-- R107: SOUNDSET_RELOAD is refused with BUSY while anything is loading, allocated, queued or in flight; otherwise a load
begins: LOADING, the cache empty. That header and failure are absent while it runs is the model's choice (log 21). -/
def Claims.ReloadBeginsALoad : Prop :=
  ∀ (s : State) (t : Time) (f : Frame) (rest : List Frame), s.offers .soundsetReload f rest →
    let u := s.upTo t
    let busy := s.fetch.status = .loading ∨ (∃ w, some w ∈ s.voices.table) ∨ s.fetch.queue ≠ [] ∨ s.fetch.port ≠ none
    (busy → exec (.soundsetReload t) s = .next (u.answering f rest .busy .nothing))
      ∧ (¬busy → exec (.soundsetReload t) s = .next (({ u with fetch := { s.fetch with
          status := .loading, header := none, failure := none, zones := [], port := some .load } } : State).answering f rest
            .ok .nothing))

/-- R94 to R97: what a load finds: the header and the zones read from the places of R94 and R95, least significant byte first,
and checked in the order of R96; the first check that fails gives the reason and, in a zone, the number of the first zone that
fails, the header being kept once the signature has passed. -/
def Claims.TheSoundSetIsCheckedInOrder : Prop :=
  ∀ s : State,
    let byte (a : Nat) : Nat := (Memory.read flashByte s.soundMem a).toNat
    let two (a : Nat) : Nat := byte a + 256 * byte (a + 1)
    let four (a : Nat) : Nat := two a + 65536 * two (a + 2)
    let signed := byte 0 = 0x4D ∧ byte 1 = 0x42 ∧ byte 2 = 0x53 ∧ byte 3 = 0x53
    let h : SetHeader := { version := two 4, zoneCount := two 6, memorySize := four 8, setupOffset := four 12 }
    let zone (n : Nat) : Zone :=
      let a := 16 + 18 * n
      { lowKey := byte a, highKey := byte (a + 1), lowVel := byte (a + 2), highVel := byte (a + 3), start := four (a + 4)
        length := four (a + 8), loopStart := if four (a + 12) = 0xFFFFFFFF then none else some (four (a + 12))
        gain := byte (a + 16), pan := byte (a + 17) }
    let counted := 1 ≤ h.zoneCount ∧ h.zoneCount ≤ 512
    let sized := 65536 ≤ h.memorySize ∧ h.memorySize ≤ 16777216 ∧ 16 + 18 * h.zoneCount ≤ h.memorySize
    let keys (z : Zone) : Prop := z.lowKey ≤ z.highKey ∧ z.highKey ≤ 87
    let vels (z : Zone) : Prop := 1 ≤ z.lowVel ∧ z.lowVel ≤ z.highVel ∧ z.highVel ≤ 127
    let extent (z : Zone) : Prop := z.start % 2 = 0 ∧ 1 ≤ z.length ∧ z.start + 2 * z.length ≤ h.memorySize
    let loop (z : Zone) : Prop := ∀ l, z.loopStart = some l → l < z.length
    let levels (z : Zone) : Prop := z.gain ≤ 96 ∧ z.pan ≤ 127
    let good (z : Zone) : Prop := keys z ∧ vels z ∧ extent z ∧ loop z ∧ levels z
    let fails (x : Option SetHeader) (why : LoadFailure) (n : Option Nat) : Prop :=
      s.loadResult = { header := x, failure := some (why, n), zones := [] }
    (¬signed → fails none .signature none)
      ∧ (signed → ¬counted → fails (some h) .zoneCount none)
      ∧ (signed → counted → ¬sized → fails (some h) .memorySize none)
      ∧ (∀ n, signed → counted → sized → n < h.zoneCount → (∀ j, j < n → good (zone j)) →
          (¬keys (zone n) → fails (some h) .keyRange (some n))
            ∧ (keys (zone n) → ¬vels (zone n) → fails (some h) .velocityRange (some n))
            ∧ (keys (zone n) → vels (zone n) → ¬extent (zone n) → fails (some h) .extent (some n))
            ∧ (keys (zone n) → vels (zone n) → extent (zone n) → ¬loop (zone n) → fails (some h) .loop (some n))
            ∧ (keys (zone n) → vels (zone n) → extent (zone n) → loop (zone n) → ¬levels (zone n) →
                fails (some h) .levels (some n)))
      ∧ (signed → counted → sized → (∀ n, n < h.zoneCount → good (zone n)) →
          s.loadResult = { header := some h, failure := none, zones := (List.range h.zoneCount).map zone })

/-- R96, R97, R107: a load after start-up ends with what it found: VALID with the header and every zone, or INVALID with its
failure and an empty cache, the port idle; and SOUND_SET is sent. -/
def Claims.ALoadEndsValidOrInvalid : Prop :=
  ∀ (s : State) (t : Time), s.fetch.port = some .load → s.link.start = .over →
    let r := s.loadResult
    let status : SetStatus := if r.failure = none then .valid else .invalid
    exec (.soundsetLoadDone t) s = .next (State.arbitrate
      (({ s.upTo t with fetch := { s.fetch with
          status, header := r.header, failure := r.failure, zones := r.zones, port := none } } : State).notify
        (.soundSet status (r.header.map fun h => (h.version, h.zoneCount, h.memorySize)) r.failure)))

/-- R107, R109, R110, R191, R192: the load of a start-up ends: a full one goes on to the setup, reading the setup area unless
the strap is asserted or there is none; a warm one ends with READY, its source RETAINED. No SOUND_SET notice is sent. -/
def Claims.TheLoadOfAStartUpEnds : Prop :=
  ∀ (s : State) (t : Time), s.fetch.port = some .load →
    let u := s.upTo t
    let r := s.loadResult
    let fetch (port : Option PortRead) : Fetch := { u.fetch with
      status := if r.failure = none then .valid else .invalid, header := r.header, failure := r.failure, zones := r.zones, port }
    (s.link.start = .loading true →
        let area := s.pins.strap = false ∧ ∃ h, r.header = some h ∧ h.setupOffset ≠ 0
        (area → exec (.soundsetLoadDone t) s = .next (State.arbitrate
            { u with fetch := fetch (some .setup), link := { u.link with start := .setup } }))
          ∧ (¬area → exec (.soundsetLoadDone t) s = .next (State.arbitrate
            { u with fetch := fetch none, link := { u.link with start := .setup } })))
      ∧ (s.link.start = .loading false → s.link.tx = none → s.link.restart = .none →
          exec (.soundsetLoadDone t) s = .next (State.followSilence { u with
            fetch := fetch none
            rail := { u.rail with autoHomeDue := u.rail.state == .unhomed && u.rail.config.autoHome }
            link := { u.link with
              start := .over, readyPlace := none, ready := true
              tx := some (.ready { retained := true, source := s.link.source
                                   status := if r.failure = none then .valid else .invalid
                                   header := r.header.map fun h => (h.version, h.zoneCount), failure := r.failure }) } }))

/-- R94 to R97, R107, R109, R110: loading a sound set (log 21), in a start-up too. -/
def Obligations.LoadsOfTheSoundSet : Prop :=
  Claims.ReloadBeginsALoad ∧ Claims.TheSoundSetIsCheckedInOrder ∧ Claims.ALoadEndsValidOrInvalid
    ∧ Claims.TheLoadOfAStartUpEnds

/-! ### Headphone output (07) -/

/-- R116: a silence condition that begins sets the silence flag, silences the output at once and abandons any ramp; when the
last ends the flag is cleared and the output stays as it is until a boundary. R116 names three conditions; the silence until
READY of R117, R123 and R124 is the fourth here, held in the same flag, which is the model's form (log 56). -/
def Claims.TheSilenceFlagFollowsTheConditions : Prop :=
  ∀ s : State,
    let muted := match s.mixer.muteMode with | .level => s.pins.mute = true | .latch => s.mixer.latched = true
    let quiet := s.mixer.plug ≠ .seated ∨ muted ∨ s.mixer.settings.source = .silence ∨ s.link.ready = false
    (quiet → s.mixer.silenceFlag = true → s.followSilence = s)
      ∧ (quiet → s.mixer.silenceFlag = false →
          s.followSilence = { s with mixer := { s.mixer with silenceFlag := true, silentOut := true, ramp := .none } })
      ∧ (¬quiet → s.followSilence = { s with mixer := { s.mixer with silenceFlag := false } })

/-- R114: VOLUME_SET and MIX_SET set their values at once, a change of source moving the silence flag; a value out of range is
refused without change. -/
def Claims.GainSettingsAreTaken : Prop :=
  ∀ (s : State) (t : Time) (f : Frame) (rest : List Frame) (m : Master) (a b : Nat) (x : OutSource) (c : ChannelMode),
    let u := s.upTo t
    let refused : Host.Outcome State Fault Refusal := .next (u.answering f rest .badArgument .nothing)
    let set (g : GainPath) : Host.Outcome State Fault Refusal := .next
      (({ u with mixer := { u.mixer with settings := g } } : State).followSilence.answering f rest .ok .nothing)
    (s.offers .volumeSet f rest → exec (.volumeSet t m) s =
        (if (match m with | .code n => decide (n ≤ 191) | .muted => true) = true then
            set { s.mixer.settings with master := m }
          else refused))
      ∧ (s.offers .mixSet f rest → exec (.mixSet t a b (some x) (some c)) s =
        (if a ≤ 60 ∧ b ≤ 60 then
          set { s.mixer.settings with liveTrim := a, playTrim := b, source := x, channel := c } else refused))
      ∧ (∀ y, s.offers .mixSet f rest → exec (.mixSet t a b none y) s = refused)
      ∧ (∀ y, s.offers .mixSet f rest → exec (.mixSet t a b y none) s = refused)

/-- R114, R116, R117, R123, R124: the gain path and the silence flag (log 56). -/
def Obligations.GainSettingsAndTheSilenceFlag : Prop :=
  Claims.TheSilenceFlagFollowsTheConditions ∧ Claims.GainSettingsAreTaken

/-- R116, R119 to R121: HP_CONFIG sets the width, the plug detection and the mute mode: enabling detection settles for 50 ms;
disabling it seats the plug and sends PLUG when the plug was not SEATED; the latch follows the line on a change to LATCH and is
clear in LEVEL, and MUTE is sent when the mute begins or ends; the silence flag follows. PLUG ahead of MUTE is the model's
choice (log 53). -/
def Claims.HeadphoneSettingsAreTaken : Prop :=
  ∀ (s : State) (t : Time) (f : Frame) (rest : List Frame) (n : Nat) (p : Bool) (m : MuteMode), s.offers .hpConfig f rest →
    let u := s.upTo t
    let refused : Host.Outcome State Fault Refusal := .next (u.answering f rest .badArgument .nothing)
    let wide : Mixer := { u.mixer with width := n }
    let plugged : State :=
      if s.mixer.plugDetect = p then { u with mixer := wide }
      else if p = true then { u with mixer := { wide with plugDetect := true, plug := .settling, plugTimer := some 50000 } }
      else
        let v : State := { u with mixer := { wide with plugDetect := false, plug := .seated, plugTimer := none } }
        if s.mixer.plug = .seated then v else v.notify (.plug .seated s.pins.plug false)
    let latched : Bool := decide (m = .latch) && s.pins.mute
    let was : Bool := match s.mixer.muteMode with | .level => s.pins.mute | .latch => s.mixer.latched
    let muted : State :=
      if s.mixer.muteMode = m then plugged
      else
        let v : State := { plugged with mixer := { plugged.mixer with muteMode := m, latched } }
        if s.pins.mute = was then v else v.notify (.mute s.pins.mute m s.pins.mute latched)
    (∀ x y, n ≠ 24 → n ≠ 16 → exec (.hpConfig t n x y) s = refused)
      ∧ (∀ y, exec (.hpConfig t n none y) s = refused) ∧ (∀ x, exec (.hpConfig t n x none) s = refused)
      ∧ (n = 24 ∨ n = 16 → exec (.hpConfig t n (some p) (some m)) s =
          .next (muted.followSilence.answering f rest .ok .nothing))

/-- R121: UNMUTE settled by the mode, the line and the latched flag. -/
def Claims.UnmuteIsSettledByModeAndLine : Prop :=
  ∀ (s : State) (t : Time) (f : Frame) (rest : List Frame), s.offers .unmute f rest → s.silenceExact →
    let u := s.upTo t
    (s.mixer.muteMode = .level → exec (.unmute t) s = .next (u.answering f rest .refusedState .nothing))
      ∧ (s.mixer.muteMode = .latch → s.pins.mute = true → exec (.unmute t) s = .next (u.answering f rest .busy .nothing))
      ∧ (s.mixer.muteMode = .latch → s.pins.mute = false → s.mixer.latched = true →
          exec (.unmute t) s = .next
            ((({ u with mixer := { u.mixer with latched := false } } : State).notify
              (.mute false .latch false false)).followSilence.answering f rest .ok .nothing))
      ∧ (s.mixer.muteMode = .latch → s.pins.mute = false → s.mixer.latched = false →
          exec (.unmute t) s = .next (u.answering f rest .ok .nothing))

/-- R118, R120: a change of the plug detect line settles for 50 ms while detection is enabled; the settle timer's expiry seats
or empties the plug and sends PLUG; the mute line mutes in LEVEL, latches in LATCH, and sends MUTE when the mute begins or
ends. A line event that carries the level the line already has changes nothing (the model's choice, log 17), and a settle
timer that is not due does nothing (log 3). -/
def Claims.PlugAndMuteLinesAreFollowed : Prop :=
  ∀ (s : State) (t : Time) (a : Bool),
    let u := s.upTo t
    let plugged : State := { u with pins := { s.pins with plug := a } }
    let line : State := { u with pins := { s.pins with mute := a } }
    (s.pins.plug ≠ a → s.mixer.plugDetect = true → exec (.plugDetectChange t a) s = .next
        ({ plugged with mixer := { u.mixer with plug := .settling, plugTimer := some 50000 } } : State).followSilence.arbitrate)
      ∧ (s.pins.plug ≠ a → s.mixer.plugDetect = false → exec (.plugDetectChange t a) s = .next plugged.arbitrate)
      ∧ (∀ n, s.mixer.plugTimer = some n → n ≤ (t - s.clock).toNat →
          let p : PlugState := if s.pins.plug then .seated else .empty
          exec (.plugSettleTimer t) s = .next
            (({ u with mixer := { u.mixer with plug := p, plugTimer := none } } : State).notify
              (.plug p s.pins.plug s.mixer.plugDetect)).followSilence.arbitrate)
      ∧ (s.pins.mute ≠ a → s.mixer.muteMode = .level → exec (.muteLineChange t a) s = .next
          (line.notify (.mute a .level a s.mixer.latched)).followSilence.arbitrate)
      ∧ (s.pins.mute = false → a = true → s.mixer.muteMode = .latch → s.mixer.latched = false →
          exec (.muteLineChange t a) s = .next
            (({ line with mixer := { u.mixer with latched := true } } : State).notify
              (.mute true .latch true true)).followSilence.arbitrate)
      ∧ (s.pins.mute = false → a = true → s.mixer.muteMode = .latch → s.mixer.latched = true →
          exec (.muteLineChange t a) s = .next line.followSilence.arbitrate)
      ∧ (s.pins.mute = true → a = false → s.mixer.muteMode = .latch →
          exec (.muteLineChange t a) s = .next line.followSilence.arbitrate)
      ∧ (s.pins.plug = a → exec (.plugDetectChange t a) s = .next u.arbitrate)
      ∧ (s.pins.mute = a → exec (.muteLineChange t a) s = .next u.arbitrate)
      ∧ (∀ n, s.mixer.plugTimer = some n → (t - s.clock).toNat < n → exec (.plugSettleTimer t) s = .next u.arbitrate)

/-- R116, R118 to R121: the headphone settings, UNMUTE, the plug and mute lines (logs 3, 17, 53). -/
def Obligations.HeadphonePlugAndMute : Prop :=
  Claims.HeadphoneSettingsAreTaken ∧ Claims.UnmuteIsSettledByModeAndLine ∧ Claims.PlugAndMuteLinesAreFollowed

/-! ### Take store (08) -/

/-- R138, R139: TAKE_RENAME and TAKE_DELETE settled by the take. That a bad name on an EMPTY take is BAD_ARGUMENT ahead of
NOT_FOUND is DEDUCED (log 42). -/
def Claims.RenameAndDeleteFollowTheTakesState : Prop :=
  ∀ (s : State) (t : Time) (f : Frame) (rest : List Frame) (id : Nat) (name : List Byte),
    let u := s.upTo t
    let answer (st : Store) (x : Status) : Host.Outcome State Fault Refusal :=
      .next (({ u with store := st } : State).answering f rest x .nothing)
    let idOk := 1 ≤ id ∧ id ≤ 32
    let goodName := name.length ≤ 16 ∧ ∀ c ∈ name, 0x20 ≤ c.toNat ∧ c.toNat ≤ 0x7E
    let entry := (s.store.takes[id - 1]?).join
    (¬(idOk ∧ goodName) → s.offers .takeRename f rest → exec (.takeRename t id name) s = answer s.store .badArgument)
      ∧ (idOk → goodName → entry = none → s.offers .takeRename f rest →
          exec (.takeRename t id name) s = answer s.store .notFound)
      ∧ (idOk → goodName → ∀ tk, entry = some tk →
          let tk' : Take := { tk with name := if name = [] then none else some name }
          s.offers .takeRename f rest → exec (.takeRename t id name) s =
            answer { s.store with takes := s.store.takes.set (id - 1) (some tk') } .ok)
      ∧ (¬idOk → s.offers .takeDelete f rest → exec (.takeDelete t id) s = answer s.store .badArgument)
      ∧ (idOk → entry = none → s.offers .takeDelete f rest → exec (.takeDelete t id) s = answer s.store .notFound)
      ∧ (idOk → ∀ tk, entry = some tk → tk.phase ≠ .closed → s.offers .takeDelete f rest →
          exec (.takeDelete t id) s = answer s.store .busy)
      ∧ (idOk → ∀ tk, entry = some tk → tk.phase = .closed →
          tk.holders ≠ { player := false, slotA := false, slotB := false, download := false } →
          s.offers .takeDelete f rest → exec (.takeDelete t id) s = answer s.store .pinned)
      ∧ (idOk → ∀ tk, entry = some tk → tk.phase = .closed →
          tk.holders = { player := false, slotA := false, slotB := false, download := false } →
          s.offers .takeDelete f rest → exec (.takeDelete t id) s = answer { s.store with
            takes := s.store.takes.set (id - 1) none, pool := insertAll tk.blocks s.store.pool } .ok)

/-- R126: returning blocks to an ascending pool keeps it ascending and without duplicates, and adds those blocks and no other.
-/
def Claims.ReleasedBlocksReturnToThePool : Prop :=
  ∀ (bs pool : List Nat), pool.Pairwise (· < ·) →
    (insertAll bs pool).Pairwise (· < ·) ∧ ∀ n, n ∈ insertAll bs pool ↔ n ∈ bs ∨ n ∈ pool

/-- R126, R138, R139: TAKE_RENAME and TAKE_DELETE (log 42). -/
def Obligations.RenameAndDeleteAreSettledByTheTake : Prop :=
  Claims.RenameAndDeleteFollowTheTakesState ∧ Claims.ReleasedBlocksReturnToThePool

/-- R126, R140: UPLOAD_OPEN: its checks in order, and then the lowest free blocks are allocated, the take is LOADING and the
transfer record stands at its first index. -/
def Obligations.UploadOpenIsSettledInOrder : Prop :=
  ∀ (s : State) (t : Time) (f : Frame) (rest : List Frame) (id n : Nat) (name : List Byte), s.offers .uploadOpen f rest →
    let u := s.upTo t
    let answer (st : Store) (x : Status) : Host.Outcome State Fault Refusal :=
      .next (({ u with store := st } : State).answering f rest x .nothing)
    let good := 1 ≤ id ∧ id ≤ 32 ∧ 1 ≤ n ∧ n ≤ 2048 ∧ name.length ≤ 16 ∧ ∀ c ∈ name, 0x20 ≤ c.toNat ∧ c.toNat ≤ 0x7E
    let entry := (s.store.takes[id - 1]?).join
    (¬good → exec (.uploadOpen t id n name) s = answer s.store .badArgument)
      ∧ (good → s.store.transfer ≠ .none → exec (.uploadOpen t id n name) s = answer s.store .busy)
      ∧ (good → s.store.transfer = .none → ∀ tk, entry = some tk →
          exec (.uploadOpen t id n name) s = answer s.store (if tk.phase = .closed then .refusedState else .busy))
      ∧ (good → s.store.transfer = .none → entry = none → s.store.pool.length < n →
          exec (.uploadOpen t id n name) s = answer s.store .storeFull)
      ∧ (good → s.store.transfer = .none → entry = none → n ≤ s.store.pool.length →
          let tk : Take :=
            { phase := .loading, name := if name = [] then none else some name, origin := .uploaded, truncated := false
              blocks := s.store.pool.take n, count := 0, duration := 0, marks := 0
              holders := { player := false, slotA := false, slotB := false, download := false } }
          exec (.uploadOpen t id n name) s = answer
            { s.store with
              takes := s.store.takes.set (id - 1) (some tk), pool := s.store.pool.drop n, transfer := .upload id 0 n } .ok)

/-- R141: UPLOAD_BLOCK before the last: the 128 bytes, and no other byte of the store, are written into the block at the next
list index, which rises by one. -/
def Claims.UploadBlocksAreWrittenInOrder : Prop :=
  ∀ (s : State) (t : Time) (f : Frame) (rest : List Frame) (index : Nat) (data : List Byte), s.offers .uploadBlock f rest →
    let u := s.upTo t
    let same (x : Status) (c : Content) : Host.Outcome State Fault Refusal := .next (u.answering f rest x c)
    ((∀ id n r, s.store.transfer ≠ .upload id n r) → exec (.uploadBlock t index data) s = same .refusedState .nothing)
      ∧ ∀ id n r, s.store.transfer = .upload id n r →
        (index ≠ n → exec (.uploadBlock t index data) s = same .badSequence (.count n))
          ∧ ∀ tk b, index = n → 2 ≤ r → id ≠ 0 → s.store.takes[id - 1]? = some (some tk) → tk.blocks[n]? = some b →
              data.length = 128 → s.store.mem.wf storeByte = true →
              ∃ mem, exec (.uploadBlock t index data) s = .next (({ u with store := { s.store with
                    mem, transfer := .upload id (n + 1) (r - 1) } } : State).answering f rest .ok (.count (r - 1)))
                ∧ (∀ j, j < 128 → Memory.read storeByte mem (128 * b + j) = data.getD j 0)
                ∧ ∀ a, a < 128 * b ∨ 128 * b + 128 ≤ a → Memory.read storeByte mem a = Memory.read storeByte s.store.mem a

/-- R132: the last block of an upload: with the validation passed the take is CLOSED with END's numbers and the blocks after
END's are released; failed, the take is deleted; the transfer record is NONE either way. -/
def Claims.TheLastUploadBlockValidatesTheTake : Prop :=
  ∀ (s : State) (t : Time) (f : Frame) (rest : List Frame) (data : List Byte) (id n : Nat) (tk : Take),
    s.offers .uploadBlock f rest → s.store.transfer = .upload id n 1 → id ≠ 0 → s.store.takes[id - 1]? = some (some tk) →
    let u := s.upTo t
    let st : Store := { s.store with mem := s.store.mem.writeAll storeByte (128 * tk.blocks.getD n 0) data, transfer := .none }
    let answer (takes : List (Option Take)) (pool : List Nat) (x : Status) (c : Content) : Host.Outcome State Fault Refusal :=
      .next (({ u with store := { st with takes, pool } } : State).answering f rest x c)
    match st.validate tk with
    | .passed e duration marks =>
      let keep := e / 32 + 1
      let tk' : Take := { tk with
        phase := .closed, origin := .uploaded, truncated := false, blocks := tk.blocks.take keep, count := e + 1
        duration, marks }
      exec (.uploadBlock t n data) s = answer (s.store.takes.set (id - 1) (some tk'))
        (insertAll (tk.blocks.drop keep) s.store.pool) .ok (.takeClosed (min tk.blocks.length keep) (e + 1) duration marks)
    | .failed why p k =>
      exec (.uploadBlock t n data) s = answer (s.store.takes.set (id - 1) none) (insertAll tk.blocks s.store.pool)
        .takeInvalid (.takeInvalid why p k)

/-- R126, R131: a validation reads the records of the take's blocks in position order, from position 0 to the last record of
the last block: the record at position p is the one its block and its place in it hold. -/
def Claims.ValidationReadsTheBlocksInOrder : Prop :=
  ∀ (st : Store) (tk : Take),
    st.validate tk = Reading.run { opens := [], time := 0, marks := 0, ended := none } 0
      ((List.range (32 * tk.blocks.length)).map fun p => st.recordAt (128 * tk.blocks.getD (p / 32) 0 + 4 * (p % 32)))

/-- R126, R131, R132, R141: upload blocks, and what a validation reads. -/
def Obligations.UploadBlocksAreWrittenAndValidated : Prop :=
  Claims.UploadBlocksAreWrittenInOrder ∧ Claims.TheLastUploadBlockValidatesTheTake
    ∧ Claims.ValidationReadsTheBlocksInOrder

/-- R130: a take that passes validation has a single END, with only FILL after it, and is balanced: the NOTE_ON and NOTE_OFF
records of each key before END alternate, from a NOTE_ON to a NOTE_OFF. END's take time is the duration, and the MARKs are
counted. -/
def Claims.PassedTakesEndOnceAndAreBalanced : Prop :=
  ∀ (rs : List TakeRecord) (e d m : Nat),
    Reading.run { opens := [], time := 0, marks := 0, ended := none } 0 rs = .passed e d m →
      (∃ r, rs[e]? = some r ∧ r.body = .endTake) ∧ (∀ p r, rs[p]? = some r → r.body = .endTake → p = e)
        ∧ (∀ p r, e < p → rs[p]? = some r → r.body = .fill)
        ∧ (∀ k, ∃ n, ((rs.take e).filterMap fun r =>
              match r.body with
              | .noteOn k' _ => if k' = k then some true else none
              | .noteOff k' => if k' = k then some false else none
              | _ => none) = (List.replicate n [true, false]).flatten)
        ∧ d = ((rs.take (e + 1)).map TakeRecord.ticks).sum
        ∧ m = (rs.take e).countP fun r => match r.body with | .mark _ => true | _ => false

/-- R128, R131: a validation's failures. The checks are made on each record in position order, and the first record that fails
gives its position and the reason of the first check it fails, with the record's key or the lowest open one where the rule
gives one; without an END all records are read. A reading whose records pass every check, with an END, passes. A key is open
after its NOTE_ON until its NOTE_OFF; the take time of a record is the sum of the deltas and GAPs up to it. -/
def Claims.ReadingsFailAtTheirFirstBadRecord : Prop :=
  ∀ rs : List TakeRecord,
    let result := Reading.run { opens := [], time := 0, marks := 0, ended := none } 0 rs
    let time (p : Nat) : Nat := ((rs.take p).map fun r => r.delta + match r.body with | .gap a => a | _ => 0).sum
    let isOpen (p k : Nat) : Prop := ∃ j r v, j < p ∧ rs[j]? = some r ∧ r.body = .noteOn k v
      ∧ ∀ i x, j < i → i < p → rs[i]? = some x → x.body ≠ .noteOff k
    let kind (r : TakeRecord) : Prop := ∀ k, r.body ≠ .unknown k
    let order (p : Nat) (r : TakeRecord) : Prop := (∃ j x, j < p ∧ rs[j]? = some x ∧ x.body = .endTake) → r.body = .fill
    let range (r : TakeRecord) : Prop := r.delta ≤ 255 ∧
      match r.body with
      | .fill => r.hand ≤ 2 ∧ r.delta = 0
      | .noteOn k v => r.hand ≤ 2 ∧ k ≤ 87 ∧ 1 ≤ v ∧ v ≤ 127
      | .noteOff k => r.hand ≤ 2 ∧ k ≤ 87
      | .pedal p l => r.hand = 2 ∧ p ≤ 2 ∧ l ≤ 127 ∧ (p = 1 → l = 0 ∨ 64 ≤ l)
      | .mark n => r.hand = 2 ∧ 1 ≤ n ∧ n ≤ 255
      | .gap a => r.hand = 2 ∧ a ≤ 65535
      | .endTake => r.hand = 2
      | .unknown _ => False
    let notes (p : Nat) (r : TakeRecord) : Prop :=
      (∀ k v, r.body = .noteOn k v → ¬isOpen p k) ∧ ∀ k, r.body = .noteOff k → isOpen p k
    let short (p : Nat) : Prop := time (p + 1) ≤ 4294967295
    let closed (p : Nat) (r : TakeRecord) : Prop := r.body = .endTake → ∀ k, ¬isOpen p k
    let passes (p : Nat) : Prop :=
      ∀ r, rs[p]? = some r → kind r ∧ order p r ∧ range r ∧ notes p r ∧ short p ∧ closed p r
    (∀ p r, rs[p]? = some r → (∀ j, j < p → passes j) →
        let fails (why : InvalidReason) (key : Option Nat) : Prop := result = .failed why p key
        (¬kind r → fails .kind none)
          ∧ (kind r → ¬order p r → fails .afterEnd none)
          ∧ (kind r → order p r → ¬range r → fails .range none)
          ∧ (order p r → range r → ∀ k v, r.body = .noteOn k v → isOpen p k → fails .noteOpen (some k))
          ∧ (order p r → range r → ∀ k, r.body = .noteOff k → ¬isOpen p k → fails .noteNotOpen (some k))
          ∧ (order p r → range r → notes p r → ¬short p → fails .duration none)
          ∧ (order p r → range r → short p → r.body = .endTake → ∀ k, isOpen p k → (∀ j, isOpen p j → k ≤ j) →
              fails .openAtEnd (some k)))
      ∧ ((∀ p, passes p) → (∀ r ∈ rs, r.body ≠ .endTake) → result = .failed .noEnd rs.length none)
      ∧ ((∀ p, passes p) → ∀ e r, rs[e]? = some r → r.body = .endTake → ∃ d m, result = .passed e d m)

/-- R128, R130, R131: what a validation passes and what it fails. -/
def Obligations.ValidatedTakesEndOnceAndBalanced : Prop :=
  Claims.PassedTakesEndOnceAndAreBalanced ∧ Claims.ReadingsFailAtTheirFirstBadRecord

/-- R133, R142: DOWNLOAD_OPEN: its checks in order, and then the take is pinned by DOWNLOAD and the transfer record stands at
the first index. -/
def Claims.DownloadsOpenInOrder : Prop :=
  ∀ (s : State) (t : Time) (f : Frame) (rest : List Frame) (id first n : Nat), s.offers .downloadOpen f rest →
    let answer (st : Store) (x : Status) (c : Content) : Prop :=
      exec (.downloadOpen t id first n) s = .next (({ s.upTo t with store := st } : State).answering f rest x c)
    let good := 1 ≤ id ∧ id ≤ 32 ∧ 1 ≤ n ∧ n ≤ 2048
    let entry := (s.store.takes[id - 1]?).join
    (¬good → answer s.store .badArgument .nothing)
      ∧ (good → s.store.transfer ≠ .none → answer s.store .busy .nothing)
      ∧ (good → s.store.transfer = .none → entry = none → answer s.store .notFound .nothing)
      ∧ ∀ tk, good → s.store.transfer = .none → entry = some tk →
          (tk.phase ≠ .closed → answer s.store .refusedState .nothing)
            ∧ (tk.phase = .closed → tk.blocks.length < first + n → answer s.store .badArgument .nothing)
            ∧ (tk.phase = .closed → first + n ≤ tk.blocks.length →
                answer { s.store with
                    takes := s.store.takes.set (id - 1) (some { tk with holders := { tk.holders with download := true } })
                    transfer := .download id first n } .ok
                  (.downloadOpened tk.blocks.length tk.count tk.duration))

/-- R133, R142: DOWNLOAD_BLOCK hands out the open download's blocks in order, the last one unpinning the take; without a
download it is refused. -/
def Claims.DownloadBlocksAreHandedOut : Prop :=
  ∀ (s : State) (t : Time) (f : Frame) (rest : List Frame), s.offers .downloadBlock f rest →
    let answer (st : Store) (x : Status) (c : Content) : Prop :=
      exec (.downloadBlock t) s = .next (({ s.upTo t with store := st } : State).answering f rest x c)
    ((∀ id next r, s.store.transfer ≠ .download id next r) → answer s.store .refusedState .nothing)
      ∧ ∀ id next r tk b, s.store.transfer = .download id next r → 1 ≤ id → s.store.takes[id - 1]? = some (some tk) →
          tk.blocks[next]? = some b →
          answer (if r ≤ 1 then { s.store with
                takes := s.store.takes.set (id - 1) (some { tk with holders := { tk.holders with download := false } })
                transfer := .none }
              else { s.store with transfer := .download id (next + 1) (r - 1) }) .ok
            (.block next (Memory.readAll storeByte s.store.mem (128 * b) 128) (r - 1))

/-- R143: TRANSFER_ABORT unpins a download's take, deletes an upload's with all its blocks, and is refused without a transfer.
-/
def Claims.AbortsEndTheTransfer : Prop :=
  ∀ (s : State) (t : Time) (f : Frame) (rest : List Frame), s.offers .transferAbort f rest →
    let answer (st : Store) (x : Status) : Prop :=
      exec (.transferAbort t) s = .next (({ s.upTo t with store := st } : State).answering f rest x .nothing)
    (s.store.transfer = .none → answer s.store .refusedState)
      ∧ ∀ id next r tk, 1 ≤ id → s.store.takes[id - 1]? = some (some tk) →
          (s.store.transfer = .download id next r → answer { s.store with
              takes := s.store.takes.set (id - 1) (some { tk with holders := { tk.holders with download := false } })
              transfer := .none } .ok)
            ∧ (s.store.transfer = .upload id next r → answer { s.store with
              takes := s.store.takes.set (id - 1) none, pool := insertAll tk.blocks s.store.pool, transfer := .none } .ok)

/-- R133, R142, R143: downloads, and the abort of a transfer. -/
def Obligations.DownloadsPinAndAbortsEnd : Prop :=
  Claims.DownloadsOpenInOrder ∧ Claims.DownloadBlocksAreHandedOut ∧ Claims.AbortsEndTheTransfer

/-! ### Recorder (09) -/

/-- R134, R146: REC_START: its arm mode, the Recorder's state, then the take, a bad id or name first; with room it opens the
take with its name, if one is given, and its reserve of four blocks, and ON_FIRST_KEY waits ARMED. -/
def Claims.RecStartOpensTheTake : Prop :=
  ∀ (s : State) (t : Time) (f : Frame) (rest : List Frame) (id : Nat) (arm : ArmMode) (name : List Byte),
    s.offers .recStart f rest →
    let u := s.upTo t
    let same (x : Status) : Host.Outcome State Fault Refusal := .next (u.answering f rest x .nothing)
    let entry := (s.store.takes[id - 1]?).join
    let tk : Take :=
      { phase := .recording, name := if name = [] then none else some name, origin := .recorded, truncated := false
        blocks := s.store.pool.take 4, count := 0, duration := 0, marks := 0
        holders := { player := false, slotA := false, slotB := false, download := false } }
    let open1 : State := { u with
      store := { s.store with takes := s.store.takes.set (id - 1) (some tk), pool := s.store.pool.drop 4 }
      recorder := { u.recorder with state := .armed, take := some id, clock := 0, last := 0, opens := [] } }
    let good := 1 ≤ id ∧ id ≤ 32 ∧ name.length ≤ 16 ∧ ∀ c ∈ name, 0x20 ≤ c.toNat ∧ c.toNat ≤ 0x7E
    (exec (.recStart t id none name) s = same .badArgument)
      ∧ (s.recorder.state ≠ .idle → exec (.recStart t id (some arm) name) s = same .busy)
      ∧ (s.recorder.state = .idle → ¬good → exec (.recStart t id (some arm) name) s = same .badArgument)
      ∧ (s.recorder.state = .idle → good → ∀ x, entry = some x →
          exec (.recStart t id (some arm) name) s = same (if x.phase = .closed then .refusedState else .busy))
      ∧ (s.recorder.state = .idle → good → entry = none → s.store.pool.length < 4 →
          exec (.recStart t id (some arm) name) s = same .storeFull)
      ∧ (s.recorder.state = .idle → good → entry = none → 4 ≤ s.store.pool.length →
          exec (.recStart t id (some .onFirstKey) name) s =
            .next (open1.answering f rest .ok (.recStarted id .onFirstKey)))
      ∧ (s.recorder.state = .idle → good → id ≤ s.store.takes.length → entry = none → 4 ≤ s.store.pool.length →
          ∃ v : State, exec (.recStart t id (some .immediate) name) s =
              .next (v.answering f rest .ok (.recStarted id .immediate))
            ∧ v = { u with
                recorder := { state := .recording, take := some id, clock := 0, last := 0, opens := [], left := 1000 }
                store := { s.store with
                  takes := s.store.takes.set (id - 1) (some { tk with count := 3 }), pool := s.store.pool.drop 4
                  mem := s.store.mem.writeAll storeByte (128 * s.store.pool.getD 0 0)
                    [0x38, 0, 0, BitVec.ofNat 8 s.pedals.context.damper,
                     0x38, 0, 1, if s.pedals.context.sostenuto then 127 else 0,
                     0x38, 0, 2, BitVec.ofNat 8 s.pedals.context.soft] } })

/-- R147, R150: REC_MARK in RECORDING, the last record at most 255 ticks ago and the reserve not touched: one MARK record is
written, with its delta, at the write position, and the reply carries its take time; otherwise it is refused without
change, a bad number ahead of the state (log 42). -/
def Claims.RecMarkWritesOneRecord : Prop :=
  ∀ (s : State) (t : Time) (f : Frame) (rest : List Frame) (n id : Nat) (tk : Take), s.offers .recMark f rest →
    let u := s.upTo t
    let d := s.recorder.clock - s.recorder.last
    (n = 0 ∨ 255 < n → exec (.recMark t n) s = .next (u.answering f rest .badArgument .nothing))
      ∧ (1 ≤ n → n ≤ 255 → s.recorder.state ≠ .recording →
          exec (.recMark t n) s = .next (u.answering f rest .refusedState .nothing))
      ∧ (1 ≤ n → n ≤ 255 → s.recorder.state = .recording → s.recorder.take = some id → 1 ≤ id →
          s.store.takes[id - 1]? = some (some tk) → d ≤ 255 → 4 + (tk.count + 1) / 32 ≤ tk.blocks.length →
          let tk' : Take := { tk with count := tk.count + 1, duration := s.recorder.last + d, marks := tk.marks + 1 }
          let a := 128 * tk.blocks.getD (tk.count / 32) 0 + 4 * (tk.count % 32)
          exec (.recMark t n) s = .next (({ u with
            store := { s.store with
              takes := s.store.takes.set (id - 1) (some tk')
              mem := s.store.mem.writeAll storeByte a [0x48, BitVec.ofNat 8 d, BitVec.ofNat 8 n, 0] }
            recorder := { u.recorder with last := s.recorder.last + d } } : State).answering f rest .ok
              (.markTime s.recorder.clock)))

/-- R147: the take clock rises by one each millisecond of RECORDING, to its greatest value, and stands in every other state. -/
def Claims.TheTakeClockRisesInRecording : Prop :=
  ∀ (s : State) (t : Time),
    let u := s.upTo t
    (s.recorder.state = .recording → s.recorder.left ≤ (t - s.clock).toNat →
        exec (.recTakeClockTick t) s = .next (State.arbitrate { u with recorder := { s.recorder with
          clock := if s.recorder.clock < 4294967295 then s.recorder.clock + 1 else s.recorder.clock, left := 1000 } }))
      ∧ (s.recorder.state ≠ .recording → exec (.recTakeClockTick t) s = .next u.arbitrate)

/-- R148, R149: what a live event makes of the take being recorded. IDLE, PAUSED, and in ARMED anything but a NOTE_ON:
nothing. The first NOTE_ON in ARMED: recording begins, with the three PEDAL records and the NOTE_ON at take time 0, and
FIRST_KEY is sent after them, with their count (DEDUCED, log 34). In RECORDING: the records of R149 at the take clock's time.
A failed ask closes the take. -/
def Claims.LiveEventsAreRecorded : Prop :=
  ∀ (s : State) (e : LiveEvent),
    let begun : State := { s with recorder := { s.recorder with state := .recording, clock := 0, left := 1000 } }
    let rs : List (RecordBody × Hand) :=
      match e.body with
      | .noteOn k v _ _ =>
        match s.recorder.opens.find? (·.1 == k) with
        | some o => [(.noteOff k, o.2), (.noteOn k v, e.hand)]
        | none => [(.noteOn k v, e.hand)]
      | .noteOff k _ => if s.recorder.opens.any (·.1 == k) then [(.noteOff k, e.hand)] else []
      | .pedal p l => [(.pedal (match p with | .damper => 0 | .sostenuto => 1 | .soft => 2) l, .none)]
    let w := s.writes (timedRecords (s.recorder.clock - s.recorder.last) rs)
    (s.recorder.state = .idle ∨ s.recorder.state = .paused → s.recordEvent e = s)
      ∧ (s.recorder.state = .armed → (∀ k v b q, e.body ≠ .noteOn k v b q) → s.recordEvent e = s)
      ∧ (∀ id tk k v b q, s.records id tk → s.recorder.state = .armed → e.body = .noteOn k v b q →
          let w := begun.writes (stamped 0 (pedalRecords s.pedals.context ++ [(.noteOn k v, e.hand)]))
          (w.2 = false → s.recordEvent e = w.1.storeExhausted)
            ∧ (w.2 = true → ∃ tk', w.1.store.takes[id - 1]? = some (some tk')
                ∧ s.recordEvent e = w.1.notify
                    (.recorderState .recording id .firstKey tk'.count tk'.duration tk'.truncated)))
      ∧ (∀ id tk, s.records id tk → s.recorder.state = .recording → s.recordEvent e = if w.2 then w.1 else w.1.storeExhausted)

/-- R134, R146 to R149: REC_START, the take clock, and the live events recorded (log 34). -/
def Obligations.RecStartAndTheTakeClock : Prop :=
  Claims.RecStartOpensTheTake ∧ Claims.TheTakeClockRisesInRecording ∧ Claims.LiveEventsAreRecorded

/-- R129, R135, R149, R151: one record is written at the write position, with its count, take time, MARKs and open-note set;
then, when the reserve holds fewer than four blocks, the lowest block of the pool is appended, or the ask fails. -/
def Claims.OneRecordIsWritten : Prop :=
  ∀ (s : State) (id : Nat) (tk : Take) (body : RecordBody) (h : Hand) (delta : Nat), s.records id tk →
    let r : TakeRecord := { body, hand := match h with | .left => 0 | .right => 1 | .none => 2, delta }
    let time := s.recorder.last + (delta + match body with | .gap a => a | _ => 0)
    let tk1 : Take := { tk with
      count := tk.count + 1, duration := time, marks := match body with | .mark _ => tk.marks + 1 | _ => tk.marks }
    let a := 128 * tk.blocks.getD (tk.count / 32) 0 + 4 * (tk.count % 32)
    let opens := match body with
      | .noteOn k _ => insertOpen k h s.recorder.opens
      | .noteOff k => s.recorder.opens.filter (·.1 != k)
      | _ => s.recorder.opens
    let put (x : Take) (pool : List Nat) : State := { s with
      store := { s.store with
        takes := s.store.takes.set (id - 1) (some x), pool, mem := s.store.mem.writeAll storeByte a r.bytes }
      recorder := { s.recorder with last := time, opens } }
    (4 + (tk.count + 1) / 32 ≤ tk.blocks.length → s.emit body h delta = (put tk1 s.store.pool, true))
      ∧ (tk.blocks.length < 4 + (tk.count + 1) / 32 → s.store.pool = [] →
          s.emit body h delta = (put tk1 s.store.pool, false))
      ∧ (∀ b bs, tk.blocks.length < 4 + (tk.count + 1) / 32 → s.store.pool = b :: bs →
          s.emit body h delta = (put { tk1 with blocks := tk.blocks ++ [b] } bs, true))

/-- R149: the open-note set stays in ascending key index without duplicates: a NOTE_ON's key joins it with its hand. -/
def Claims.TheOpenNoteSetStaysAscending : Prop :=
  ∀ (k : Nat) (h : Hand) (es : List (Nat × Hand)), es.Pairwise (fun x y => x.1 < y.1) →
    (insertOpen k h es).Pairwise (fun x y => x.1 < y.1)
      ∧ ((∀ e ∈ es, e.1 ≠ k) → ∀ e, e ∈ insertOpen k h es ↔ e = (k, h) ∨ e ∈ es)

/-- R151: the writing of records touches the one take and the Recorder's last take time and open-note set, and while the reserve
lasts no ask is made. -/
def Claims.WritingTouchesOneTake : Prop :=
  ∀ (s : State) (id : Nat) (tk : Take) (rs : List (RecordBody × Hand × Nat)), s.records id tk →
    let v := (s.writes rs).1
    (∃ tk', v.store.takes = s.store.takes.set (id - 1) (some tk') ∧ tk'.phase = tk.phase ∧ tk'.truncated = tk.truncated
        ∧ tk'.holders = tk.holders ∧ tk'.name = tk.name)
      ∧ v = { s with
          store := { s.store with takes := v.store.takes, pool := v.store.pool, mem := v.store.mem }
          recorder := { s.recorder with last := v.recorder.last, opens := v.recorder.opens } }
      ∧ (4 + (tk.count + rs.length) / 32 ≤ tk.blocks.length →
          (s.writes rs).2 = true ∧ v.store.pool = s.store.pool
            ∧ ∃ tk', v.store.takes[id - 1]? = some (some tk') ∧ tk'.count = tk.count + rs.length ∧ tk'.blocks = tk.blocks)

/-- R136, R151, R154: a close: the GAP records of the time since the last record, a NOTE_OFF for every open key, END, FILL to
the end of END's block, the blocks after it released, the take CLOSED with its flag, the Recorder IDLE. After a failed ask no
further GAP is written, the time not carried is dropped, and the flag is set. In PAUSED too END takes its delta from the take
time (DEDUCED, log 54). A failed ask outside a close sends STORE_FULL. -/
def Claims.ClosingATakeEndsIt : Prop :=
  ∀ (s : State) (id : Nat) (tk : Take) (cut : Bool), s.records id tk →
    let d := s.recorder.clock - s.recorder.last
    let g := s.writes (gapsFor d)
    let y := g.1.writesOn (stamped (if g.2 then leftAfterGaps d else 0) (noteOffs s.recorder.opens ++ [(.endTake, .none)]))
    ∃ tk', y.1.store.takes[id - 1]? = some (some tk')
      ∧ (let keep := (tk'.count - 1) / 32 + 1
         let closed (flag : Bool) : Take := { tk' with phase := .closed, truncated := flag, blocks := tk'.blocks.take keep }
         let c (flag : Bool) : State := { y.1 with
           store := { y.1.store with
             takes := y.1.store.takes.set (id - 1) (some (closed flag))
             pool := insertAll (tk'.blocks.drop keep) y.1.store.pool
             mem := y.1.store.mem.writeAll storeByte (128 * tk'.blocks.getD (tk'.count / 32) 0 + 4 * (tk'.count % 32))
               (List.replicate ((32 - tk'.count % 32) % 32) [0x08, 0, 0, 0]).flatten }
           recorder := { y.1.recorder with state := .idle, take := none, clock := 0, opens := [] } }
         s.closeRecording cut = c (cut || !(g.2 && y.2))
           ∧ s.storeExhausted =
              (c true).notify (.recorderState .idle id .storeFull tk'.count tk'.duration true))

/-- R147, R150, R151: REC_MARK whatever the time and the room: its GAP records and the MARK, or the close with STORE_FULL. -/
def Claims.RecMarkIsDoneOrFindsTheStoreFull : Prop :=
  ∀ (s : State) (t : Time) (f : Frame) (rest : List Frame) (n id : Nat) (tk : Take), s.offers .recMark f rest → s.records id tk →
    1 ≤ n → n ≤ 255 → s.recorder.state = .recording →
    let w := (s.upTo t).writes (timedRecords (s.recorder.clock - s.recorder.last) [(.mark n, .none)])
    (w.2 = true → exec (.recMark t n) s = .next (w.1.answering f rest .ok (.markTime s.recorder.clock)))
      ∧ (w.2 = false → ∃ tk', w.1.storeExhausted.store.takes[id - 1]? = some (some tk')
          ∧ exec (.recMark t n) s = .next (w.1.storeExhausted.answering f rest .storeFull (.count tk'.count)))

/-- R152 to R154: REC_PAUSE writes a NOTE_OFF for every open key at the current take time and stands PAUSED; REC_RESUME writes
the three PEDAL records with delta 0, after the GAP records its time calls for (log 28), and goes on RECORDING; REC_STOP
closes the take and sends STOPPED. A failed ask of the first two closes the take and answers STORE_FULL. A Recorder in another
state refuses them. -/
def Claims.PauseResumeAndStopEndTheirNotes : Prop :=
  ∀ (s : State) (t : Time) (f : Frame) (rest : List Frame) (id : Nat) (tk : Take), s.records id tk →
    let u := s.upTo t
    let d := s.recorder.clock - s.recorder.last
    let full (c : Instr) (v : State) : Prop := ∃ tk', v.storeExhausted.store.takes[id - 1]? = some (some tk')
      ∧ exec c s = .next (v.storeExhausted.answering f rest .storeFull (.count tk'.count))
    let paused := u.writes (timedRecords d (noteOffs s.recorder.opens))
    let resumed := u.writes (gapsFor d ++ stamped 0 (pedalRecords s.pedals.context))
    let c := u.closeRecording false
    (s.recorder.state = .recording → s.offers .recPause f rest →
        (paused.2 = true → exec (.recPause t) s =
            .next (({ paused.1 with recorder := { paused.1.recorder with state := .paused } } : State).answering f rest .ok
              (.count s.recorder.opens.length)) ∧ paused.1.recorder.opens = [])
          ∧ (paused.2 = false → full (.recPause t) paused.1))
      ∧ (s.recorder.state = .paused → s.offers .recResume f rest →
          (resumed.2 = true → exec (.recResume t) s =
              .next (({ resumed.1 with recorder := { resumed.1.recorder with state := .recording, left := 1000 } }
                : State).answering f rest .ok .nothing))
            ∧ (resumed.2 = false → full (.recResume t) resumed.1))
      ∧ (s.recorder.state ≠ .idle → s.offers .recStop f rest → ∃ tk', c.store.takes[id - 1]? = some (some tk')
          ∧ exec (.recStop t) s = .next
            ((c.notify (.recorderState .idle id .stopped tk'.count tk'.duration tk'.truncated)).answering f rest .ok
              (.recClosed id tk'.count tk'.duration tk'.truncated)))

/-- R152 to R154: REC_PAUSE, REC_RESUME and REC_STOP in a state that does not take them are refused without change. -/
def Claims.PauseResumeAndStopAreRefused : Prop :=
  ∀ (s : State) (t : Time) (f : Frame) (rest : List Frame),
    let refused (q : Request) (c : Instr) : Prop := s.offers q f rest →
      exec c s = .next ((s.upTo t).answering f rest .refusedState .nothing)
    (s.recorder.state ≠ .recording → refused .recPause (.recPause t))
      ∧ (s.recorder.state ≠ .paused → refused .recResume (.recResume t))
      ∧ (s.recorder.state = .idle → refused .recStop (.recStop t))

/-- R129, R135, R136, R147, R149 to R154: the Recorder's records, REC_MARK, REC_PAUSE, REC_RESUME and REC_STOP. -/
def Obligations.RecordingRequestsWriteTheirRecords : Prop :=
  Claims.RecMarkWritesOneRecord ∧ Claims.OneRecordIsWritten ∧ Claims.TheOpenNoteSetStaysAscending
    ∧ Claims.WritingTouchesOneTake ∧ Claims.ClosingATakeEndsIt ∧ Claims.RecMarkIsDoneOrFindsTheStoreFull
    ∧ Claims.PauseResumeAndStopEndTheirNotes ∧ Claims.PauseResumeAndStopAreRefused

/-! ### Practice player (10) -/

/-- R128, R161 to R163: PLAY_START: its checks in order, a part that is none of the three among the first; the marks it names
must lie in the take, the to mark after the first of the from mark. Then the take is pinned, the settings are taken, and the
player enters CUEING with STARTED, to read the records up to the from mark's, 50 µs for each 32 begun. (The position, the
clock and the cue's time: log 30.) -/
def Obligations.PlayStartPinsAndCues : Prop :=
  ∀ (s : State) (t : Time) (f : Frame) (rest : List Frame) (id loops tempo : Nat) (x y : Option Nat) (p : Parts) (b : Bool),
    s.offers .playStart f rest →
    let u := s.upTo t
    let start : Instr :=
      .playStart t id x y loops tempo { left := some p.left, right := some p.right, noHand := some p.noHand } b
    let same (c : Instr) (a : Status) : Prop := exec c s = .next (u.answering f rest a .nothing)
    let good := 1 ≤ id ∧ id ≤ 32 ∧ loops ≤ 255 ∧ 25 ≤ tempo ∧ tempo ≤ 200
      ∧ (∀ n, x = some n → 1 ≤ n ∧ n ≤ 255) ∧ ∀ n, y = some n → 1 ≤ n ∧ n ≤ 255
    let repeats : Repeats := if loops = 0 then .endless else .times (loops - 1)
    let entry := (s.store.takes[id - 1]?).join
    (∀ a : PartsArg, a.left = none ∨ a.right = none ∨ a.noHand = none →
        same (.playStart t id x y loops tempo a b) .badArgument)
      ∧ (¬good → same start .badArgument)
      ∧ (good → s.player.state ≠ .idle → same start .busy)
      ∧ (good → s.player.state = .idle → (∀ tk, entry = some tk → tk.phase ≠ .closed) → same start .refusedState)
      ∧ (good → s.player.state = .idle → ∀ tk, entry = some tk → tk.phase = .closed →
          let markAt (n q : Nat) : Prop := q < tk.count
            ∧ (s.store.recordAt (128 * tk.blocks.getD (q / 32) 0 + 4 * (q % 32))).body = .mark n
          let first (n q : Nat) : Prop := markAt n q ∧ ∀ j, j < q → ¬markAt n j
          let found := (∀ n, x = some n → ∃ q, first n q)
            ∧ ∀ n, y = some n → ∃ q, markAt n q ∧ ∀ m j, x = some m → first m j → j < q
          (¬found → same start .notFound)
            ∧ (found → ∀ read, (x = none → read = 0) → (∀ m j, x = some m → first m j → read = j + 1) →
              exec start s = .next
                ((({ u with
                  store := { s.store with
                    takes := s.store.takes.set (id - 1) (some { tk with holders := { tk.holders with player := true } }) }
                  player := { u.player with
                    state := .cueing, take := some id, fromMark := x, toMark := y, tempo, parts := p, reportMarks := b
                    repeats, staged := none, halt := none, mark := none, waitPending := false, openNotes := [], expected := []
                    pos := 0, clock := 0, resume := none, cueLeft := 50 * ((read + 31) / 32) } } : State).notify
                      (.playerState .cueing .started (some id) 0 none repeats)).answering f rest .ok .nothing)))

/-- R164, R173: with no record due and nothing expected, the player goes on at once: PLAY_CONTINUE and the end of a cue without
marks enter PLAYING with a tick interval of 100,000 / P µs, and a tick moves the take clock by one and starts the next
interval with the fraction carried. -/
def Obligations.ThePlayerTicksOn : Prop :=
  ∀ (s : State) (t : Time) (f : Frame) (rest : List Frame),
    let u := s.upTo t
    let p := s.player
    let n := 100000 * p.carry.den + p.carry.num * p.tempo
    let d := p.tempo * p.carry.den
    let frac : Frac := { num := n % d / Nat.gcd (n % d) d, den := d / Nat.gcd (n % d) d }
    (s.offers .playContinue f rest → p.state = .paused → p.expected = [] → s.dueRecords = [] →
        exec (.playContinue t) s = .next
          ((({ u with player := { u.player with
            state := .playing, waitPending := false, tickLeft := some (n / d), carry := frac } } : State).notify
              (.playerState .playing .continued p.take p.clock p.mark p.repeats)).answering f rest .ok .nothing))
      ∧ (∀ k, p.state = .playing → p.tickLeft = some k → k ≤ (t - s.clock).toNat → p.expected = [] →
          ({ s with player := { p with clock := p.clock + 1 } } : State).dueRecords = [] →
          exec (.playerTick t) s = .next (State.arbitrate { u with player := { u.player with
            clock := p.clock + 1, tickStart := p.pos, tickLeft := some (n / d), carry := frac } }))
      ∧ (p.state = .cueing → p.cueLeft ≤ (t - s.clock).toNat → p.fromMark = none → p.resume = none →
          p.context = PedalContext.clear → p.expected = [] →
          ({ s with player := { p with pos := 0, clock := 0 } } : State).dueRecords = [] →
          exec (.cueDone t) s = .next (State.arbitrate
            (let v := ({ u with player := { u.player with
                snapshot := { damper := 0, sostenuto := false, soft := 0 }, loopPos := 0, loopTime := 0, pos := 0, clock := 0
                mark := none, tickStart := 0 } } : State).notify (.playerState .playing .cued p.take 0 none p.repeats)
             { v with player := { v.player with state := .playing, tickLeft := some (n / d), carry := frac } })))

/-- R166: a note acts by the part of its hand: a SOUND NOTE_ON sounds and opens its key, a MUTE one does nothing, a PRACTICE one
is offered to the expected set (R175), where a key too many is a miss; a NOTE_OFF releases an open key. -/
def Claims.RecordsActByTheirKindAndPart : Prop :=
  ∀ (s : State) (k v : Nat),
    s.handleOn k v .mute = s
      ∧ (let s' := s.noteOn .playback k v
         s.handleOn k v .sound =
           { s' with player := { s'.player with openNotes := insertNat k s'.player.openNotes } })
      ∧ (k ∈ s.player.expected → s.handleOn k v .practice = s)
      ∧ (k ∉ s.player.expected → s.player.expected.length < 16 →
          s.handleOn k v .practice = { s with player := { s.player with expected := insertNat k s.player.expected } })
      ∧ (k ∉ s.player.expected → 16 ≤ s.player.expected.length → s.player.misses < 65535 →
          s.handleOn k v .practice =
            ({ s with player := { s.player with misses := s.player.misses + 1 } } : State).tally .waitMisses)
      ∧ (k ∉ s.player.openNotes → s.handleOff k = s)
      ∧ (k ∈ s.player.openNotes →
          let s' := s.noteOff .playback k
          s.handleOff k = { s' with player := { s'.player with openNotes := s'.player.openNotes.filter (· != k) } })

/-- R163, R170, R171: a value of the playback pedal context, with a pedal change claim for each pedal that differs from before
and one for SOSTENUTO when its set was emptied; and the release of every open playback note, in ascending key index. -/
def Claims.ContextChangesClaimAndNotesAreReleased : Prop :=
  ∀ (s : State) (c : PedalContext) (emptied : Bool),
    let old := s.player.context
    let v0 : State := { s with player := { s.player with context := c } }
    let v1 := if old.damper ≠ c.damper then v0.pedalClaim .playback else v0
    let v2 := if old.sostenuto ≠ c.sostenuto ∨ emptied = true then v1.pedalClaim .playback else v1
    let v3 := if old.soft ≠ c.soft then v2.pedalClaim .playback else v2
    let released := s.player.openNotes.foldl (fun x k => x.noteOff .playback k) s
    s.setContext c emptied = v3
      ∧ s.releaseOpen = { released with player := { released.player with openNotes := [] } }

/-- R166, R168, R170: a record handled, the position past it: a note by the part of its hand, a PEDAL record into the playback
context, a MARK with its staged tempo, loop end and halt, END, and the records passed over. -/
def Claims.RecordsAreHandledByTheirKind : Prop :=
  ∀ (s0 : State) (x : Timed) (jumped : Bool),
    let s : State := { s0 with player := { s0.player with pos := x.pos + 1 } }
    let q := s.player
    let c := q.context
    let loops := (q.repeats = .endless ∨ ∃ n, q.repeats = .times (n + 1)) ∧ jumped = false
    (∀ k v, x.record.body = .noteOn k v →
        (x.record.hand = 0 → s0.handleRecord x jumped = (s.handleOn k v q.parts.left, .next))
          ∧ (x.record.hand = 1 → s0.handleRecord x jumped = (s.handleOn k v q.parts.right, .next))
          ∧ (x.record.hand = 2 → s0.handleRecord x jumped = (s.handleOn k v q.parts.noHand, .next)))
      ∧ (∀ k, x.record.body = .noteOff k → s0.handleRecord x jumped = (s.handleOff k, .next))
      ∧ (∀ l, x.record.body = .pedal 0 l → s0.handleRecord x jumped = (s.setContext { c with damper := l } false, .next))
      ∧ (∀ l, x.record.body = .pedal 2 l → s0.handleRecord x jumped = (s.setContext { c with soft := l } false, .next))
      ∧ (∀ l, x.record.body = .pedal 1 l →
          (64 ≤ l → c.sostenuto = false →
              s0.handleRecord x jumped = (s.setContext { c with sostenuto := true, set := q.openNotes } false, .next))
            ∧ (l < 64 → c.sostenuto = true →
              s0.handleRecord x jumped = (s.setContext { c with sostenuto := false, set := [] } false, .next))
            ∧ ((64 ≤ l ↔ c.sostenuto = true) → s0.handleRecord x jumped = (s, .next)))
      ∧ (∀ n, x.record.body = .mark n →
          let m : State := { s with player := { q with mark := some n, tempo := q.staged.getD q.tempo, staged := none } }
          let v := if q.reportMarks = true then m.notify (.playerMark n x.time q.repeats) else m
          let clear (z : State) : State := { z with player := { z.player with halt := none } }
          let halts (z : State) (go : Go) : State × Go :=
            match q.halt with
            | none => (z, go)
            | some .stop => (z.endTake .stopped, .stop)
            | some .pause => ((clear z).pausePlay, .stop)
          (q.toMark ≠ some n → s0.handleRecord x jumped = halts v .next)
            ∧ (q.toMark = some n → loops → s0.handleRecord x jumped = halts v.loopJump .jump)
            ∧ (q.toMark = some n → ¬loops → s0.handleRecord x jumped = (v.endTake .ended, .stop)))
      ∧ (x.record.body = .endTake →
          (q.toMark = none → loops → s0.handleRecord x jumped = (s.loopJump, .jump))
            ∧ (q.toMark = none → ¬loops → s0.handleRecord x jumped = (s.endTake .ended, .stop))
            ∧ (q.toMark ≠ none → s0.handleRecord x jumped = (s.endTake .ended, .stop)))
      ∧ (x.record.body = .fill ∨ (∃ a, x.record.body = .gap a) → s0.handleRecord x jumped = (s, .next))

/-- R170 to R172: a loop jump goes back to the loop start under the snapshot; the end of a take clears the context, drops the
wait, the staged tempo and the halt, and unpins the take; a pause stops the ticks and keeps the wait. Each releases every open
note first, and the last two send PLAYER_STATE. -/
def Claims.LoopsEndsAndPauses : Prop :=
  ∀ (s : State) (id : Nat) (tk : Take) (why : PlayReason), s.plays id tk →
    let q := s.player
    let r := s.releaseOpen
    let c := r.setContext PedalContext.clear false
    let j := r.setContext { damper := q.snapshot.damper, sostenuto := q.snapshot.sostenuto, soft := q.snapshot.soft, set := [] }
      (!q.context.set.isEmpty)
    s.loopJump = { j with player := { j.player with
        pos := q.loopPos, clock := q.loopTime, tickStart := q.loopPos, mark := q.fromMark
        repeats := match q.repeats with | .endless => .endless | .times n => .times (n - 1) } }
      ∧ s.endTake why = ({ c with
          store := { c.store with
            takes := s.store.takes.set (id - 1) (some { tk with holders := { tk.holders with player := false } }) }
          player := { c.player with
            state := .idle, take := none, expected := [], recent := [], waitPending := false, hits := 0, misses := 0, wrong := 0
            waitTimer := none, waitSpent := 0, tickLeft := none, carry := { num := 0, den := 1 }, staged := none, halt := none
            cueLeft := 0, resume := none } } : State).notify (.playerState .idle why (some id) q.clock q.mark q.repeats)
      ∧ s.pausePlay = ({ r with player := { r.player with
          state := .paused, tickLeft := none, carry := { num := 0, den := 1 }, waitTimer := none
          waitPending := !q.expected.isEmpty } } : State).notify (.playerState .paused .paused (some id) q.clock q.mark q.repeats)

/-- R128, R133, R164, R170: the records of the take being played stand at their take times; those from the position on up to the
take clock are due, and are handled in order; a loop jump is followed by those due at the loop start, in which a second jump
cannot be made; then the wait test is made, unless the take ended or paused. A tick and an entry to PLAYING do so. -/
def Claims.DueRecordsAreHandledInOrder : Prop :=
  (∀ (s : State) (id : Nat) (tk : Take), s.plays id tk →
      let r (p : Nat) : TakeRecord := s.store.recordAt (128 * tk.blocks.getD (p / 32) 0 + 4 * (p % 32))
      let ticks (p : Nat) : Nat := (r p).delta + match (r p).body with | .gap a => a | _ => 0
      s.playRecords.length = tk.count
        ∧ ∀ p, p < tk.count → s.playRecords[p]? =
            some { pos := p, record := r p, time := ((List.range (p + 1)).map ticks).sum })
    ∧ (∀ s : State, s.dueRecords = (s.playRecords.drop s.player.pos).takeWhile fun x => x.time ≤ s.player.clock)
    ∧ (∀ (s : State) (jumped : Bool) (x : Timed) (xs : List Timed),
        s.handleList jumped [] = (s, .next)
          ∧ ((s.handleRecord x jumped).2 = .next →
              s.handleList jumped (x :: xs) = (s.handleRecord x jumped).1.handleList jumped xs)
          ∧ ((s.handleRecord x jumped).2 ≠ .next → s.handleList jumped (x :: xs) = s.handleRecord x jumped))
    ∧ (∀ s : State,
        let a := s.handleList false s.dueRecords
        let b := a.1.handleList true a.1.dueRecords
        (a.2 = .next → s.handleAndTest = a.1.waitTest) ∧ (a.2 = .stop → s.handleAndTest = a.1)
          ∧ (a.2 = .jump → b.2 = .stop → s.handleAndTest = b.1)
          ∧ (a.2 = .jump → b.2 ≠ .stop → s.handleAndTest = b.1.waitTest)
          ∧ s.enterPlaying = ({ s with player := { s.player with state := .playing } } : State).handleAndTest)
    ∧ ∀ (s : State) (t : Time) (n : Nat), s.player.state = .playing → s.player.tickLeft = some n →
        n ≤ (t - s.clock).toNat →
        let u := s.upTo t
        exec (.playerTick t) s = .next (State.arbitrate (({ u with player := { u.player with
          clock := s.player.clock + 1, tickStart := s.player.pos } } : State).handleAndTest))

/-- R164, R175: the wait test: with nothing expected a new interval starts; otherwise each expected key, in ascending order,
takes the newest strike of it within the early window as a hit; when that empties the set the wait ends with duration 0 and
the player stays in PLAYING, and otherwise it enters WAITING with its timer. -/
def Claims.TheWaitTestMatchesEarlyStrikes : Prop :=
  ∀ s : State,
    let p := s.player
    let late (e : Nat × Time) : Prop := p.window * 1000 < (s.clock - e.2).toNat
    let goOn (q : Player) : Player :=
      let n := 100000 * q.carry.den + q.carry.num * q.tempo
      let d := q.tempo * q.carry.den
      { q with tickLeft := some (n / d), carry := { num := n % d / Nat.gcd (n % d) d, den := d / Nat.gcd (n % d) d } }
    let m := p.expected.foldl State.earlyMatchKey s
    (∀ k, (∀ e ∈ p.recent, e.1 = k → late e) → s.earlyMatchKey k = s)
      ∧ (∀ k i e, p.recent[i]? = some e → e.1 = k → ¬late e → (∀ j x, i < j → p.recent[j]? = some x → x.1 = k → late x) →
          p.hits < 65535 →
          s.earlyMatchKey k = ({ s with player := { p with
            expected := p.expected.filter (· != k), recent := p.recent.eraseIdx i, hits := p.hits + 1 } } : State).tally .waitHits)
      ∧ (p.expected = [] → s.waitTest = { s with player := goOn p })
      ∧ (p.expected ≠ [] → m.player.expected = [] →
          let z := ({ m with player := { m.player with
            hits := 0, misses := 0, wrong := 0, waitTimer := none, waitSpent := 0 } } : State).notify
              (.waitResult p.take p.clock p.mark m.player.hits m.player.misses m.player.wrong 0 .allStruck)
          s.waitTest = { z with player := goOn z.player })
      ∧ (p.expected ≠ [] → m.player.expected ≠ [] →
          s.waitTest = { m with player := { m.player with
            state := .waiting, tickLeft := none, carry := { num := 0, den := 1 }, waitStart := s.clock
            waitTimer := if p.timeout = 0 then none else some (p.timeout * 1000) } })

/-- R165, R167, R169, R177: the settings of a player: PLAY_TEMPO, PLAY_PARTS, the AT_MARK halts, and WAIT_CONFIG; in IDLE all
but the last are refused. A bad argument is refused ahead of the state (log 42). -/
def Claims.PlayerSettingsAreTaken : Prop :=
  ∀ (s : State) (t : Time) (f : Frame) (rest : List Frame) (n w o : Nat) (p : Parts),
    let u := s.upTo t
    let q := u.player
    let play (x : Player) : State := { u with player := x }
    let answer (v : State) (x : Status) (c : Content) : Host.Outcome State Fault Refusal := .next (v.answering f rest x c)
    let parts : PartsArg := { left := some p.left, right := some p.right, noHand := some p.noHand }
    let tempo := s.offers .playTempo f rest
    let part := s.offers .playParts f rest
    let stop := s.offers .playStop f rest
    let pause := s.offers .playPause f rest
    (∀ y, n < 25 ∨ 200 < n → tempo → exec (.playTempo t n y) s = answer u .badArgument .nothing)
      ∧ ((tempo → exec (.playTempo t n none) s = answer u .badArgument .nothing)
          ∧ (stop → exec (.playStop t none) s = answer u .badArgument .nothing)
          ∧ (pause → exec (.playPause t none) s = answer u .badArgument .nothing)
          ∧ ∀ a : PartsArg, a.left = none ∨ a.right = none ∨ a.noHand = none → part →
              exec (.playParts t a) s = answer u .badArgument .nothing)
      ∧ (25 ≤ n → n ≤ 200 → s.player.state ≠ .idle → tempo →
          exec (.playTempo t n (some .now)) s = answer (play { q with tempo := n }) .ok (.tempo n q.staged)
            ∧ exec (.playTempo t n (some .atMark)) s = answer (play { q with staged := some n }) .ok (.tempo q.tempo (some n)))
      ∧ (s.player.state ≠ .idle → p.left = .practice ∨ p.right = .practice ∨ p.noHand = .practice → part →
          exec (.playParts t parts) s = answer (play { q with parts := p }) .ok .nothing)
      ∧ (p.left ≠ .practice → p.right ≠ .practice → p.noHand ≠ .practice → part →
          let dropped : Player := { q with
            parts := p, expected := [], hits := 0, misses := 0, wrong := 0, waitTimer := none, waitSpent := 0, waitPending := false }
          (s.player.state = .cueing ∨ s.player.state = .playing ∨ s.player.state = .paused ∧ s.player.waitPending = false →
              exec (.playParts t parts) s = answer (play { q with parts := p }) .ok .nothing)
            ∧ (s.player.state = .paused → s.player.waitPending = true →
                exec (.playParts t parts) s = answer (play dropped) .ok .nothing)
            ∧ (s.player.state = .waiting →
                exec (.playParts t parts) s = answer (play dropped).enterPlaying .ok .nothing))
      ∧ (s.player.state ≠ .idle →
          (stop → exec (.playStop t (some .atMark)) s = answer (play { q with halt := some .stop }) .ok .nothing)
            ∧ (pause → exec (.playPause t (some .atMark)) s = answer (play { q with halt := some .pause }) .ok .nothing))
      ∧ (s.player.state = .cueing ∨ s.player.state = .paused → pause →
          exec (.playPause t (some .now)) s = answer u .refusedState .nothing)
      ∧ (s.player.state = .idle →
          (∀ x, (stop → exec (.playStop t (some x)) s = answer u .refusedState .nothing)
              ∧ (pause → exec (.playPause t (some x)) s = answer u .refusedState .nothing)
              ∧ (25 ≤ n → n ≤ 200 → tempo → exec (.playTempo t n (some x)) s = answer u .refusedState .nothing))
            ∧ (part → exec (.playParts t parts) s = answer u .refusedState .nothing)
            ∧ (s.offers .playContinue f rest → exec (.playContinue t) s = answer u .refusedState .nothing)
            ∧ ∀ x, s.offers .playSuspend f rest → exec (.playSuspend t (some x)) s = answer u .refusedState .nothing)
      ∧ (s.offers .waitConfig f rest → exec (.waitConfig t w o) s =
          (if w ≤ 500 ∧ o ≤ 60000 then answer (play { q with window := w, timeout := o }) .ok .nothing
           else answer u .badArgument .nothing))

/-- R171, R172: PLAY_STOP NOW ends the take: IDLE, every note released, the playback context cleared, the wait dropped, the take
unpinned. PLAY_PAUSE NOW pauses it: PAUSED, every note released, ticks and the wait timer stopped, the expected set kept
as wait-pending, the context kept. -/
def Claims.StoppingAndPausingPlay : Prop :=
  ∀ (s : State) (t : Time) (f : Frame) (rest : List Frame) (id : Nat) (tk : Take),
    s.player.state ≠ .idle → s.player.take = some id → 1 ≤ id → s.store.takes[id - 1]? = some (some tk) →
    (s.offers .playStop f rest → ∃ v : State, exec (.playStop t (some .now)) s = .next (v.answering f rest .ok .nothing)
        ∧ v.player.state = .idle ∧ v.player.take = none ∧ v.player.openNotes = [] ∧ v.player.context = PedalContext.clear
        ∧ v.player.expected = [] ∧ v.player.recent = [] ∧ v.player.waitPending = false ∧ v.player.waitTimer = none
        ∧ v.player.tickLeft = none ∧ v.player.staged = none ∧ v.player.halt = none
        ∧ v.player.hits = 0 ∧ v.player.misses = 0 ∧ v.player.wrong = 0
        ∧ v.store = { s.store with
            takes := s.store.takes.set (id - 1) (some { tk with holders := { tk.holders with player := false } }) }
        ∧ v.stats = (if s.link.notices.length < 16 then s.stats else (s.tally .noticesLost).stats)
        ∧ v.voices = ((s.upTo t).releaseOpen.setContext PedalContext.clear false).voices
        ∧ v = { s.upTo t with voices := v.voices, player := v.player, store := v.store, link := v.link, stats := v.stats })
      ∧ (s.player.state = .playing ∨ s.player.state = .waiting → s.offers .playPause f rest →
          ∃ v : State, exec (.playPause t (some .now)) s = .next (v.answering f rest .ok .nothing)
            ∧ v.player.state = .paused ∧ v.player.take = some id ∧ v.player.openNotes = []
            ∧ v.player.context = s.player.context ∧ v.player.expected = s.player.expected
            ∧ v.player.waitPending = !s.player.expected.isEmpty ∧ v.player.waitTimer = none ∧ v.player.tickLeft = none
            ∧ v.player.pos = s.player.pos ∧ v.player.clock = s.player.clock
            ∧ v.voices = (s.upTo t).releaseOpen.voices
            ∧ v = { s.upTo t with voices := v.voices, player := v.player, link := v.link, stats := v.stats })

/-- R173: PLAY_CONTINUE in PAUSED clears wait-pending, handles the records due and makes the wait test; CONTINUED is sent with
the state entered, unless one of those records ended or paused the take. The early match is made again, and one that empties
the set leaves PLAYING, which CONTINUED then carries (DEDUCED, log 31). In every other state it is refused. -/
def Claims.ContinuingPlay : Prop :=
  ∀ (s : State) (t : Time) (f : Frame) (rest : List Frame), s.offers .playContinue f rest →
    let u := s.upTo t
    let v := ({ u with player := { u.player with state := .playing, waitPending := false } } : State).handleAndTest
    (s.player.state ≠ .paused → exec (.playContinue t) s = .next (u.answering f rest .refusedState .nothing))
      ∧ (s.player.state = .paused → v.player.state = .playing ∨ v.player.state = .waiting →
          exec (.playContinue t) s = .next ((v.notify (.playerState v.player.state .continued v.player.take v.player.clock
            v.player.mark v.player.repeats)).answering f rest .ok .nothing))
      ∧ (s.player.state = .paused → v.player.state = .idle ∨ v.player.state = .paused →
          exec (.playContinue t) s = .next (v.answering f rest .ok .nothing))

/-- R165, R167, R169, R171, R172, R173, R177: the player's requests (logs 31, 42). -/
def Obligations.PlayerRequestsAreTaken : Prop :=
  Claims.PlayerSettingsAreTaken ∧ Claims.StoppingAndPausingPlay ∧ Claims.ContinuingPlay

/-- R174 to R177: a live strike is remembered while PLAYING, and in WAITING is a wrong note or, for an expected key, a hit; at
the wait timer's expiry each key still expected is a miss, and with no record due the player goes on PLAYING. -/
def Claims.StrikesAndTimeoutsJudgeTheWait : Prop :=
  ∀ (s : State) (k : Nat) (t : Time),
    (s.player.state = .playing →
        s.matchStrike k t = { s with player := { s.player with
          recent := (if 16 ≤ s.player.recent.length then s.player.recent.drop 1 else s.player.recent) ++ [(k, t)] } })
      ∧ (s.player.state = .waiting → k ∉ s.player.expected → s.player.wrong < 65535 →
          s.matchStrike k t =
            ({ s with player := { s.player with wrong := s.player.wrong + 1 } } : State).tally .waitWrong)
      ∧ (s.player.state = .waiting → k ∈ s.player.expected → (∃ j ∈ s.player.expected, j ≠ k) → s.player.hits < 65535 →
          s.matchStrike k t = ({ s with player := { s.player with
            expected := s.player.expected.filter (· != k), hits := s.player.hits + 1 } } : State).tally .waitHits)
      ∧ (s.player.state = .waiting → k ∈ s.player.expected → (∀ j ∈ s.player.expected, j = k) → s.player.hits < 65535 →
          s.matchStrike k t = ((({ s with player := { s.player with
            expected := [], hits := 0, misses := 0, wrong := 0, waitTimer := none, waitSpent := 0 } } : State).tally
              .waitHits).notify (.waitResult s.player.take s.player.clock s.player.mark (s.player.hits + 1) s.player.misses
                s.player.wrong (s.player.waitSpent / 1000) .allStruck)).enterPlaying)
      ∧ (∀ n, s.player.state = .waiting → s.player.waitTimer = some n → n ≤ (t - s.clock).toNat → s.dueRecords = [] →
          s.stats.length = 27 → s.link.readyPlace = none →
          ∃ s', exec (.waitTimer t) s = .next s' ∧ s'.player.state = .playing ∧ s'.player.expected = []
            ∧ s'.player.waitTimer = none ∧ s'.player.hits = 0 ∧ s'.player.misses = 0 ∧ s'.player.wrong = 0
            ∧ s'.stat .waitMisses = s.stat .waitMisses + BitVec.ofNat 24 s.player.expected.length
            ∧ s' = { s.upTo t with player := s'.player, link := s'.link, stats := s'.stats, packer := s'.packer })

/-- R128, R133, R163, R164, R166, R168, R170 to R172, R174 to R177: records, loops, ends, pauses, strikes and the wait timer. -/
def Obligations.RecordsAndStrikesArePlayed : Prop :=
  Claims.RecordsActByTheirKindAndPart ∧ Claims.ContextChangesClaimAndNotesAreReleased ∧ Claims.RecordsAreHandledByTheirKind
    ∧ Claims.LoopsEndsAndPauses ∧ Claims.DueRecordsAreHandledInOrder ∧ Claims.TheWaitTestMatchesEarlyStrikes
    ∧ Claims.StrikesAndTimeoutsJudgeTheWait

/-- R178, R179: PLAY_SUSPEND saves the whole context in an empty slot, moves the pin to it, releases the notes, clears the
playback context and leaves the player IDLE; PLAY_RESUME restores every item into CUEING and moves the pin back, showing the
saved place at once and reading for 50 µs each 32 records begun (DESIGN CHOICE, log 30); SLOT_DISCARD
empties the slot and removes its pin. A slot that is neither is refused, and BUSY stands ahead of NOT_FOUND (log 42). -/
def Claims.SlotsAreFilledAndEmptied : Prop :=
  ∀ (s : State) (t : Time) (f : Frame) (rest : List Frame) (x : SlotId) (id : Nat) (tk : Take), 1 ≤ id →
    s.store.takes[id - 1]? = some (some tk) →
    let u := s.upTo t
    let q := s.player
    let same (y : Status) : Host.Outcome State Fault Refusal := .next (u.answering f rest y .nothing)
    let hold (player slot : Bool) : Store := { s.store with takes := s.store.takes.set (id - 1) (some { tk with
      holders := match x with
        | .a => { tk.holders with player := player, slotA := slot }
        | .b => { tk.holders with player := player, slotB := slot } }) }
    let put (c : Option Saved) (p : Player) : Player := match x with | .a => { p with slotA := c } | .b => { p with slotB := c }
    ((s.offers .playSuspend f rest → exec (.playSuspend t none) s = same .badArgument)
        ∧ (s.offers .playResume f rest → exec (.playResume t none) s = same .badArgument)
        ∧ (s.offers .slotDiscard f rest → exec (.slotDiscard t none) s = same .badArgument))
      ∧ (q.state = .idle ∨ q.state = .cueing → s.offers .playSuspend f rest →
          exec (.playSuspend t (some x)) s = same .refusedState)
      ∧ (q.state ≠ .idle → q.state ≠ .cueing → q.take = some id → s.offers .playSuspend f rest →
        (∀ c, q.slot x = some c → exec (.playSuspend t (some x)) s = same .busy)
          ∧ (q.slot x = none →
              let saved : Saved :=
                { take := id, clock := q.clock, tempo := q.tempo, staged := q.staged, halt := q.halt, repeats := q.repeats
                  pos := if q.state = .waiting ∨ q.state = .paused ∧ q.waitPending = true then q.tickStart else q.pos
                  fromMark := q.fromMark, toMark := q.toMark, parts := q.parts, reportMarks := q.reportMarks, window := q.window
                  timeout := q.timeout, context := q.context, mark := q.mark }
              let v := (({ u with store := hold false true, player := put (some saved) u.player } : State).releaseOpen).setContext
                PedalContext.clear false
              exec (.playSuspend t (some x)) s = .next ((({ v with player := { v.player with
                state := .idle, take := none, expected := [], recent := [], waitPending := false, hits := 0, misses := 0
                wrong := 0, waitTimer := none, waitSpent := 0, tickLeft := none, carry := { num := 0, den := 1 } } }
                : State).notify (.playerState .idle .suspended (some id) q.clock q.mark q.repeats)).answering f rest .ok
                  .nothing)))
      ∧ (q.state ≠ .idle → s.offers .playResume f rest → exec (.playResume t (some x)) s = same .busy)
      ∧ (q.state = .idle → q.slot x = none → s.offers .playResume f rest →
          exec (.playResume t (some x)) s = same .notFound)
      ∧ (∀ c, q.state = .idle → q.slot x = some c → c.take = id → s.offers .playResume f rest →
          let p : Player := { put none u.player with
            state := .cueing, take := some id, clock := c.clock, pos := c.pos, tempo := c.tempo, staged := c.staged
            halt := c.halt, repeats := c.repeats, fromMark := c.fromMark, toMark := c.toMark, parts := c.parts
            reportMarks := c.reportMarks, window := c.window, timeout := c.timeout, mark := c.mark, openNotes := []
            expected := [], waitPending := false, resume := some c }
          let v : State := { u with store := hold true false, player := p }
          exec (.playResume t (some x)) s = .next ((({ v with player := { p with
            cueLeft := 50 * ((v.cueRecords.length + 31) / 32) } } : State).notify
              (.playerState .cueing .resumed (some id) c.clock c.mark c.repeats)).answering f rest .ok .nothing))
      ∧ (q.slot x = none → s.offers .slotDiscard f rest → exec (.slotDiscard t (some x)) s = same .notFound)
      ∧ (∀ c, q.slot x = some c → c.take = id → s.offers .slotDiscard f rest →
          exec (.slotDiscard t (some x)) s = .next (({ u with
            store := hold tk.holders.player false, player := put none u.player } : State).answering f rest .ok .nothing))

/-- R163, R179: a cue reads the records up to and including the from mark's, and none without one; at its end the snapshot holds
the last level of each pedal among them, the loop start follows them, and playing begins there under the snapshot, or, after
a resume, at the saved place under the saved context. CUED goes out ahead of the records handled at once (log 29), with the
state those and the wait test lead to. -/
def Claims.CuesEndAtTheirPlace : Prop :=
  ∀ (s : State) (t : Time), s.player.state = .cueing → s.player.cueLeft ≤ (t - s.clock).toNat →
    let u := s.upTo t
    let q := u.player
    let rs := u.cueRecords
    let last (p : RecordBody → Option Nat) : Nat := (rs.reverse.findSome? fun x => p x.record.body).getD 0
    let damper := last fun b => match b with | .pedal 0 l => some l | _ => none
    let sostenuto := decide (64 ≤ last fun b => match b with | .pedal 1 l => some l | _ => none)
    let soft := last fun b => match b with | .pedal p l => if 2 ≤ p then some l else none | _ => none
    let end1 := rs.getLast?
    let cued : Player := { q with
      snapshot := { damper, sostenuto, soft }, loopPos := end1.elim 0 (·.pos + 1), loopTime := end1.elim 0 (·.time) }
    let fresh : Player := { cued with
      pos := cued.loopPos, clock := cued.loopTime, mark := q.fromMark, tickStart := cued.loopPos }
    let resumed (c : Saved) : Player := { cued with
      pos := c.pos, clock := c.clock, mark := c.mark, tickStart := c.pos, resume := none }
    let v : State := match q.resume with
      | none => ({ u with player := fresh } : State).setContext { damper, sostenuto, soft, set := [] } false
      | some c => ({ u with player := resumed c } : State).setContext c.context false
    let entered : PlayerState := if v.enterPlaying.player.state = .waiting then .waiting else .playing
    (q.fromMark = none → rs = [])
      ∧ (∀ (n : Nat) (x : Timed), q.fromMark = some n → u.playRecords[x.pos]? = some x → x.record.body = .mark n →
          (∀ y ∈ u.playRecords.take x.pos, y.record.body ≠ .mark n) →
          (∀ (y : Nat) (z : Timed), u.playRecords[y]? = some z → z.pos = y) →
          rs = u.playRecords.take (x.pos + 1))
      ∧ exec (.cueDone t) s = .next (State.arbitrate (v.notify
          (.playerState entered .cued v.player.take v.player.clock v.player.mark v.player.repeats)).enterPlaying)

/-- R163, R178, R179: the slots, and the end of a cue (logs 29, 30, 42). -/
def Obligations.SlotsHoldSuspendedPlay : Prop :=
  Claims.SlotsAreFilledAndEmptied ∧ Claims.CuesEndAtTheirPlace

/-! ### Resets and start-up (11) -/

/-- R26, R39, R51, R72, R92, R109, R123, R144, R155, R160, R181, R191, R193: FULL_RESET puts every block into its full-reset
state, the link into STARTING with nothing in its queues and places and the load of a full start-up on the memory port; the
inputs, the sound memory and the commands that wait stay. The clock value and the settings before the setup are the model's
choice (logs 2, 14). -/
def Obligations.FullResetPutsEveryBlockInItsResetState : Prop :=
  ∀ (s : State) (strap : Bool), ∃ v, exec (.fullReset strap) s = .next v
    ∧ (v.scanner.keys.length = 88 ∧ ∀ k ∈ v.scanner.keys, k.state = .rest ∧ k.mode = .keyOnly ∧ k.scale = .free
        ∧ k.staged = none ∧ k.aTimeKey = none ∧ k.aTimeHammer = none ∧ k.keyGood = none ∧ k.hammerGood = none
        ∧ k.keyFaults = 0 ∧ k.hammerFaults = 0 ∧ k.flight = none ∧ k.capture = none)
    ∧ v.scanner.target = .keyOnly ∧ v.scanner.settle = none ∧ v.scanner.capturing = false
    ∧ (∀ p, (v.pedals.unit p).faulted = false ∧ (v.pedals.unit p).faults = 0 ∧ (v.pedals.unit p).good = none
        ∧ (v.pedals.unit p).depth = 0 ∧ (v.pedals.unit p).switchDown = false ∧ (v.pedals.unit p).last = 0)
    ∧ v.pedals.context = { damper := 0, sostenuto := false, soft := 0, set := [] }
    ∧ v.router.streaming = false ∧ v.router.railState = .unhomed ∧ v.router.passage = none
    ∧ v.rail.state = .unhomed ∧ v.rail.drive = .coast ∧ v.rail.position = none ∧ v.rail.motion = none ∧ v.rail.phase = none
    ∧ v.rail.occupied = false ∧ v.rail.lastFault = none
    ∧ v.voices.table = List.replicate 80 none ∧ v.voices.priority = .liveFirst ∧ v.voices.counter = 0
    ∧ v.fetch.status = .loading ∧ v.fetch.queue = [] ∧ v.fetch.zones = [] ∧ v.fetch.bufs.length = 80
    ∧ (∀ b ∈ v.fetch.bufs, b.a.fill = .empty ∧ b.b.fill = .empty ∧ b.pos = none)
    ∧ v.mixer.settings = { master := .code 60, liveTrim := 0, playTrim := 0, source := .both, channel := .stereo }
    ∧ v.mixer.width = 24 ∧ v.mixer.plugDetect = true ∧ v.mixer.plug = .settling ∧ v.mixer.plugTimer = some 50000
    ∧ v.mixer.muteMode = .level ∧ v.mixer.latched = false ∧ v.mixer.silenceFlag = true ∧ v.mixer.ramp = .none
    ∧ v.store.takes = List.replicate 32 none ∧ v.store.pool = List.range 2048 ∧ v.store.transfer = .none
    ∧ v.recorder.state = .idle ∧ v.recorder.take = none ∧ v.recorder.opens = [] ∧ v.recorder.clock = 0
    ∧ v.packer.queue = [] ∧ v.packer.openPacket = [] ∧ v.packer.backlog = [] ∧ v.packer.timer = none ∧ v.packer.gap = 0
    ∧ v.packer.enabled = false ∧ v.packer.mode = .packed ∧ v.packer.perPacket = 16 ∧ v.packer.hold = 4
    ∧ v.player.state = .idle ∧ v.player.take = none ∧ v.player.slotA = none ∧ v.player.slotB = none ∧ v.player.tempo = 100
    ∧ v.player.staged = none ∧ v.player.halt = none ∧ v.player.window = 120 ∧ v.player.timeout = 0
    ∧ v.player.parts = { left := .sound, right := .sound, noHand := .sound } ∧ v.player.reportMarks = false
    ∧ v.player.context = { damper := 0, sostenuto := false, soft := 0, set := [] }
    ∧ v.player.snapshot = { damper := 0, sostenuto := false, soft := 0 }
    ∧ v.player.pos = 0 ∧ v.player.clock = 0 ∧ v.player.tickStart = 0 ∧ v.player.fromMark = none ∧ v.player.toMark = none
    ∧ v.player.mark = none ∧ v.player.loopPos = 0 ∧ v.player.loopTime = 0 ∧ v.player.repeats = .times 0
    ∧ v.player.waitPending = false ∧ v.player.waitStart = 0 ∧ v.player.waitSpent = 0 ∧ v.player.hits = 0
    ∧ v.player.misses = 0 ∧ v.player.wrong = 0 ∧ v.player.tickLeft = none ∧ v.player.waitTimer = none
    ∧ v.player.openNotes = [] ∧ v.player.expected = [] ∧ v.player.recent = []
    ∧ v.link.ready = false ∧ v.link.rxFrame = none ∧ v.link.requests = [] ∧ v.link.reply = none ∧ v.link.notices = []
    ∧ v.link.readyPlace = none ∧ v.link.restart = .none ∧ v.link.start = .loading true ∧ v.fetch.port = some .load
    ∧ v.link.tx = none ∧ v.stats = List.replicate 27 0
    ∧ v.pins = { s.pins with strap } ∧ v.soundMem = s.soundMem ∧ v.pending = s.pending

/-- R4, R7, R17, R29, R30, R51, R56, R92: the built-in defaults, every value as its table gives it. -/
def Claims.TheBuiltInDefaultsAreTheirTables : Prop :=
  let curve (xs : List (Nat × Nat)) : List CurvePoint := xs.map fun x => { time := x.1, velocity := x.2 }
  let pedal (m : PedalMode) : PedalItems := { rest := 600, full := 3000, mode := m, deadBand := 2 }
  defaultCal =
      { keyRest := 400, keyBottom := 3600, hammerRest := 300, hammerTop := 3800, hammerStopped := none, trim := 0
        enabled := true }
    ∧ defaultThr =
      { rest := 40, start := 60, damper := 350, rearm := 700, kA := 700, kB := 950, hRest := 30, freeA := 500, freeB := 880
        stoppedA := 450, stoppedB := 760 }
    ∧ defaultHammerCurve = curve
      [(400, 127), (600, 118), (850, 108), (1200, 98), (1600, 89), (2100, 80), (2700, 71), (3400, 63), (4300, 55), (5400, 47),
       (6800, 39), (8600, 31), (11000, 23), (14500, 16), (19500, 9), (27000, 1)]
    ∧ defaultKeyCurve = curve
      [(1000, 127), (1400, 118), (1900, 108), (2500, 98), (3200, 89), (4000, 80), (5000, 71), (6200, 63), (7700, 55),
       (9500, 47), (11800, 39), (14700, 31), (18500, 23), (23500, 16), (30000, 9), (40000, 1)]
    ∧ defaultRailConfig =
      { acoustic := 1040, silent := 2600, moveDuty := 60, homingDuty := 25, travelLimit := 2500, settle := 100, autoHome := true }
    ∧ defaultSetup =
      { cals := List.replicate 88 defaultCal, thr := defaultThr, hammerCurve := defaultHammerCurve
        keyCurve := defaultKeyCurve, damper := pedal .level, sostenuto := pedal .switch, soft := pedal .level
        rail := defaultRailConfig, limit := 64, monitor := false, split := 39 }

/-- R26, R39: a key and a pedal as a start-up leaves them under their items: `Key.fresh` and `PedalUnit.fresh`, field by field.
The depths 0, the return count 0 and the quality HAMMER of a key are the model's choice (log 12). -/
def Claims.KeysAndPedalsStartAfresh : Prop :=
  (∀ (c : CalRecord) (h : Thresholds), Key.fresh c h =
      { cal := c, staged := none, thr := h, mode := .keyOnly, scale := .free, state := .rest, aTimeKey := none
        aTimeHammer := none, returns := 0, flight := none, keyGood := none, hammerGood := none, keyDepth := 0
        hammerDepth := 0, keyFaults := 0, hammerFaults := 0, quality := .hammer, capture := none })
    ∧ ∀ m : PedalMode, PedalUnit.fresh m =
        { restRaw := 600, fullRaw := 3000, mode := m, deadBand := 2, depth := 0, good := none, switchDown := false, last := 0
          faults := 0, faulted := false }

/-- R191, R192: with the strap asserted the setup is the built-in defaults (`TheBuiltInDefaultsAreTheirTables`), with source
STRAP: every key has the default record and thresholds, every block its default items, and READY goes out on the free line,
after which the link is READY. A key's depths, return count and quality are log 12's (`KeysAndPedalsStartAfresh`). -/
def Claims.TheStrapGivesTheDefaultSetup : Prop :=
  ∀ (s : State) (t : Time), s.link.start = .setup → s.pins.strap = true → s.link.tx = none → s.link.restart = .none →
    ∃ v n, exec (.setupAreaReadDone t) s = .next v
      ∧ v.scanner.keys = List.replicate 88 (Key.fresh defaultCal defaultThr) ∧ v.scanner.thr = defaultThr
      ∧ v.scanner.hammerCurve = defaultHammerCurve ∧ v.scanner.keyCurve = defaultKeyCurve
      ∧ v.pedals.damper = PedalUnit.fresh .level ∧ v.pedals.sostenuto = PedalUnit.fresh .switch
      ∧ v.pedals.soft = PedalUnit.fresh .level
      ∧ v.router.monitor = false ∧ v.router.split = 39 ∧ v.voices.limit = 64 ∧ v.rail.config = defaultRailConfig
      ∧ v.link.source = some .strap ∧ v.link.tx = some (.ready n) ∧ n.retained = false ∧ n.source = some .strap
      ∧ n.status = s.fetch.status ∧ v.link.ready = true ∧ v.link.readyPlace = none
      ∧ v = { s.upTo t with
          scanner := v.scanner, pedals := v.pedals, router := v.router, rail := v.rail, voices := v.voices
          fetch := { s.fetch with port := none }, mixer := v.mixer, link := v.link }
      ∧ v.scanner = { (s.upTo t).scanner with keys := v.scanner.keys, thr := v.scanner.thr
                                              hammerCurve := v.scanner.hammerCurve, keyCurve := v.scanner.keyCurve }
      ∧ v.pedals.context = s.pedals.context ∧ v.voices.table = s.voices.table ∧ v.rail.state = s.rail.state

/-- R191: what a setup area holds, place by place: a coded byte of another value fails it; and the checks its values pass, those
of the requests that would set them. -/
def Claims.TheSetupAreaHasItsLayout : Prop :=
  (∀ bs : List Byte,
      let n (a k : Nat) : Nat := leNat ((bs.drop a).take k)
      let mode (a : Nat) : PedalMode := if n a 1 = 0 then .level else .switch
      let pedal (a : Nat) : PedalItems := { rest := n a 2, full := n (a + 2) 2, mode := mode (a + 4), deadBand := n (a + 5) 1 }
      let curve (a : Nat) : List CurvePoint :=
        (List.range 16).map fun i => { time := n (a + 5 * i) 4, velocity := n (a + 5 * i + 4) 1 }
      let coded := n 1242 1 ≤ 1 ∧ n 1248 1 ≤ 1 ∧ n 1254 1 ≤ 1 ∧ n 1266 1 ≤ 1 ∧ n 1268 1 ≤ 1
      (¬coded → setupOf bs = none)
        ∧ (coded → setupOf bs = some
            { cals := (List.range 88).map fun i => calAt bs (12 * i)
              thr := { rest := n 1056 2, start := n 1058 2, damper := n 1060 2, rearm := n 1062 2, kA := n 1064 2
                       kB := n 1066 2, hRest := n 1068 2, freeA := n 1070 2, freeB := n 1072 2, stoppedA := n 1074 2
                       stoppedB := n 1076 2 }
              hammerCurve := curve 1078, keyCurve := curve 1158, damper := pedal 1238, sostenuto := pedal 1244
              soft := pedal 1250
              rail := { acoustic := n 1256 2, silent := n 1258 2, moveDuty := n 1260 1, homingDuty := n 1261 1
                        travelLimit := n 1262 2, settle := n 1264 2, autoHome := n 1266 1 == 1 }
              limit := n 1267 1, monitor := n 1268 1 == 1, split := n 1269 1 }))
    ∧ ∀ x : Setup, x.ok = true ↔
        (∀ c ∈ x.cals, calOk c = true) ∧ thrOk x.thr = true ∧ curveOk x.hammerCurve = true ∧ curveOk x.keyCurve = true
          ∧ (pedalCalOk x.damper.rest x.damper.full = true ∧ pedalModeOk .damper x.damper.mode x.damper.deadBand = true)
          ∧ (pedalCalOk x.sostenuto.rest x.sostenuto.full = true
              ∧ pedalModeOk .sostenuto x.sostenuto.mode x.sostenuto.deadBand = true)
          ∧ (pedalCalOk x.soft.rest x.soft.full = true ∧ pedalModeOk .soft x.soft.mode x.soft.deadBand = true)
          ∧ railConfigOk x.rail = true ∧ 8 ≤ x.limit ∧ x.limit ≤ 64 ∧ x.split ≤ 88

/-- R191, R192: without the strap the setup area is checked in order: no area, signature, length, CRC, content; the first
failure is the reason of a FALLBACK to the built-in defaults, and an area that passes is taken whole, with source STORED;
every block takes its items, a key's depths, return count and quality as log 12 has them, and READY goes out on the free
line. Outside the setup phase nothing is read (log 3). -/
def Claims.TheSetupAreaIsCheckedAndTaken : Prop :=
  ∀ (s : State) (t : Time),
    let u := s.upTo t
    let unit (x : PedalItems) : PedalUnit :=
      { PedalUnit.fresh x.mode with restRaw := x.rest, fullRaw := x.full, deadBand := x.deadBand }
    let begun (src : SetupSource) (x : Setup) : State := State.followSilence { u with
      scanner := { u.scanner with
        keys := x.cals.map fun c => Key.fresh c x.thr, thr := x.thr, hammerCurve := x.hammerCurve, keyCurve := x.keyCurve }
      pedals := { u.pedals with damper := unit x.damper, sostenuto := unit x.sostenuto, soft := unit x.soft }
      router := { u.router with monitor := x.monitor, split := x.split }
      rail := { u.rail with config := x.rail, autoHomeDue := u.rail.state == .unhomed && x.rail.autoHome }
      voices := { u.voices with limit := x.limit }
      fetch := { u.fetch with port := none }
      link := { u.link with
        source := some src, start := .over, readyPlace := none, ready := true
        tx := some (.ready { retained := false, source := some src, status := u.fetch.status
                             header := u.fetch.header.map fun h => (h.version, h.zoneCount), failure := u.fetch.failure }) } }
    let runs (src : SetupSource) (x : Setup) : Prop := exec (.setupAreaReadDone t) s = .next (begun src x)
    let bytes (a n : Nat) : List Byte := Memory.readAll flashByte s.soundMem a n
    (s.link.start ≠ .setup → exec (.setupAreaReadDone t) s = .next u.arbitrate)
      ∧ (s.link.start = .setup → s.link.tx = none → s.link.restart = .none →
        (s.pins.strap = true → runs .strap defaultSetup)
          ∧ (s.pins.strap = false →
            (s.fetch.header = none → runs (.fallback .noArea) defaultSetup)
              ∧ ∀ h, s.fetch.header = some h →
                let a := h.setupOffset
                let signed := bytes a 4 = [0x4D, 0x42, 0x53, 0x55]
                let long := leNat (bytes (a + 4) 2) = 1270
                let sound := leNat (bytes (a + 6) 2) = (crc16 (bytes (a + 8) 1270)).toNat
                (a = 0 → runs (.fallback .noArea) defaultSetup)
                  ∧ (a ≠ 0 → ¬signed → runs (.fallback .signature) defaultSetup)
                  ∧ (a ≠ 0 → signed → ¬long → runs (.fallback .length) defaultSetup)
                  ∧ (a ≠ 0 → signed → long → ¬sound → runs (.fallback .crc) defaultSetup)
                  ∧ (a ≠ 0 → signed → long → sound → (∀ x, setupOf (bytes (a + 8) 1270) = some x → x.ok = false) →
                      runs (.fallback .content) defaultSetup)
                  ∧ ∀ x, a ≠ 0 → signed → long → sound → setupOf (bytes (a + 8) 1270) = some x → x.ok = true →
                      runs .stored x))

/-- R191, R192: the setup of a full start-up: the strap gives the built-in defaults, and so does a setup area that fails its
checks; one that passes them is taken; then READY (logs 3, 12, 20). -/
def Obligations.TheStrapGivesTheDefaultSetup : Prop :=
  Claims.TheBuiltInDefaultsAreTheirTables ∧ Claims.KeysAndPedalsStartAfresh ∧ Claims.TheStrapGivesTheDefaultSetup ∧ Claims.TheSetupAreaHasItsLayout ∧ Claims.TheSetupAreaIsCheckedAndTaken

/-- R193: RESTART replies OK, and until the reset acts no further request is taken; the reset is due once the last byte of the
reply has left the line, and not before (log 3). -/
def Claims.RestartIsAnsweredFirst : Prop :=
  (∀ (s : State) (t : Time) (f : Frame) (rest : List Frame), s.offers .restart f rest →
      exec (.restart t) s = .next (({ s.upTo t with link := { s.link with restart := .replying } } : State).answering f rest
        .ok .nothing))
    ∧ (∀ (s : State) (t : Time) (r : Reply) (a b : Nat), s.link.restart = .replying → s.link.reply = none →
        s.link.tx = some (.reply r a b) →
        exec (.txFrameDone t) s = .next { s.upTo t with link := { s.link with tx := none, restart := .replied } })
    ∧ ∀ (s : State) (t : Time), s.link.restart ≠ .replied →
        (s.link.restart = .replying → s.link.reply ≠ none ∨ ∀ r a b, s.link.tx ≠ some (.reply r a b)) →
        exec (.warmReset t) s = .next (s.upTo t).arbitrate

/-- R110, R192, R193: the warm reset acts once the RESTART reply has left the line: every block takes its warm-reset state, the
link empties its queues, places and framer, and the start-up ends at once with READY, its source RETAINED, an UNHOMED rail due
to home when auto-home is set (log 20); a load in progress is begun again first. -/
def Claims.TheWarmResetActs : Prop :=
  ∀ (s : State) (t : Time),
    s.link.restart = .replied
      ∨ s.link.restart = .replying ∧ s.link.reply = none ∧ (∃ r a b, s.link.tx = some (.reply r a b)) →
    let u := s.upTo t
    let link : Link := { u.link with
      ready := false, start := .over, rxFrame := none, requests := [], reply := none, notices := [], readyPlace := none
      tx := none, restart := .none }
    (s.fetch.status ≠ .loading → ∃ v, exec (.warmReset t) s = .next v ∧ warmBlocksOf u v
        ∧ v.fetch = { u.fetch with bufs := v.fetch.bufs, queue := [], port := none }
        ∧ v.rail.autoHomeDue = (v.rail.state == .unhomed && v.rail.config.autoHome)
        ∧ v.link = { link with
            ready := true
            tx := some (.ready { retained := true, source := s.link.source, status := s.fetch.status
                                 header := s.fetch.header.map fun h => (h.version, h.zoneCount)
                                 failure := s.fetch.failure }) })
      ∧ (s.fetch.status = .loading → ∃ v, exec (.warmReset t) s = .next v ∧ warmBlocksOf u v
        ∧ v.fetch = { u.fetch with
            bufs := v.fetch.bufs, queue := [], port := some .load, header := none, failure := none, zones := [] }
        ∧ v.rail.autoHomeDue = false ∧ v.link = { link with start := .loading false })

/-- R193: RESTART and the warm reset (logs 3, 12, 20). -/
def Obligations.RestartLeadsToAWarmReset : Prop :=
  Claims.RestartIsAnsweredFirst ∧ Claims.TheWarmResetActs

/-- R191, R193 and the requests that set them: no event of the part changes a setting of a block; only requests, a full reset
and the end of the setup do. A warm reset keeps them all. -/
def Obligations.SettingsChangeOnlyByRequestsAndStartUp : Prop :=
  ∀ (c : Instr) (s s' : State), requestTime c = none → (∀ strap, c ≠ .fullReset strap) →
    (∀ t, c ≠ .setupAreaReadDone t) →
    exec c s = .next s' → s'.sameSettings s

/-! ### Encodings -/

/-- R128 and the take record format: a record in its ranges, written as its four bytes and read again, is that record. -/
def Claims.TakeRecordsRoundTrip : Prop :=
  ∀ (r : TakeRecord), r.inRanges = true →
    ∃ b0 b1 b2 b3, r.bytes = [b0, b1, b2, b3] ∧ recordOf b0 b1 b2 b3 = r

/-- R128 and Formats: the four bytes of each kind of take record: the kind and hand codes, the delta, and two bytes of the
kind. -/
def Claims.TakeRecordsHaveTheirBytes : Prop :=
  ∀ (h d : Nat),
    let bytes (body : RecordBody) : List Byte := TakeRecord.bytes { body, hand := h, delta := d }
    let b (n : Nat) : Byte := BitVec.ofNat 8 n
    bytes .fill = [b (4 * h), b d, 0, 0]
      ∧ (∀ k v, bytes (.noteOn k v) = [b (16 + 4 * h), b d, b k, b v])
      ∧ (∀ k, bytes (.noteOff k) = [b (32 + 4 * h), b d, b k, 0])
      ∧ (∀ p l, bytes (.pedal p l) = [b (48 + 4 * h), b d, b p, b l])
      ∧ (∀ n, bytes (.mark n) = [b (64 + 4 * h), b d, b n, 0])
      ∧ (∀ a, bytes (.gap a) = [b (80 + 4 * h), b d, b (a % 256), b (a / 256)])
      ∧ bytes .endTake = [b (96 + 4 * h), b d, 0, 0]

/-- The calibration record format: a record that passes its checks, written as its 12 bytes and read again, is that record. -/
def Claims.CalibrationRecordsRoundTrip : Prop :=
  ∀ (c : CalRecord), calOk c = true → (calBytes c).length = 12 ∧ calAt (calBytes c) 0 = c

/-- R128 and Formats: take records have their bytes, and they and calibration records round trip. -/
def Obligations.RecordEncodingsRoundTrip : Prop :=
  Claims.TakeRecordsRoundTrip ∧ Claims.TakeRecordsHaveTheirBytes ∧ Claims.CalibrationRecordsRoundTrip

/-! ### Invariants -/

/-- A step that answers a next state keeps `inv`, from a state in which `also` holds too. -/
def keptByEveryStep (inv also : State → Prop) : Prop :=
  ∀ s s' : State, inv s → also s → step s = .next s' → inv s'

/-- Both memories keep their canonical form. -/
def Claims.StepsKeepTheMemoriesCanonical : Prop := keptByEveryStep State.memoriesCanonical fun _ => True

/-- The queues and lists keep their bounds. -/
def Claims.StepsKeepTheQueuesBounded : Prop := keptByEveryStep State.queuesBounded fun _ => True

/-- Every request kind whose payload length the spec gives keeps it in the table of kinds (R185; log 36). -/
def Claims.StepsKeepTheKindsLawful : Prop := keptByEveryStep State.kindsLawful fun _ => True

/-- Every step keeps the memories canonical, the bounds of the queues and lists (R156, R158, R174, R175, R185, R187), and the
table of kinds lawful. -/
def Obligations.StepsKeepTheMemoriesAndQueues : Prop :=
  Claims.StepsKeepTheMemoriesCanonical ∧ Claims.StepsKeepTheQueuesBounded ∧ Claims.StepsKeepTheKindsLawful

/-- R52, R62: the interlock: the motor is driven exactly in MOVING and HOMING, and there only while the view is empty. -/
def Obligations.StepsKeepTheRailInterlock : Prop := keptByEveryStep State.interlocked fun _ => True

/-- R185, R191, R192: the part starts quietly. -/
def Obligations.StepsKeepTheStartQuiet : Prop := keptByEveryStep State.startsQuietly fun _ => True

/-- R19, R62: the Rail Controller's view is the flight table's. -/
def Claims.StepsKeepTheViewExact : Prop := keptByEveryStep State.viewExact State.startsQuietly

/-- R22: a disabled key has no flight record. -/
def Claims.StepsKeepDisabledKeysStill : Prop := keptByEveryStep State.disabledStill fun _ => True

/-- R19, R22, R62: the flight table. -/
def Obligations.StepsKeepTheViewOfTheFlightTable : Prop :=
  Claims.StepsKeepTheViewExact ∧ Claims.StepsKeepDisabledKeysStill

/-- R75: the laws of the voice table. -/
def Obligations.StepsKeepTheVoiceLaws : Prop := keptByEveryStep State.voicesLawful State.startsQuietly

/-- R125, R126: every block is in the pool or in exactly one take of the 32. -/
def Obligations.StepsKeepTheBlocksPartitioned : Prop := keptByEveryStep State.blocksPartitioned fun _ => True

/-- R31, R34, R35: the live pedal context holds what the pedals last reported. -/
def Claims.StepsKeepTheReportedContext : Prop := keptByEveryStep State.contextReported fun _ => True

/-- R116, R117, R123, R124: the silence flag is exact, the silence until READY held in it too (the model's form, log 56). -/
def Claims.StepsKeepTheSilenceExact : Prop := keptByEveryStep State.silenceExact fun _ => True

/-- Every step keeps the live pedal context as the pedals last reported it (R31, R34, R36), and the silence flag exact (R116,
with the silence until READY of R117, R123 and R124 held in it: the model's form, log 56). -/
def Obligations.StepsKeepTheContextAndTheSilence : Prop :=
  Claims.StepsKeepTheReportedContext ∧ Claims.StepsKeepTheSilenceExact

/-- Every invariant holds of the part right after reset. -/
def Obligations.TheResetStateHasTheInvariants : Prop :=
  State.reset.memoriesCanonical ∧ State.reset.queuesBounded ∧ State.reset.interlocked ∧ State.reset.startsQuietly
    ∧ State.reset.viewExact ∧ State.reset.voicesLawful ∧ State.reset.blocksPartitioned ∧ State.reset.contextReported
    ∧ State.reset.silenceExact ∧ State.reset.kindsLawful ∧ State.reset.disabledStill

end Statements
end

