-- ==== Sys2Proof/Laws/Formats.lean ====
section
/-! SUPPORT. What the byte layouts of the frames the part sends can be, said once: the lengths of free stretches, and the numbers
of frames. -/

namespace Sys2Proof.Machine

/-- A free stretch has at least its least length. -/
theorem freeBytes_length_ge {α : Type} (what : α) (part lo hi : Nat) : lo ≤ (freeBytes what part lo hi).length := by
  simp [freeBytes]

/-- A free stretch has at most its greatest length. -/
theorem freeBytes_length_le {α : Type} (what : α) (part : Nat) {lo hi : Nat} (h : lo ≤ hi) :
    (freeBytes what part lo hi).length ≤ hi := by
  have : Config.layoutLength what part % (hi - lo + 1) < hi - lo + 1 := Nat.mod_lt _ (Nat.succ_pos _)
  simp only [freeBytes, List.length_map, List.length_range]
  omega

/-- R186: a reply has at least one frame. -/
theorem framesFor_pos (n : Nat) : 1 ≤ framesFor n := by
  unfold framesFor
  split <;> omega

/-- R186: content of at most 956 bytes takes at most four frames. -/
theorem framesFor_le_four {n : Nat} (h : n ≤ greatestContent) : framesFor n ≤ 4 := by
  unfold greatestContent at h
  unfold framesFor
  split <;> omega

/-- R186: content of at most 239 bytes takes one frame. -/
theorem framesFor_eq_one {n : Nat} (h : n ≤ 239) : framesFor n = 1 := by
  simp [framesFor, h]

/-- A reply without content takes one frame. -/
@[simp] theorem Content.parts_nothing : Content.nothing.parts = 1 := rfl

/-- R186: SCAN_QUERY's reply takes at most four frames. -/
theorem Content.parts_scan_le (r : ScanReport) : (Content.scan r).parts ≤ 4 :=
  framesFor_le_four (freeBytes_length_le _ _ (Nat.min_le_left _ _))

/-- R186: VOICE_READ's reply takes at most four frames. -/
theorem Content.parts_voiceRecords_le (rs : List VoiceReport) : (Content.voiceRecords rs).parts ≤ 4 :=
  framesFor_le_four (freeBytes_length_le _ _ (Nat.zero_le _))

end Sys2Proof.Machine
end

