-- ==== Sys2Proof/Laws/Memory.lean ====
section
/-! SUPPORT. Memory: every operation keeps the canonical form, a read after a write, and the same for list places. -/

namespace Sys2Proof.Machine

/-! ### The canonical form -/

/-- A memory of one more cell is canonical when its first cell lies below the next one, is listed rightly, and the rest is
canonical. -/
theorem Memory.wf_cons (d : Byte) (c : Host.Cell) (m : Memory) :
    Memory.wf d (c :: m) = true ↔ c.2 ≠ d ∧ (∀ c' ∈ m.head?, c.1 < c'.1) ∧ Memory.wf d m = true := by
  cases m <;> simp [Memory.wf, and_assoc]

/-- In a canonical memory every cell of the rest lies above the first. -/
theorem Memory.wf_above {d : Byte} {c : Host.Cell} {m : Memory} (h : Memory.wf d (c :: m) = true) :
    ∀ x ∈ m, c.1 < x.1 := by
  induction m generalizing c with
  | nil => simp
  | cons y ys ih =>
    have h' := (Memory.wf_cons d c (y :: ys)).mp h
    have hy : c.1 < y.1 := h'.2.1 y (by simp)
    intro x hx
    rcases List.mem_cons.mp hx with rfl | hx
    · exact hy
    · exact Nat.lt_trans hy (ih h'.2.2 x hx)

/-- The first cell after a write lies at the address written or where the first cell lay. -/
theorem Memory.head_write (d : Byte) (m : Memory) (a : Nat) (b : Byte) (n : Nat)
    (hm : ∀ c ∈ m, n < c.1) (ha : n < a) : ∀ c ∈ (Memory.write d m a b).head?, n < c.1 := by
  cases m with
  | nil => unfold Memory.write; split <;> simp [ha]
  | cons c m =>
    have hc := hm c (by simp)
    have hh : ∀ x ∈ m.head?, n < x.1 := fun x hx => hm x (List.mem_cons_of_mem _ (List.mem_of_mem_head? hx))
    unfold Memory.write
    split_ifs <;> simp [ha, hc]
    exact fun x y hxy => hh (x, y) hxy

/-- A write keeps the canonical form. -/
theorem Memory.write_wf (d : Byte) (m : Memory) (a : Nat) (b : Byte) (h : m.wf d = true) :
    (m.write d a b).wf d = true := by
  induction m with
  | nil => unfold Memory.write; split <;> simp_all [Memory.wf]
  | cons c m ih =>
    have hc := (Memory.wf_cons d c m).mp h
    unfold Memory.write
    split_ifs with h1 h2 h3 h4
    · exact h
    · exact (Memory.wf_cons d _ _).mpr ⟨h2, by simpa using h1, h⟩
    · exact hc.2.2
    · exact (Memory.wf_cons d _ _).mpr ⟨h4, fun x hx => h3 ▸ hc.2.1 x hx, hc.2.2⟩
    · exact (Memory.wf_cons d _ _).mpr
        ⟨hc.1, Memory.head_write d m a b c.1 (Memory.wf_above h) (by omega), ih hc.2.2⟩

/-- Writing bytes at rising addresses keeps the canonical form. -/
theorem Memory.writeAll_wf (d : Byte) (m : Memory) (a : Nat) (bs : List Byte) (h : m.wf d = true) :
    (m.writeAll d a bs).wf d = true := by
  induction bs generalizing m a with
  | nil => exact h
  | cons b bs ih => exact ih _ _ (Memory.write_wf d m a b h)

/-- Right after reset both memories are canonical: nothing is listed. -/
theorem State.reset_memories_wf :
    State.reset.store.mem.wf storeByte = true ∧ State.reset.soundMem.wf flashByte = true := ⟨rfl, rfl⟩

/-! ### Reads after writes -/

/-- A write at another address is not read. -/
theorem Memory.read_write_ne (d : Byte) (m : Memory) {a a' : Nat} (b : Byte) (h : a' ≠ a) :
    (m.write d a b).read d a' = m.read d a' := by
  induction m with
  | nil => unfold Memory.write; split <;> simp [Memory.read, h.symm]
  | cons c m ih =>
    unfold Memory.write
    split_ifs with h1 h2 h3 h4
    · rfl
    · simp [Memory.read, h.symm]
    · simp [Memory.read, ← h3, h.symm]
    · simp [Memory.read, ← h3, h.symm]
    · simp [Memory.read, ih]

/-- An address below every cell reads as an unlisted one. -/
theorem Memory.read_below (d : Byte) (m : Memory) (a : Nat) (h : ∀ c ∈ m, a < c.1) : m.read d a = d := by
  induction m with
  | nil => rfl
  | cons c m ih =>
    have hc := h c (by simp)
    simp only [Memory.read, Nat.ne_of_gt hc, if_false]
    exact ih fun x hx => h x (List.mem_cons_of_mem _ hx)

/-- In a canonical memory the byte written is read. -/
theorem Memory.read_write_same (d : Byte) (m : Memory) (a : Nat) (b : Byte) (h : m.wf d = true) :
    (m.write d a b).read d a = b := by
  induction m with
  | nil => unfold Memory.write; split <;> simp_all [Memory.read]
  | cons c m ih =>
    have hc := (Memory.wf_cons d c m).mp h
    have above := Memory.wf_above h
    unfold Memory.write
    split_ifs with h1 h2 h3 h4
    · rw [h2]
      refine Memory.read_below d _ a fun x hx => ?_
      rcases List.mem_cons.mp hx with rfl | hx
      · exact h1
      · exact Nat.lt_trans h1 (above x hx)
    · simp [Memory.read]
    · rw [h4]; exact Memory.read_below d m a fun x hx => h3 ▸ above x hx
    · simp [Memory.read]
    · simp [Memory.read, Ne.symm h3, ih hc.2.2]

/-- Bytes written at rising addresses leave every address outside them as it was. -/
theorem Memory.read_writeAll_outside (d : Byte) (m : Memory) (a a' : Nat) (bs : List Byte)
    (h : a' < a ∨ a + bs.length ≤ a') : (m.writeAll d a bs).read d a' = m.read d a' := by
  induction bs generalizing m a with
  | nil => rfl
  | cons b bs ih =>
    simp only [List.length_cons] at h
    exact (ih (m.write d a b) (a + 1) (by omega)).trans (Memory.read_write_ne d m b (by omega))

/-- Bytes written at rising addresses of a canonical memory are read there. -/
theorem Memory.read_writeAll_inside (d : Byte) (m : Memory) (a j : Nat) (bs : List Byte) (h : m.wf d = true)
    (hj : j < bs.length) : (m.writeAll d a bs).read d (a + j) = bs.getD j 0 := by
  induction bs generalizing m a j with
  | nil => simp at hj
  | cons b bs ih =>
    cases j with
    | zero =>
      simpa [Memory.writeAll] using (Memory.read_writeAll_outside d (m.write d a b) (a + 1) a bs (by omega)).trans
        (Memory.read_write_same d m a b h)
    | succ j =>
      have hj' : j < bs.length := by simpa using hj
      simpa [Memory.writeAll, Nat.add_assoc, Nat.add_comm 1 j] using ih (m.write d a b) (a + 1) j (Memory.write_wf d m a b h) hj'

/-! ### Places of lists -/

/-- Bytes written and read again are the bytes written. -/
theorem Memory.readAll_writeAll (d : Byte) (m : Memory) (a i n : Nat) (bs : List Byte) (h : m.wf d = true)
    (hn : i + n ≤ bs.length) :
    (m.writeAll d a bs).readAll d (a + i) n = (bs.drop i).take n := by
  induction n generalizing i with
  | zero => simp [Memory.readAll]
  | succ n ih =>
    have hi : i < bs.length := by omega
    rw [Memory.readAll, Memory.read_writeAll_inside d m a i bs h hi, Nat.add_assoc, ih (i + 1) (by omega),
      List.drop_eq_getElem_cons hi, List.take_succ_cons]
    simp [hi]

/-- `updateAt` keeps the length. -/
@[simp] theorem updateAt_length {α : Type} (f : α → α) (n : Nat) (xs : List α) : (updateAt f n xs).length = xs.length := by
  induction xs generalizing n with
  | nil => cases n <;> rfl
  | cons x xs ih => cases n <;> simp [updateAt, ih]

/-- `updateAt` at the place it names, and at every other. -/
theorem updateAt_getElem? {α : Type} (f : α → α) (n i : Nat) (xs : List α) :
    (updateAt f n xs)[i]? = if i = n then xs[i]?.map f else xs[i]? := by
  induction xs generalizing n i with
  | nil => cases n <;> simp [updateAt]
  | cons x xs ih => cases n <;> cases i <;> simp [updateAt, ih]

/-- `updateAt` with a constant is `List.set`. -/
theorem updateAt_const {α : Type} (x : α) (n : Nat) (xs : List α) : updateAt (fun _ => x) n xs = xs.set n x := by
  induction xs generalizing n with
  | nil => cases n <;> rfl
  | cons y ys ih => cases n <;> simp [updateAt, ih]

end Sys2Proof.Machine
end

