-- ==== Sys2Proof/Laws/Frames.lean ====
section
/-! SUPPORT. What each shared operation can change, said once: its next state is the old one but for the fields named. -/

namespace Sys2Proof.Machine

/-! ### Notices, the rail and the silence flag -/

/-- R187: a notice changes the notice queue and NOTICES_LOST. -/
theorem State.notify_frame (n : Notice) (s : State) :
    ∃ ns x, s.notify n = { s with link := { s.link with notices := ns }, stats := x } := by
  unfold State.notify State.tally
  split
  · exact ⟨_, _, rfl⟩
  · exact ⟨s.link.notices, _, rfl⟩

/-- R8: a report of the rail state changes the scanner's target mode and settle timer. -/
theorem Scanner.railReport_frame (st : RailState) (n : Nat) (sc : Scanner) :
    ∃ m tm, sc.railReport st n = { sc with target := m, settle := tm } := by
  unfold Scanner.railReport
  simp only
  split
  · split <;> exact ⟨_, _, rfl⟩
  · split <;> exact ⟨_, _, rfl⟩
  · exact ⟨_, _, rfl⟩

/-- R55: a change of rail state reaches the scanner's target and settle timer, the router's rail state, the notices and the
rail. -/
theorem State.enterRail_frame (st : RailState) (why : RailReason) (s : State) :
    ∃ ns x m tm rs r, s.enterRail st why = { s with
      link := { s.link with notices := ns }, stats := x, rail := r
      scanner := { s.scanner with target := m, settle := tm }, router := { s.router with railState := rs } } := by
  unfold State.enterRail
  simp only
  generalize (if st = .moving ∨ st = .homing then { s.rail with state := st }
    else { { s.rail with state := st } with drive := .brake, duty := 0 }) = r
  split
  · exact ⟨s.link.notices, s.stats, s.scanner.target, s.scanner.settle, s.router.railState, r, rfl⟩
  · unfold State.reportRail
    simp only
    obtain ⟨m, tm, h⟩ := s.scanner.railReport_frame r.state r.config.settle
    rw [h]
    obtain ⟨ns, x, h'⟩ := State.notify_frame (r.stateNotice why) { s with
      rail := r, scanner := { s.scanner with target := m, settle := tm }, router := { s.router with railState := r.state } }
    exact ⟨ns, x, m, tm, _, r, h'⟩

/-- R61: an arrival, likewise. -/
theorem State.arrive_frame (why : RailReason) (s : State) :
    ∃ ns x m tm rs r, s.arrive why = { s with
      link := { s.link with notices := ns }, stats := x, rail := r
      scanner := { s.scanner with target := m, settle := tm }, router := { s.router with railState := rs } } := by
  unfold State.arrive
  split
  · exact ⟨_, _, _, _, _, _, rfl⟩
  · obtain ⟨ns, x, m, tm, rs, r, h⟩ := State.enterRail_frame (Motion.arrivalState ‹_›) why
      (({ s with rail := { s.rail with motion := none, phase := none } } : State).tally .railMoves)
    exact ⟨ns, x, m, tm, rs, r, h⟩

/-- R60: driving a move, likewise. -/
theorem State.driveMove_frame (why arrival : RailReason) (start : Bool) (s : State) :
    ∃ ns x m tm rs r, s.driveMove why arrival start = { s with
      link := { s.link with notices := ns }, stats := x, rail := r
      scanner := { s.scanner with target := m, settle := tm }, router := { s.router with railState := rs } } := by
  unfold State.driveMove
  split
  · exact ⟨_, _, _, _, _, _, rfl⟩
  · simp only
    split
    · exact State.arrive_frame _ _
    · obtain ⟨ns, x, m, tm, rs, r, h⟩ := State.enterRail_frame .moving why _
      exact ⟨ns, x, m, tm, rs, r, h⟩

/-- R65: driving a homing, likewise. -/
theorem State.driveHome_frame (why : RailReason) (s : State) :
    ∃ ns x m tm rs r, s.driveHome why = { s with
      link := { s.link with notices := ns }, stats := x, rail := r
      scanner := { s.scanner with target := m, settle := tm }, router := { s.router with railState := rs } } := by
  unfold State.driveHome
  obtain ⟨ns, x, m, tm, rs, r, h⟩ := State.enterRail_frame .homing why _
  exact ⟨ns, x, m, tm, rs, r, h⟩

/-- R62: a hammer in flight, likewise. -/
theorem State.flightAdded_frame (s : State) :
    ∃ ns x m tm rs r, s.flightAdded = { s with
      link := { s.link with notices := ns }, stats := x, rail := r
      scanner := { s.scanner with target := m, settle := tm }, router := { s.router with railState := rs } } := by
  unfold State.flightAdded
  simp only
  split
  · obtain ⟨ns, x, m, tm, rs, r, h⟩ := State.enterRail_frame .held .held _
    exact ⟨ns, x, m, tm, rs, r, h⟩
  · exact ⟨s.link.notices, s.stats, s.scanner.target, s.scanner.settle, s.router.railState, _, rfl⟩

/-- R63: the flight table emptied, likewise. -/
theorem State.flightEmptied_frame (s : State) :
    ∃ ns x m tm rs r, s.flightEmptied = { s with
      link := { s.link with notices := ns }, stats := x, rail := r
      scanner := { s.scanner with target := m, settle := tm }, router := { s.router with railState := rs } } := by
  unfold State.flightEmptied
  simp only
  split
  · split
    · exact ⟨s.link.notices, s.stats, s.scanner.target, s.scanner.settle, s.router.railState, _, rfl⟩
    · split
      · obtain ⟨ns, x, m, tm, rs, r, h⟩ := State.driveHome_frame .resumed _
        exact ⟨ns, x, m, tm, rs, r, h⟩
      · obtain ⟨ns, x, m, tm, rs, r, h⟩ := State.driveMove_frame .resumed _ true _
        exact ⟨ns, x, m, tm, rs, r, h⟩
  · exact ⟨s.link.notices, s.stats, s.scanner.target, s.scanner.settle, s.router.railState, _, rfl⟩

/-- R116: the silence flag is followed in the mixer alone. -/
theorem State.followSilence_frame (s : State) :
    ∃ f o r, s.followSilence = { s with mixer := { s.mixer with silenceFlag := f, silentOut := o, ramp := r } } := by
  unfold State.followSilence
  split
  · split
    · exact ⟨s.mixer.silenceFlag, s.mixer.silentOut, s.mixer.ramp, rfl⟩
    · exact ⟨_, _, _, rfl⟩
  · exact ⟨_, s.mixer.silentOut, s.mixer.ramp, rfl⟩

/-! ### The arbiter -/

/-- R188: with no READY notice waiting, the arbiter's choice changes the line, the reply place, the notice queue and the
packer. -/
theorem State.arbitrate_frame (s : State) (h : s.link.readyPlace = none) :
    ∃ tx rp ns p, s.arbitrate = { s with link := { s.link with tx := tx, reply := rp, notices := ns }, packer := p } := by
  unfold State.arbitrate
  split
  · exact ⟨s.link.tx, s.link.reply, s.link.notices, s.packer, rfl⟩
  · rw [h]
    simp only
    split
    · exact ⟨s.link.tx, s.link.reply, s.link.notices, s.packer, rfl⟩
    · split
      · exact ⟨_, _, s.link.notices, s.packer, rfl⟩
      · exact ⟨_, s.link.reply, _, s.packer, rfl⟩
      · unfold State.beginPacket
        split
        · exact ⟨s.link.tx, s.link.reply, s.link.notices, s.packer, rfl⟩
        · exact ⟨_, s.link.reply, s.link.notices, _, rfl⟩

/-! ### Voices -/

/-- R78: a steal changes the voice table and VOICE_STEALS. -/
theorem State.steal_frame (s : State) : ∃ tb x, s.steal = { s with voices := { s.voices with table := tb }, stats := x } := by
  unfold State.steal State.tally Voices.fadeEntry
  split
  · exact ⟨s.voices.table, s.stats, rfl⟩
  · exact ⟨_, _, rfl⟩

/-- R89: so do several. -/
theorem State.stealN_frame (n : Nat) (s : State) :
    ∃ tb x, s.stealN n = { s with voices := { s.voices with table := tb }, stats := x } := by
  induction n generalizing s with
  | zero => exact ⟨s.voices.table, s.stats, rfl⟩
  | succ n ih =>
    obtain ⟨tb, x, h⟩ := s.steal_frame
    obtain ⟨tb', x', h'⟩ := ih s.steal
    exact ⟨tb', x', by rw [State.stealN, h', h]⟩

/-- R77 to R79: a note-on claim changes the voice table, the allocation counter, the fetch unit and the statistics. -/
theorem State.noteOn_frame (src : Source) (key velocity : Nat) (s : State) :
    ∃ tb c f x, s.noteOn src key velocity = { s with
      voices := { s.voices with table := tb, counter := c }, fetch := f, stats := x } := by
  have drop (u : State) : ∃ tb c f x, u.tally .notesDropped = { u with
      voices := { u.voices with table := tb, counter := c }, fetch := f, stats := x } :=
    ⟨u.voices.table, u.voices.counter, u.fetch, _, rfl⟩
  unfold State.noteOn
  simp only
  split
  · exact drop s
  · split
    · exact drop s
    · have h1 : ∃ tb x, ({ s with voices := s.voices.restrike src key } : State).stealIfFull =
          { s with voices := { s.voices with table := tb }, stats := x } := by
        have h0 : ∃ tb, s.voices.restrike src key = { s.voices with table := tb } := by
          unfold Voices.restrike Voices.fadeEntry
          split
          · exact ⟨s.voices.table, rfl⟩
          · exact ⟨_, rfl⟩
        obtain ⟨tb, h0⟩ := h0
        rw [h0]
        unfold State.stealIfFull
        split
        · obtain ⟨tb', x, h⟩ := State.steal_frame { s with voices := { s.voices with table := tb } }
          exact ⟨tb', x, h⟩
        · exact ⟨tb, s.stats, rfl⟩
      obtain ⟨tb, x, h1⟩ := h1
      rw [h1]
      unfold State.allocateVoice
      split
      · exact ⟨tb, s.voices.counter, s.fetch, _, rfl⟩
      · exact ⟨_, _, _, x, rfl⟩

/-- R81: a note-off claim changes the voice table. -/
theorem State.noteOff_frame (src : Source) (key : Nat) (s : State) :
    ∃ tb, s.noteOff src key = { s with voices := { s.voices with table := tb } } := by
  unfold State.noteOff
  split
  · exact ⟨s.voices.table, rfl⟩
  · exact ⟨_, rfl⟩

/-- R83: so does a pedal change claim. -/
theorem State.pedalClaim_frame (src : Source) (s : State) :
    ∃ tb, s.pedalClaim src = { s with voices := { s.voices with table := tb } } := ⟨_, rfl⟩

/-! ### Recorder -/

/-- R135: writing one record changes the store and the Recorder. -/
theorem State.emit_frame (b : RecordBody) (h : Hand) (d : Nat) (s : State) :
    ∃ st r, (s.emit b h d).1 = { s with store := st, recorder := r } := by
  unfold State.emit
  split
  · exact ⟨s.store, s.recorder, rfl⟩
  · have ask (id : Nat) (tk : Take) (u : State) : ∃ st, (u.askBlock id tk).1 = { u with store := st } := by
      unfold State.askBlock
      split <;> exact ⟨_, rfl⟩
    simp only
    split_ifs
    · obtain ⟨st, h⟩ := ask _ _ _
      exact ⟨st, _, h⟩
    · exact ⟨_, _, rfl⟩

/-- R147: so do its GAP records. -/
theorem State.emitGaps_frame (n : Nat) (s : State) : ∃ st r, (s.emitGaps n).1 = { s with store := st, recorder := r } := by
  induction n generalizing s with
  | zero => exact ⟨s.store, s.recorder, rfl⟩
  | succ n ih =>
    obtain ⟨st, r, h⟩ := s.emit_frame (.gap 65535) .none 0
    unfold State.emitGaps
    rcases he : s.emit (.gap 65535) .none 0 with ⟨s', b⟩
    rw [he] at h
    cases b with
    | false => exact ⟨st, r, h⟩
    | true =>
      obtain ⟨st', r', h'⟩ := ih s'
      change s' = _ at h
      exact ⟨st', r', by simp only [h']; rw [h]⟩

/-- R147: and the time before a record. -/
theorem State.emitTime_frame (d : Nat) (s : State) : ∃ st r, (s.emitTime d).1 = { s with store := st, recorder := r } := by
  unfold State.emitTime
  split
  · exact ⟨s.store, s.recorder, rfl⟩
  · obtain ⟨st, r, h⟩ := s.emitGaps_frame (d / 65535)
    rcases he : s.emitGaps (d / 65535) with ⟨s', b⟩
    rw [he] at h
    cases b with
    | false => exact ⟨st, r, h⟩
    | true =>
      simp only
      split
      · exact ⟨st, r, h⟩
      · obtain ⟨st', r', h'⟩ := s'.emit_frame (.gap (d % 65535)) .none 0
        change s' = _ at h
        exact ⟨st', r', by rw [h']; rw [h]⟩

/-- R147: a record with its time. -/
theorem State.write_frame (b : RecordBody) (h : Hand) (s : State) :
    ∃ st r, (s.write b h).1 = { s with store := st, recorder := r } := by
  unfold State.write
  obtain ⟨st, r, h1⟩ := s.emitTime_frame s.recorder.since
  rcases he : s.emitTime s.recorder.since with ⟨s', x⟩
  rw [he] at h1
  cases x with
  | false => exact ⟨st, r, h1⟩
  | true =>
    obtain ⟨st', r', h'⟩ := s'.emit_frame b h s'.recorder.since
    change s' = _ at h1
    exact ⟨st', r', by simp only [h']; rw [h1]⟩

/-- Several records. -/
theorem State.writeAll_frame (rs : List (RecordBody × Hand)) (s : State) :
    ∃ st r, (s.writeAll rs).1 = { s with store := st, recorder := r } := by
  induction rs generalizing s with
  | nil => exact ⟨s.store, s.recorder, rfl⟩
  | cons e rs ih =>
    obtain ⟨st, r, h⟩ := s.write_frame e.1 e.2
    unfold State.writeAll
    rcases he : s.write e.1 e.2 with ⟨s', x⟩
    rw [he] at h
    cases x with
    | false => exact ⟨st, r, h⟩
    | true =>
      obtain ⟨st', r', h'⟩ := ih s'
      change s' = _ at h
      exact ⟨st', r', by simp only [h']; rw [h]⟩

/-- R154: the closing records. -/
theorem State.emitClosing_frame (timed : Bool) (rs : List (RecordBody × Hand)) (s : State) :
    ∃ st r, (s.emitClosing timed rs).1 = { s with store := st, recorder := r } := by
  induction rs generalizing s timed with
  | nil => exact ⟨s.store, s.recorder, rfl⟩
  | cons e rs ih =>
    obtain ⟨st, r, h⟩ := s.emit_frame e.1 e.2 (if timed then s.recorder.since else 0)
    obtain ⟨st', r', h'⟩ := ih false (s.emit e.1 e.2 (if timed then s.recorder.since else 0)).1
    exact ⟨st', r', by unfold State.emitClosing; simp only; rw [h', h]⟩

/-- R154: closing the take. -/
theorem State.closeRecording_frame (truncated : Bool) (s : State) :
    ∃ st r, s.closeRecording truncated = { s with store := st, recorder := r } := by
  obtain ⟨st, r, h⟩ := s.emitTime_frame s.recorder.since
  obtain ⟨st', r', h'⟩ := (s.emitTime s.recorder.since).1.emitClosing_frame (s.emitTime s.recorder.since).2 s.recorder.closing
  unfold State.closeRecording
  simp only
  rw [h', h]
  exact ⟨_, _, rfl⟩

/-- R154: the RECORDER_STATE notice. -/
theorem State.recNotify_frame (id : Option Nat) (why : RecReason) (s : State) :
    ∃ ns x, s.recNotify id why = { s with link := { s.link with notices := ns }, stats := x } := by
  unfold State.recNotify
  split
  · exact State.notify_frame _ _
  · exact ⟨s.link.notices, s.stats, rfl⟩

/-- R151: a failed ask closes the take with its notice. -/
theorem State.storeExhausted_frame (s : State) :
    ∃ st r ns x, s.storeExhausted = { s with
      store := st, recorder := r, link := { s.link with notices := ns }, stats := x } := by
  obtain ⟨st, r, h⟩ := s.closeRecording_frame true
  obtain ⟨ns, x, h'⟩ := (s.closeRecording true).recNotify_frame s.recorder.take .storeFull
  exact ⟨st, r, ns, x, by unfold State.storeExhausted; rw [h', h]⟩

/-- R148, R149: a live event delivered to the Recorder changes the store, the Recorder and the notices. -/
theorem State.recordEvent_frame (e : LiveEvent) (s : State) :
    ∃ st r ns x, s.recordEvent e = { s with
      store := st, recorder := r, link := { s.link with notices := ns }, stats := x } := by
  have keep (u : State) : ∃ st r ns x, u = { u with
      store := st, recorder := r, link := { u.link with notices := ns }, stats := x } :=
    ⟨u.store, u.recorder, u.link.notices, u.stats, rfl⟩
  unfold State.recordEvent
  split
  · split
    · unfold State.firstKey State.runTakeClock
      simp only
      split
      · obtain ⟨st, r, h⟩ := State.writeAll_frame (s.pedals.context.records ++ [(.noteOn _ _, e.hand)]) _
        obtain ⟨ns, x, h'⟩ := State.recNotify_frame s.recorder.take .firstKey _
        rw [h', h]
        exact ⟨_, _, _, _, rfl⟩
      · obtain ⟨st, r, h⟩ := State.writeAll_frame (s.pedals.context.records ++ [(.noteOn _ _, e.hand)]) _
        obtain ⟨st', r', ns, x, h'⟩ := State.storeExhausted_frame _
        rw [h', h]
        exact ⟨_, _, _, _, rfl⟩
    · exact keep s
  · unfold State.finishWrite
    obtain ⟨st, r, h⟩ := s.writeAll_frame (recordsFor s.recorder.opens e)
    split
    · rw [h]; exact ⟨_, _, s.link.notices, s.stats, rfl⟩
    · obtain ⟨st', r', ns, x, h'⟩ := State.storeExhausted_frame (s.writeAll (recordsFor s.recorder.opens e)).1
      rw [h', h]
      exact ⟨_, _, _, _, rfl⟩
  · exact keep s

/-! ### Player -/

/-- R170 to R172: releasing the open notes changes the voice table and the player. -/
theorem State.releaseOpen_frame (s : State) :
    ∃ tb, s.releaseOpen = { s with voices := { s.voices with table := tb }, player := { s.player with openNotes := [] } } := by
  have fold (ks : List Nat) (u : State) : ∃ tb, ks.foldl (fun x k => x.noteOff .playback k) u =
      { u with voices := { u.voices with table := tb } } := by
    induction ks generalizing u with
    | nil => exact ⟨u.voices.table, rfl⟩
    | cons k ks ih =>
      obtain ⟨tb, h⟩ := u.noteOff_frame .playback k
      obtain ⟨tb', h'⟩ := ih (u.noteOff .playback k)
      exact ⟨tb', by rw [List.foldl_cons, h', h]⟩
  obtain ⟨tb, h⟩ := fold s.player.openNotes s
  unfold State.releaseOpen
  simp only
  rw [h]
  exact ⟨tb, rfl⟩

/-- R163, R171: a new playback context changes the voice table and that context. -/
theorem State.setContext_frame (c : PedalContext) (b : Bool) (s : State) :
    ∃ tb, s.setContext c b = { s with voices := { s.voices with table := tb }, player := { s.player with context := c } } := by
  have claim (b : Bool) (u : State) : ∃ tb, u.claimIf b = { u with voices := { u.voices with table := tb } } := by
    unfold State.claimIf
    split
    · exact u.pedalClaim_frame .playback
    · exact ⟨u.voices.table, rfl⟩
  unfold State.setContext
  simp only
  obtain ⟨t1, h1⟩ := claim (s.player.context.damper != c.damper) { s with player := { s.player with context := c } }
  rw [h1]
  obtain ⟨t2, h2⟩ := claim (s.player.context.sostenuto != c.sostenuto || b)
    { s with player := { s.player with context := c }, voices := { s.voices with table := t1 } }
  rw [h2]
  obtain ⟨t3, h3⟩ := claim (s.player.context.soft != c.soft)
    { s with player := { s.player with context := c }, voices := { s.voices with table := t2 } }
  rw [h3]
  exact ⟨t3, rfl⟩

/-- R171: the end of a take changes the voice table, the store, the player and the notices. -/
theorem State.endTake_frame (why : PlayReason) (s : State) :
    ∃ tb st p ns x, s.endTake why = { s with
      voices := { s.voices with table := tb }, store := st, player := p, link := { s.link with notices := ns }, stats := x } := by
  obtain ⟨tb, h⟩ := s.releaseOpen_frame
  obtain ⟨tb', h'⟩ := s.releaseOpen.setContext_frame PedalContext.clear false
  unfold State.endTake
  simp only
  obtain ⟨ns, x, h''⟩ := State.notify_frame (n := _) (s := _)
  rw [h'', h', h]
  exact ⟨_, _, _, _, _, rfl⟩

/-- R172: so does the pause, the store apart. -/
theorem State.pausePlay_frame (s : State) :
    ∃ tb p ns x, s.pausePlay = { s with
      voices := { s.voices with table := tb }, player := p, link := { s.link with notices := ns }, stats := x } := by
  obtain ⟨tb, h⟩ := s.releaseOpen_frame
  unfold State.pausePlay
  simp only
  obtain ⟨ns, x, h''⟩ := State.notify_frame (n := _) (s := _)
  rw [h'', h]
  exact ⟨_, _, _, _, rfl⟩

end Sys2Proof.Machine
end

