-- ==== Sys2Proof/Laws/State.lean ====
section
/-! SUPPORT. One lemma per field per named update of the state: what the update leaves as it was, and what it writes. -/

namespace Sys2Proof.Machine

/-! ### setKey -/

@[simp] theorem State.setKey_clock (i : Nat) (k : Key) (s : State) : (s.setKey i k).clock = s.clock := rfl
@[simp] theorem State.setKey_pedals (i : Nat) (k : Key) (s : State) : (s.setKey i k).pedals = s.pedals := rfl
@[simp] theorem State.setKey_router (i : Nat) (k : Key) (s : State) : (s.setKey i k).router = s.router := rfl
@[simp] theorem State.setKey_rail (i : Nat) (k : Key) (s : State) : (s.setKey i k).rail = s.rail := rfl
@[simp] theorem State.setKey_voices (i : Nat) (k : Key) (s : State) : (s.setKey i k).voices = s.voices := rfl
@[simp] theorem State.setKey_fetch (i : Nat) (k : Key) (s : State) : (s.setKey i k).fetch = s.fetch := rfl
@[simp] theorem State.setKey_mixer (i : Nat) (k : Key) (s : State) : (s.setKey i k).mixer = s.mixer := rfl
@[simp] theorem State.setKey_store (i : Nat) (k : Key) (s : State) : (s.setKey i k).store = s.store := rfl
@[simp] theorem State.setKey_recorder (i : Nat) (k : Key) (s : State) : (s.setKey i k).recorder = s.recorder := rfl
@[simp] theorem State.setKey_packer (i : Nat) (k : Key) (s : State) : (s.setKey i k).packer = s.packer := rfl
@[simp] theorem State.setKey_player (i : Nat) (k : Key) (s : State) : (s.setKey i k).player = s.player := rfl
@[simp] theorem State.setKey_link (i : Nat) (k : Key) (s : State) : (s.setKey i k).link = s.link := rfl
@[simp] theorem State.setKey_stats (i : Nat) (k : Key) (s : State) : (s.setKey i k).stats = s.stats := rfl
@[simp] theorem State.setKey_pins (i : Nat) (k : Key) (s : State) : (s.setKey i k).pins = s.pins := rfl
@[simp] theorem State.setKey_soundMem (i : Nat) (k : Key) (s : State) : (s.setKey i k).soundMem = s.soundMem := rfl
@[simp] theorem State.setKey_pending (i : Nat) (k : Key) (s : State) : (s.setKey i k).pending = s.pending := rfl
@[simp] theorem State.setKey_kinds (i : Nat) (k : Key) (s : State) : (s.setKey i k).kinds = s.kinds := rfl

/-! ### tally -/

@[simp] theorem State.tally_clock (c : Counter) (s : State) : (s.tally c).clock = s.clock := rfl
@[simp] theorem State.tally_scanner (c : Counter) (s : State) : (s.tally c).scanner = s.scanner := rfl
@[simp] theorem State.tally_pedals (c : Counter) (s : State) : (s.tally c).pedals = s.pedals := rfl
@[simp] theorem State.tally_router (c : Counter) (s : State) : (s.tally c).router = s.router := rfl
@[simp] theorem State.tally_rail (c : Counter) (s : State) : (s.tally c).rail = s.rail := rfl
@[simp] theorem State.tally_voices (c : Counter) (s : State) : (s.tally c).voices = s.voices := rfl
@[simp] theorem State.tally_fetch (c : Counter) (s : State) : (s.tally c).fetch = s.fetch := rfl
@[simp] theorem State.tally_mixer (c : Counter) (s : State) : (s.tally c).mixer = s.mixer := rfl
@[simp] theorem State.tally_store (c : Counter) (s : State) : (s.tally c).store = s.store := rfl
@[simp] theorem State.tally_recorder (c : Counter) (s : State) : (s.tally c).recorder = s.recorder := rfl
@[simp] theorem State.tally_packer (c : Counter) (s : State) : (s.tally c).packer = s.packer := rfl
@[simp] theorem State.tally_player (c : Counter) (s : State) : (s.tally c).player = s.player := rfl
@[simp] theorem State.tally_link (c : Counter) (s : State) : (s.tally c).link = s.link := rfl
@[simp] theorem State.tally_pins (c : Counter) (s : State) : (s.tally c).pins = s.pins := rfl
@[simp] theorem State.tally_soundMem (c : Counter) (s : State) : (s.tally c).soundMem = s.soundMem := rfl
@[simp] theorem State.tally_pending (c : Counter) (s : State) : (s.tally c).pending = s.pending := rfl
@[simp] theorem State.tally_kinds (c : Counter) (s : State) : (s.tally c).kinds = s.kinds := rfl

/-! ### popRequest -/

@[simp] theorem State.popRequest_clock (s : State) : (s.popRequest).clock = s.clock := rfl
@[simp] theorem State.popRequest_scanner (s : State) : (s.popRequest).scanner = s.scanner := rfl
@[simp] theorem State.popRequest_pedals (s : State) : (s.popRequest).pedals = s.pedals := rfl
@[simp] theorem State.popRequest_router (s : State) : (s.popRequest).router = s.router := rfl
@[simp] theorem State.popRequest_rail (s : State) : (s.popRequest).rail = s.rail := rfl
@[simp] theorem State.popRequest_voices (s : State) : (s.popRequest).voices = s.voices := rfl
@[simp] theorem State.popRequest_fetch (s : State) : (s.popRequest).fetch = s.fetch := rfl
@[simp] theorem State.popRequest_mixer (s : State) : (s.popRequest).mixer = s.mixer := rfl
@[simp] theorem State.popRequest_store (s : State) : (s.popRequest).store = s.store := rfl
@[simp] theorem State.popRequest_recorder (s : State) : (s.popRequest).recorder = s.recorder := rfl
@[simp] theorem State.popRequest_packer (s : State) : (s.popRequest).packer = s.packer := rfl
@[simp] theorem State.popRequest_player (s : State) : (s.popRequest).player = s.player := rfl
@[simp] theorem State.popRequest_stats (s : State) : (s.popRequest).stats = s.stats := rfl
@[simp] theorem State.popRequest_pins (s : State) : (s.popRequest).pins = s.pins := rfl
@[simp] theorem State.popRequest_soundMem (s : State) : (s.popRequest).soundMem = s.soundMem := rfl
@[simp] theorem State.popRequest_pending (s : State) : (s.popRequest).pending = s.pending := rfl
@[simp] theorem State.popRequest_kinds (s : State) : (s.popRequest).kinds = s.kinds := rfl

/-! ### placeReply -/

@[simp] theorem State.placeReply_clock (f : Frame) (g : Byte) (x : Status) (c : Content) (s : State) : (s.placeReply f g x c).clock = s.clock := rfl
@[simp] theorem State.placeReply_scanner (f : Frame) (g : Byte) (x : Status) (c : Content) (s : State) : (s.placeReply f g x c).scanner = s.scanner := rfl
@[simp] theorem State.placeReply_pedals (f : Frame) (g : Byte) (x : Status) (c : Content) (s : State) : (s.placeReply f g x c).pedals = s.pedals := rfl
@[simp] theorem State.placeReply_router (f : Frame) (g : Byte) (x : Status) (c : Content) (s : State) : (s.placeReply f g x c).router = s.router := rfl
@[simp] theorem State.placeReply_rail (f : Frame) (g : Byte) (x : Status) (c : Content) (s : State) : (s.placeReply f g x c).rail = s.rail := rfl
@[simp] theorem State.placeReply_voices (f : Frame) (g : Byte) (x : Status) (c : Content) (s : State) : (s.placeReply f g x c).voices = s.voices := rfl
@[simp] theorem State.placeReply_fetch (f : Frame) (g : Byte) (x : Status) (c : Content) (s : State) : (s.placeReply f g x c).fetch = s.fetch := rfl
@[simp] theorem State.placeReply_mixer (f : Frame) (g : Byte) (x : Status) (c : Content) (s : State) : (s.placeReply f g x c).mixer = s.mixer := rfl
@[simp] theorem State.placeReply_store (f : Frame) (g : Byte) (x : Status) (c : Content) (s : State) : (s.placeReply f g x c).store = s.store := rfl
@[simp] theorem State.placeReply_recorder (f : Frame) (g : Byte) (x : Status) (c : Content) (s : State) : (s.placeReply f g x c).recorder = s.recorder := rfl
@[simp] theorem State.placeReply_packer (f : Frame) (g : Byte) (x : Status) (c : Content) (s : State) : (s.placeReply f g x c).packer = s.packer := rfl
@[simp] theorem State.placeReply_player (f : Frame) (g : Byte) (x : Status) (c : Content) (s : State) : (s.placeReply f g x c).player = s.player := rfl
@[simp] theorem State.placeReply_stats (f : Frame) (g : Byte) (x : Status) (c : Content) (s : State) : (s.placeReply f g x c).stats = s.stats := rfl
@[simp] theorem State.placeReply_pins (f : Frame) (g : Byte) (x : Status) (c : Content) (s : State) : (s.placeReply f g x c).pins = s.pins := rfl
@[simp] theorem State.placeReply_soundMem (f : Frame) (g : Byte) (x : Status) (c : Content) (s : State) : (s.placeReply f g x c).soundMem = s.soundMem := rfl
@[simp] theorem State.placeReply_pending (f : Frame) (g : Byte) (x : Status) (c : Content) (s : State) : (s.placeReply f g x c).pending = s.pending := rfl
@[simp] theorem State.placeReply_kinds (f : Frame) (g : Byte) (x : Status) (c : Content) (s : State) : (s.placeReply f g x c).kinds = s.kinds := rfl

/-! ### answering -/

@[simp] theorem State.answering_clock (f : Frame) (r : List Frame) (x : Status) (c : Content) (s : State) : (s.answering f r x c).clock = s.clock := rfl
@[simp] theorem State.answering_scanner (f : Frame) (r : List Frame) (x : Status) (c : Content) (s : State) : (s.answering f r x c).scanner = s.scanner := rfl
@[simp] theorem State.answering_pedals (f : Frame) (r : List Frame) (x : Status) (c : Content) (s : State) : (s.answering f r x c).pedals = s.pedals := rfl
@[simp] theorem State.answering_router (f : Frame) (r : List Frame) (x : Status) (c : Content) (s : State) : (s.answering f r x c).router = s.router := rfl
@[simp] theorem State.answering_rail (f : Frame) (r : List Frame) (x : Status) (c : Content) (s : State) : (s.answering f r x c).rail = s.rail := rfl
@[simp] theorem State.answering_voices (f : Frame) (r : List Frame) (x : Status) (c : Content) (s : State) : (s.answering f r x c).voices = s.voices := rfl
@[simp] theorem State.answering_fetch (f : Frame) (r : List Frame) (x : Status) (c : Content) (s : State) : (s.answering f r x c).fetch = s.fetch := rfl
@[simp] theorem State.answering_mixer (f : Frame) (r : List Frame) (x : Status) (c : Content) (s : State) : (s.answering f r x c).mixer = s.mixer := rfl
@[simp] theorem State.answering_store (f : Frame) (r : List Frame) (x : Status) (c : Content) (s : State) : (s.answering f r x c).store = s.store := rfl
@[simp] theorem State.answering_recorder (f : Frame) (r : List Frame) (x : Status) (c : Content) (s : State) : (s.answering f r x c).recorder = s.recorder := rfl
@[simp] theorem State.answering_packer (f : Frame) (r : List Frame) (x : Status) (c : Content) (s : State) : (s.answering f r x c).packer = s.packer := rfl
@[simp] theorem State.answering_player (f : Frame) (r : List Frame) (x : Status) (c : Content) (s : State) : (s.answering f r x c).player = s.player := rfl
@[simp] theorem State.answering_stats (f : Frame) (r : List Frame) (x : Status) (c : Content) (s : State) : (s.answering f r x c).stats = s.stats := rfl
@[simp] theorem State.answering_pins (f : Frame) (r : List Frame) (x : Status) (c : Content) (s : State) : (s.answering f r x c).pins = s.pins := rfl
@[simp] theorem State.answering_soundMem (f : Frame) (r : List Frame) (x : Status) (c : Content) (s : State) : (s.answering f r x c).soundMem = s.soundMem := rfl
@[simp] theorem State.answering_pending (f : Frame) (r : List Frame) (x : Status) (c : Content) (s : State) : (s.answering f r x c).pending = s.pending := rfl
@[simp] theorem State.answering_kinds (f : Frame) (r : List Frame) (x : Status) (c : Content) (s : State) : (s.answering f r x c).kinds = s.kinds := rfl

/-! ### queueFront -/

@[simp] theorem State.queueFront_clock (c : Instr) (s : State) : (s.queueFront c).clock = s.clock := rfl
@[simp] theorem State.queueFront_scanner (c : Instr) (s : State) : (s.queueFront c).scanner = s.scanner := rfl
@[simp] theorem State.queueFront_pedals (c : Instr) (s : State) : (s.queueFront c).pedals = s.pedals := rfl
@[simp] theorem State.queueFront_router (c : Instr) (s : State) : (s.queueFront c).router = s.router := rfl
@[simp] theorem State.queueFront_rail (c : Instr) (s : State) : (s.queueFront c).rail = s.rail := rfl
@[simp] theorem State.queueFront_voices (c : Instr) (s : State) : (s.queueFront c).voices = s.voices := rfl
@[simp] theorem State.queueFront_fetch (c : Instr) (s : State) : (s.queueFront c).fetch = s.fetch := rfl
@[simp] theorem State.queueFront_mixer (c : Instr) (s : State) : (s.queueFront c).mixer = s.mixer := rfl
@[simp] theorem State.queueFront_store (c : Instr) (s : State) : (s.queueFront c).store = s.store := rfl
@[simp] theorem State.queueFront_recorder (c : Instr) (s : State) : (s.queueFront c).recorder = s.recorder := rfl
@[simp] theorem State.queueFront_packer (c : Instr) (s : State) : (s.queueFront c).packer = s.packer := rfl
@[simp] theorem State.queueFront_player (c : Instr) (s : State) : (s.queueFront c).player = s.player := rfl
@[simp] theorem State.queueFront_link (c : Instr) (s : State) : (s.queueFront c).link = s.link := rfl
@[simp] theorem State.queueFront_stats (c : Instr) (s : State) : (s.queueFront c).stats = s.stats := rfl
@[simp] theorem State.queueFront_pins (c : Instr) (s : State) : (s.queueFront c).pins = s.pins := rfl
@[simp] theorem State.queueFront_soundMem (c : Instr) (s : State) : (s.queueFront c).soundMem = s.soundMem := rfl

/-! ### elapse -/

@[simp] theorem State.elapse_pedals (n : Nat) (s : State) : (s.elapse n).pedals = s.pedals := rfl
@[simp] theorem State.elapse_router (n : Nat) (s : State) : (s.elapse n).router = s.router := rfl
@[simp] theorem State.elapse_voices (n : Nat) (s : State) : (s.elapse n).voices = s.voices := rfl
@[simp] theorem State.elapse_fetch (n : Nat) (s : State) : (s.elapse n).fetch = s.fetch := rfl
@[simp] theorem State.elapse_store (n : Nat) (s : State) : (s.elapse n).store = s.store := rfl
@[simp] theorem State.elapse_link (n : Nat) (s : State) : (s.elapse n).link = s.link := rfl
@[simp] theorem State.elapse_stats (n : Nat) (s : State) : (s.elapse n).stats = s.stats := rfl
@[simp] theorem State.elapse_pins (n : Nat) (s : State) : (s.elapse n).pins = s.pins := rfl
@[simp] theorem State.elapse_soundMem (n : Nat) (s : State) : (s.elapse n).soundMem = s.soundMem := rfl
@[simp] theorem State.elapse_pending (n : Nat) (s : State) : (s.elapse n).pending = s.pending := rfl
@[simp] theorem State.elapse_kinds (n : Nat) (s : State) : (s.elapse n).kinds = s.kinds := rfl

/-! ### upTo -/

@[simp] theorem State.upTo_pedals (t : Time) (s : State) : (s.upTo t).pedals = s.pedals := rfl
@[simp] theorem State.upTo_router (t : Time) (s : State) : (s.upTo t).router = s.router := rfl
@[simp] theorem State.upTo_voices (t : Time) (s : State) : (s.upTo t).voices = s.voices := rfl
@[simp] theorem State.upTo_fetch (t : Time) (s : State) : (s.upTo t).fetch = s.fetch := rfl
@[simp] theorem State.upTo_store (t : Time) (s : State) : (s.upTo t).store = s.store := rfl
@[simp] theorem State.upTo_link (t : Time) (s : State) : (s.upTo t).link = s.link := rfl
@[simp] theorem State.upTo_stats (t : Time) (s : State) : (s.upTo t).stats = s.stats := rfl
@[simp] theorem State.upTo_pins (t : Time) (s : State) : (s.upTo t).pins = s.pins := rfl
@[simp] theorem State.upTo_soundMem (t : Time) (s : State) : (s.upTo t).soundMem = s.soundMem := rfl
@[simp] theorem State.upTo_pending (t : Time) (s : State) : (s.upTo t).pending = s.pending := rfl
@[simp] theorem State.upTo_kinds (t : Time) (s : State) : (s.upTo t).kinds = s.kinds := rfl

/-! ### What an update writes -/

@[simp] theorem State.popRequest_link (s : State) : s.popRequest.link = { s.link with requests := s.link.requests.tail } := rfl
@[simp] theorem State.placeReply_link (f : Frame) (g : Byte) (x : Status) (c : Content) (s : State) :
    (s.placeReply f g x c).link = { s.link with
      reply := some { reply := { kind := f.kind, tag := g, status := x, content := c }, begun := 0, parts := c.parts } } := rfl
@[simp] theorem State.answering_link (f : Frame) (r : List Frame) (x : Status) (c : Content) (s : State) :
    (s.answering f r x c).link = s.link.answering f r x c := rfl
@[simp] theorem State.tally_stats (c : Counter) (s : State) : (s.tally c).stats = updateAt (· + 1) c.place s.stats := rfl
@[simp] theorem State.setKey_scanner (i : Nat) (k : Key) (s : State) :
    (s.setKey i k).scanner = { s.scanner with keys := updateAt (fun _ => k) i s.scanner.keys } := rfl
@[simp] theorem State.queueFront_pending (c : Instr) (s : State) : (s.queueFront c).pending = c :: s.pending := rfl
@[simp] theorem State.queueFront_kinds (c : Instr) (s : State) : (s.queueFront c).kinds = s.kinds := rfl

/-- Time at part-clock time `t`: the clock reads `t` (log 1). -/
@[simp] theorem State.upTo_clock (t : Time) (s : State) : (s.upTo t).clock = t := by
  change s.clock + BitVec.ofNat 32 (t - s.clock).toNat = t
  rw [BitVec.ofNat_toNat, BitVec.setWidth_eq, BitVec.add_comm, BitVec.sub_add_cancel]

theorem State.upTo_scanner (t : Time) (s : State) :
    (s.upTo t).scanner = { s.scanner with settle := Timer.after (since s.clock t) s.scanner.settle } := rfl
theorem State.upTo_mixer (t : Time) (s : State) :
    (s.upTo t).mixer = { s.mixer with plugTimer := Timer.after (since s.clock t) s.mixer.plugTimer } := rfl
theorem State.upTo_recorder (t : Time) (s : State) :
    (s.upTo t).recorder = { s.recorder with left := s.recorder.left - since s.clock t } := rfl
theorem State.upTo_packer (t : Time) (s : State) :
    (s.upTo t).packer = { s.packer with timer := Timer.after (since s.clock t) s.packer.timer } := rfl

/-! ### What time leaves of the blocks that hold timers -/

@[simp] theorem State.upTo_scanner_keys (t : Time) (s : State) : (s.upTo t).scanner.keys = s.scanner.keys := rfl
@[simp] theorem State.upTo_scanner_thr (t : Time) (s : State) : (s.upTo t).scanner.thr = s.scanner.thr := rfl
@[simp] theorem State.upTo_scanner_hammerCurve (t : Time) (s : State) : (s.upTo t).scanner.hammerCurve = s.scanner.hammerCurve := rfl
@[simp] theorem State.upTo_scanner_keyCurve (t : Time) (s : State) : (s.upTo t).scanner.keyCurve = s.scanner.keyCurve := rfl
@[simp] theorem State.upTo_scanner_target (t : Time) (s : State) : (s.upTo t).scanner.target = s.scanner.target := rfl
@[simp] theorem State.upTo_scanner_capturing (t : Time) (s : State) : (s.upTo t).scanner.capturing = s.scanner.capturing := rfl

@[simp] theorem State.upTo_rail_state (t : Time) (s : State) : (s.upTo t).rail.state = s.rail.state := rfl
@[simp] theorem State.upTo_rail_position (t : Time) (s : State) : (s.upTo t).rail.position = s.rail.position := rfl
@[simp] theorem State.upTo_rail_drive (t : Time) (s : State) : (s.upTo t).rail.drive = s.rail.drive := rfl
@[simp] theorem State.upTo_rail_duty (t : Time) (s : State) : (s.upTo t).rail.duty = s.rail.duty := rfl
@[simp] theorem State.upTo_rail_phase (t : Time) (s : State) : (s.upTo t).rail.phase = s.rail.phase := rfl
@[simp] theorem State.upTo_rail_occupied (t : Time) (s : State) : (s.upTo t).rail.occupied = s.rail.occupied := rfl
@[simp] theorem State.upTo_rail_lastFault (t : Time) (s : State) : (s.upTo t).rail.lastFault = s.rail.lastFault := rfl
@[simp] theorem State.upTo_rail_config (t : Time) (s : State) : (s.upTo t).rail.config = s.rail.config := rfl
@[simp] theorem State.upTo_rail_autoHomeDue (t : Time) (s : State) : (s.upTo t).rail.autoHomeDue = s.rail.autoHomeDue := rfl

@[simp] theorem State.upTo_mixer_settings (t : Time) (s : State) : (s.upTo t).mixer.settings = s.mixer.settings := rfl
@[simp] theorem State.upTo_mixer_inForce (t : Time) (s : State) : (s.upTo t).mixer.inForce = s.mixer.inForce := rfl
@[simp] theorem State.upTo_mixer_ramp (t : Time) (s : State) : (s.upTo t).mixer.ramp = s.mixer.ramp := rfl
@[simp] theorem State.upTo_mixer_width (t : Time) (s : State) : (s.upTo t).mixer.width = s.mixer.width := rfl
@[simp] theorem State.upTo_mixer_widthInForce (t : Time) (s : State) : (s.upTo t).mixer.widthInForce = s.mixer.widthInForce := rfl
@[simp] theorem State.upTo_mixer_silenceFlag (t : Time) (s : State) : (s.upTo t).mixer.silenceFlag = s.mixer.silenceFlag := rfl
@[simp] theorem State.upTo_mixer_silentOut (t : Time) (s : State) : (s.upTo t).mixer.silentOut = s.mixer.silentOut := rfl
@[simp] theorem State.upTo_mixer_plugDetect (t : Time) (s : State) : (s.upTo t).mixer.plugDetect = s.mixer.plugDetect := rfl
@[simp] theorem State.upTo_mixer_plug (t : Time) (s : State) : (s.upTo t).mixer.plug = s.mixer.plug := rfl
@[simp] theorem State.upTo_mixer_muteMode (t : Time) (s : State) : (s.upTo t).mixer.muteMode = s.mixer.muteMode := rfl
@[simp] theorem State.upTo_mixer_latched (t : Time) (s : State) : (s.upTo t).mixer.latched = s.mixer.latched := rfl
@[simp] theorem State.upTo_mixer_frameInBlock (t : Time) (s : State) : (s.upTo t).mixer.frameInBlock = s.mixer.frameInBlock := rfl
@[simp] theorem State.upTo_mixer_port (t : Time) (s : State) : (s.upTo t).mixer.port = s.mixer.port := rfl

@[simp] theorem State.upTo_recorder_state (t : Time) (s : State) : (s.upTo t).recorder.state = s.recorder.state := rfl
@[simp] theorem State.upTo_recorder_take (t : Time) (s : State) : (s.upTo t).recorder.take = s.recorder.take := rfl
@[simp] theorem State.upTo_recorder_clock (t : Time) (s : State) : (s.upTo t).recorder.clock = s.recorder.clock := rfl
@[simp] theorem State.upTo_recorder_last (t : Time) (s : State) : (s.upTo t).recorder.last = s.recorder.last := rfl
@[simp] theorem State.upTo_recorder_opens (t : Time) (s : State) : (s.upTo t).recorder.opens = s.recorder.opens := rfl

@[simp] theorem State.upTo_packer_enabled (t : Time) (s : State) : (s.upTo t).packer.enabled = s.packer.enabled := rfl
@[simp] theorem State.upTo_packer_mode (t : Time) (s : State) : (s.upTo t).packer.mode = s.packer.mode := rfl
@[simp] theorem State.upTo_packer_perPacket (t : Time) (s : State) : (s.upTo t).packer.perPacket = s.packer.perPacket := rfl
@[simp] theorem State.upTo_packer_hold (t : Time) (s : State) : (s.upTo t).packer.hold = s.packer.hold := rfl
@[simp] theorem State.upTo_packer_queue (t : Time) (s : State) : (s.upTo t).packer.queue = s.packer.queue := rfl
@[simp] theorem State.upTo_packer_openPacket (t : Time) (s : State) : (s.upTo t).packer.openPacket = s.packer.openPacket := rfl
@[simp] theorem State.upTo_packer_ready (t : Time) (s : State) : (s.upTo t).packer.ready = s.packer.ready := rfl
@[simp] theorem State.upTo_packer_backlog (t : Time) (s : State) : (s.upTo t).packer.backlog = s.packer.backlog := rfl
@[simp] theorem State.upTo_packer_gap (t : Time) (s : State) : (s.upTo t).packer.gap = s.packer.gap := rfl

@[simp] theorem State.upTo_player_state (t : Time) (s : State) : (s.upTo t).player.state = s.player.state := rfl
@[simp] theorem State.upTo_player_take (t : Time) (s : State) : (s.upTo t).player.take = s.player.take := rfl
@[simp] theorem State.upTo_player_pos (t : Time) (s : State) : (s.upTo t).player.pos = s.player.pos := rfl
@[simp] theorem State.upTo_player_clock (t : Time) (s : State) : (s.upTo t).player.clock = s.player.clock := rfl
@[simp] theorem State.upTo_player_tickStart (t : Time) (s : State) : (s.upTo t).player.tickStart = s.player.tickStart := rfl
@[simp] theorem State.upTo_player_tempo (t : Time) (s : State) : (s.upTo t).player.tempo = s.player.tempo := rfl
@[simp] theorem State.upTo_player_staged (t : Time) (s : State) : (s.upTo t).player.staged = s.player.staged := rfl
@[simp] theorem State.upTo_player_fromMark (t : Time) (s : State) : (s.upTo t).player.fromMark = s.player.fromMark := rfl
@[simp] theorem State.upTo_player_toMark (t : Time) (s : State) : (s.upTo t).player.toMark = s.player.toMark := rfl
@[simp] theorem State.upTo_player_loopPos (t : Time) (s : State) : (s.upTo t).player.loopPos = s.player.loopPos := rfl
@[simp] theorem State.upTo_player_loopTime (t : Time) (s : State) : (s.upTo t).player.loopTime = s.player.loopTime := rfl
@[simp] theorem State.upTo_player_repeats (t : Time) (s : State) : (s.upTo t).player.repeats = s.player.repeats := rfl
@[simp] theorem State.upTo_player_parts (t : Time) (s : State) : (s.upTo t).player.parts = s.player.parts := rfl
@[simp] theorem State.upTo_player_reportMarks (t : Time) (s : State) : (s.upTo t).player.reportMarks = s.player.reportMarks := rfl
@[simp] theorem State.upTo_player_mark (t : Time) (s : State) : (s.upTo t).player.mark = s.player.mark := rfl
@[simp] theorem State.upTo_player_halt (t : Time) (s : State) : (s.upTo t).player.halt = s.player.halt := rfl
@[simp] theorem State.upTo_player_snapshot (t : Time) (s : State) : (s.upTo t).player.snapshot = s.player.snapshot := rfl
@[simp] theorem State.upTo_player_context (t : Time) (s : State) : (s.upTo t).player.context = s.player.context := rfl
@[simp] theorem State.upTo_player_openNotes (t : Time) (s : State) : (s.upTo t).player.openNotes = s.player.openNotes := rfl
@[simp] theorem State.upTo_player_waitPending (t : Time) (s : State) : (s.upTo t).player.waitPending = s.player.waitPending := rfl
@[simp] theorem State.upTo_player_slotA (t : Time) (s : State) : (s.upTo t).player.slotA = s.player.slotA := rfl
@[simp] theorem State.upTo_player_slotB (t : Time) (s : State) : (s.upTo t).player.slotB = s.player.slotB := rfl
@[simp] theorem State.upTo_player_expected (t : Time) (s : State) : (s.upTo t).player.expected = s.player.expected := rfl
@[simp] theorem State.upTo_player_recent (t : Time) (s : State) : (s.upTo t).player.recent = s.player.recent := rfl
@[simp] theorem State.upTo_player_window (t : Time) (s : State) : (s.upTo t).player.window = s.player.window := rfl
@[simp] theorem State.upTo_player_timeout (t : Time) (s : State) : (s.upTo t).player.timeout = s.player.timeout := rfl
@[simp] theorem State.upTo_player_waitStart (t : Time) (s : State) : (s.upTo t).player.waitStart = s.player.waitStart := rfl
@[simp] theorem State.upTo_player_hits (t : Time) (s : State) : (s.upTo t).player.hits = s.player.hits := rfl
@[simp] theorem State.upTo_player_misses (t : Time) (s : State) : (s.upTo t).player.misses = s.player.misses := rfl
@[simp] theorem State.upTo_player_wrong (t : Time) (s : State) : (s.upTo t).player.wrong = s.player.wrong := rfl
@[simp] theorem State.upTo_player_carry (t : Time) (s : State) : (s.upTo t).player.carry = s.player.carry := rfl
@[simp] theorem State.upTo_player_resume (t : Time) (s : State) : (s.upTo t).player.resume = s.player.resume := rfl

/-- R57: driven time grows while the motor is driven. -/
theorem State.upTo_rail_motion (t : Time) (s : State) :
    (s.upTo t).rail.motion =
      if s.rail.driven then s.rail.motion.map fun m => { m with driven := m.driven + since s.clock t } else s.rail.motion := rfl

/-- R67: the moment of a STALL or TIMEOUT ends as soon as time passes (log 18). -/
theorem State.upTo_rail_faultNow (t : Time) (s : State) :
    (s.upTo t).rail.faultNow = (s.rail.faultNow && since s.clock t == 0) := rfl

@[simp] theorem State.upTo_rail_driven (t : Time) (s : State) : (s.upTo t).rail.driven = s.rail.driven := by
  simp only [Rail.driven, State.upTo_rail_drive]

end Sys2Proof.Machine
end

