-- ==== Sys2Proof/Laws/Link.lean ====
section
/-! SUPPORT. What taking a request and choosing the next frame can do, said once. -/

namespace Sys2Proof.Machine

/-- R188: with a frame on the line nothing is chosen. -/
theorem State.arbitrate_busy {s : State} {x : TxFrame} (h : s.link.tx = some x) : s.arbitrate = s := by
  simp [State.arbitrate, h]

/-- R188: before READY, with no READY notice placed, nothing is chosen. -/
theorem State.arbitrate_starting {s : State} (h : s.link.ready = false) (h' : s.link.readyPlace = none) :
    s.arbitrate = s := by
  unfold State.arbitrate
  split
  · rfl
  · simp [h, h']

/-- R185: the head frame of a state that offers one is the one taken. -/
theorem State.offers_head {s : State} {q : Request} {f : Frame} {rest : List Frame} (h : s.offers q f rest) : s.requestHead = some f := by
  obtain ⟨⟨h1, _, h3, h4, h5⟩, _⟩ := h
  simp [State.requestHead, h1, h3, h4, h5]

/-- R185: the head frame of a state that offers it passes the link's checks and names the request. -/
theorem State.offers_requestOf {s : State} {q : Request} {f : Frame} {rest : List Frame} (h : s.offers q f rest) :
    s.requestOf f = some q := by
  obtain ⟨_, hc, ht, row, hr, hq, hl⟩ := h
  have hc' : f.isRequest = true := by simp [Frame.isRequest, Frame.classCode, hc]
  have hk : s.kindOf f = some row := hr
  have hn : s.linkCheck f = none := by
    unfold State.linkCheck
    rw [hc', if_neg (by decide), if_neg ht, hk]
    simp [hl]
  simp [State.requestOf, hn, hk, hq]

/-- R186, R188: placing a reply while the link is READY leaves the link answering. -/
theorem State.placeReply_arbitrate {s : State} (f : Frame) (rest : List Frame) (x : Status) (c : Content)
    (h1 : s.link.ready = true) (h2 : s.link.readyPlace = none) (h3 : s.link.reply = none) (h4 : s.link.restart ≠ .replied)
    (h5 : s.link.requests = rest) : (s.placeReply f f.tag x c).arbitrate = s.answering f rest x c := by
  cases s with
  | mk clock scanner pedals router rail voices fetch mixer store recorder packer player link stats pins soundMem pending kinds =>
  cases link with
  | mk ready start rxFrame rxLast requests reply notices readyPlace tx restart source =>
  simp only at h1 h2 h3 h4 h5
  subst h1 h2 h3 h5
  cases tx with
  | some y => simp [State.arbitrate, State.placeReply, State.answering, Link.answering]
  | none =>
    simp [State.arbitrate, State.placeReply, State.answering, Link.answering, State.beginReply, h4]

/-- R185: a request that is offered is run on the state at its time with the queue's rest, and answered. -/
theorem State.takeRequest_offers {s : State} {q : Request} {f : Frame} {rest : List Frame} (t : Time)
    (run : State → State × Status × Content) (h : s.offers q f rest)
    (k1 : (run (s.upTo t).popRequest).1.link.ready = true)
    (k2 : (run (s.upTo t).popRequest).1.link.readyPlace = none)
    (k3 : (run (s.upTo t).popRequest).1.link.reply = none)
    (k4 : (run (s.upTo t).popRequest).1.link.restart ≠ .replied)
    (k5 : (run (s.upTo t).popRequest).1.link.requests = rest) :
    s.takeRequest q t run =
      (run (s.upTo t).popRequest).1.answering f rest (run (s.upTo t).popRequest).2.1 (run (s.upTo t).popRequest).2.2 := by
  have hh : (s.upTo t).requestHead = some f := State.offers_head (s := s.upTo t) h
  have hc : (s.upTo t).requestOf f = some q := State.offers_requestOf (s := s.upTo t) h
  simp only [State.takeRequest, hh, hc, if_true]
  exact State.placeReply_arbitrate f rest _ _ k1 k2 k3 k4 k5

/-- What `State.offers` says of the link once the head has left the queue. -/
theorem State.offers_popRequest {s : State} {q : Request} {f : Frame} {rest : List Frame} (t : Time) (h : s.offers q f rest) :
    (s.upTo t).popRequest.link.ready = true ∧ (s.upTo t).popRequest.link.readyPlace = none
      ∧ (s.upTo t).popRequest.link.reply = none ∧ (s.upTo t).popRequest.link.restart = .none
      ∧ (s.upTo t).popRequest.link.requests = rest := by
  obtain ⟨⟨h1, h2, h3, h4, h5⟩, _⟩ := h
  simp [h1, h2, h3, h4, h5]

/-- A request whose run keeps the link is answered on the state at its time. -/
theorem State.takeRequest_keeps {s : State} {q : Request} {f : Frame} {rest : List Frame} (t : Time)
    (run : State → State × Status × Content) (h : s.offers q f rest)
    (k : (run (s.upTo t).popRequest).1.link = (s.upTo t).popRequest.link) :
    s.takeRequest q t run =
      (run (s.upTo t).popRequest).1.answering f rest (run (s.upTo t).popRequest).2.1 (run (s.upTo t).popRequest).2.2 := by
  obtain ⟨h1, h2, h3, h4, h5⟩ := State.offers_popRequest t h
  exact State.takeRequest_offers t run h (by rw [k, h1]) (by rw [k, h2]) (by rw [k, h3]) (by rw [k, h4]; decide)
    (by rw [k, h5])

/-- Answering overwrites the queue, so it does not matter whether the head had left it. -/
theorem Link.answering_requests (l : Link) (q : List Frame) (f : Frame) (rest : List Frame) (x : Status) (c : Content) :
    ({ l with requests := q } : Link).answering f rest x c = l.answering f rest x c := by
  cases htx : l.tx <;> simp [Link.answering, htx]

/-- R185: a request that only reads is answered on the state at its time. -/
theorem State.takeRequest_reading {s : State} {q : Request} {f : Frame} {rest : List Frame} (t : Time)
    (run : State → Status × Content) (h : s.offers q f rest) :
    s.takeRequest q t (reading run) =
      (s.upTo t).answering f rest (run (s.upTo t).popRequest).1 (run (s.upTo t).popRequest).2 := by
  rw [State.takeRequest_keeps t _ h rfl]
  simp only [reading, State.answering, State.popRequest, Link.answering_requests]

/-- The state with `rest` as its request queue: what a request finds once its frame is taken. -/
def State.withRequests (rest : List Frame) (s : State) : State := { s with link := { s.link with requests := rest } }

/-- A notice does not see the request queue. -/
theorem State.withRequests_notify (rest : List Frame) (n : Notice) (s : State) :
    (s.withRequests rest).notify n = (s.notify n).withRequests rest := by
  by_cases h : s.link.notices.length < 16 <;> simp [State.notify, State.withRequests, h, State.tally]

/-- The link is as `State.offers` has it, but for its queues. -/
def Link.taking (l : Link) : Prop :=
  l.ready = true ∧ l.readyPlace = none ∧ l.reply = none ∧ l.restart ≠ .replied

/-- An offering state takes. -/
theorem State.offers_taking {s : State} {q : Request} {f : Frame} {rest : List Frame} (t : Time) (h : s.offers q f rest) :
    (s.upTo t).link.taking := by
  obtain ⟨⟨h1, h2, h3, h4, _⟩, _⟩ := h
  exact ⟨h1, h2, h3, by simp [h4]⟩

/-- A notice keeps the link taking. -/
theorem State.notify_taking {s : State} (n : Notice) (h : s.link.taking) : (s.notify n).link.taking := by
  unfold State.notify
  split <;> exact h

/-- R185: a request offered, run on the state at its time with the queue's rest, is answered on the state its run leaves. -/
theorem State.takeRequest_answers {s : State} {q : Request} {f : Frame} {rest : List Frame} {t : Time}
    {run : State → State × Status × Content} {v : State} {x : Status} {c : Content} (h : s.offers q f rest)
    (e : run ((s.upTo t).withRequests rest) = (v.withRequests rest, x, c)) (l : v.link.taking) :
    s.takeRequest q t run = v.answering f rest x c := by
  have hp : (s.upTo t).popRequest = (s.upTo t).withRequests rest := by
    simp [State.popRequest, State.withRequests, h.1.2.2.2.2]
  rw [State.takeRequest_offers (q := q) (f := f) (rest := rest) t run h] <;> rw [hp, e]
  · simp [State.withRequests, State.answering, Link.answering_requests]
  · exact l.1
  · exact l.2.1
  · exact l.2.2.1
  · exact l.2.2.2
  · rfl

end Sys2Proof.Machine
end

