-- ==== Sys2Proof/WellFormed.lean ====
section
/-! DEFINITION. Which commands are well formed: the shapes the spec fixes for an operand whatever its values.
A value that the part itself refuses with a status (BAD_ARGUMENT and the like) is well formed. -/

namespace Sys2Proof

/-- A reading of the 12-bit converter (00: raw samples are 0 to 4095). -/
def wfRaw (r : Nat) : Bool := r < 4096

/-- The readings of one scan frame: 88 key sensors or 88 hammer sensors (R1). -/
def wfRaws (rs : List Nat) : Bool := rs.length == 88 && rs.all wfRaw

/-- A name fits a frame's payload of 240 bytes (R183). -/
def wfName (n : List Byte) : Bool := n.length ≤ 240

/-- The shape checks of a command: a scan frame holds 88 + 88 + 3 readings of 12 bits (R1), a curve has 16 points
(R17), a block of an upload has 128 bytes (R141), and a name fits a payload (R183). -/
def Instr.wf : Instr → Bool
  | .scanFrame _ ks hs p => wfRaws ks && wfRaws hs && wfRaw p.damper && wfRaw p.sostenuto && wfRaw p.soft
  | .curveSet _ _ pts => pts.length == 16
  | .uploadBlock _ _ d => d.length == 128
  | .takeRename _ _ n => wfName n
  | .uploadOpen _ _ _ n => wfName n
  | .recStart _ _ _ n => wfName n
  | .fullReset _ | .setupAreaReadDone _ | .autoHome _ | .warmReset _ | .rxFrame _ _ | .rxGapTimeout _
  | .unknownKind _ _ | .txFrameDone _ | .streamHoldTimer _ | .settleTimer _ | .encoderChange _ _ | .indexEdge _ _
  | .endSwitchClose _ _ | .endSwitchOpen _ _ | .railStall _ | .railTravelTimeout _ | .segmentReadDone _
  | .soundsetLoadDone _ | .outputFrame _ | .audioBlockBoundary _ | .plugDetectChange _ _ | .plugSettleTimer _
  | .muteLineChange _ _ | .recTakeClockTick _ | .cueDone _ | .playerTick _ | .waitTimer _ | .calSet _ _ _
  | .threshSet _ _ | .faultClear _ _ | .captureBegin _ | .captureEnd _ | .captureCancel _ | .keyQuery _ _
  | .scanQuery _ | .pedalCal _ _ _ _ | .pedalMode _ _ _ _ | .pedalQuery _ | .routeSet _ _ _ _ | .routeQuery _
  | .railMove _ _ _ | .railHome _ | .railStop _ | .railConfig _ _ _ _ _ _ _ _ | .railQuery _ | .polySet _ _ _
  | .soundOff _ _ | .voiceQuery _ | .voiceRead _ _ _ | .soundsetReload _ | .soundsetQuery _ | .zoneRead _ _ _
  | .streamRead _ _ | .volumeSet _ _ | .mixSet _ _ _ _ _ | .hpConfig _ _ _ _ | .unmute _ | .mixQuery _ | .takeList _
  | .takeInfo _ _ | .takeDelete _ _ | .downloadOpen _ _ _ _ | .downloadBlock _ | .transferAbort _ | .recMark _ _
  | .recPause _ | .recResume _ | .recStop _ | .recQuery _ | .streamConfig _ _ _ _ | .streamQuery _
  | .playStart _ _ _ _ _ _ _ _ | .playStop _ _ | .playPause _ _ | .playContinue _ | .playTempo _ _ _ | .playParts _ _
  | .waitConfig _ _ _ | .playSuspend _ _ | .playResume _ _ | .slotDiscard _ _ | .playerQuery _ | .status _
  | .identify _ | .statsRead _ _ | .restart _ | .byteReceived _ _ => true

end Sys2Proof
end

