-- ==== Sys2Proof/Tests/Slice0.lean ====
section
/-! SUPPORT. Tests: ill-formed commands that the checks refuse, concrete states that meet the hypotheses of the statements,
clause by clause, and single steps on small states. -/

namespace Sys2Proof.Machine

/-! ### Well-formedness -/

/-- 88 readings in the middle of the range. -/
def testRaws : List Nat := List.replicate 88 2000

/-- Three pedal readings. -/
def testPedals : PedalRaws := { damper := 700, sostenuto := 700, soft := 700 }

theorem test_wf_accepts_a_scan_frame : (Instr.scanFrame 0 testRaws testRaws testPedals).wf = true := by decide

theorem test_wf_refuses_87_key_readings : (Instr.scanFrame 0 (testRaws.drop 1) testRaws testPedals).wf = false := by decide

theorem test_wf_refuses_87_hammer_readings : (Instr.scanFrame 0 testRaws (testRaws.drop 1) testPedals).wf = false := by decide

theorem test_wf_refuses_a_reading_of_13_bits :
    (Instr.scanFrame 0 (4096 :: testRaws.drop 1) testRaws testPedals).wf = false
      ∧ (Instr.scanFrame 0 testRaws testRaws { testPedals with soft := 4096 }).wf = false := by decide

theorem test_wf_refuses_a_curve_of_15_points :
    (Instr.curveSet 0 (some .hammer) (defaultHammerCurve.drop 1)).wf = false
      ∧ (Instr.curveSet 0 (some .hammer) defaultHammerCurve).wf = true := by decide

theorem test_wf_refuses_a_block_of_127_bytes :
    (Instr.uploadBlock 0 0 (List.replicate 127 0)).wf = false ∧ (Instr.uploadBlock 0 0 (List.replicate 128 0)).wf = true := by
  decide +kernel

theorem test_wf_refuses_a_name_longer_than_a_payload :
    (Instr.takeRename 0 1 (List.replicate 241 0x41)).wf = false ∧ (Instr.uploadOpen 0 1 1 (List.replicate 241 0x41)).wf = false
      ∧ (Instr.recStart 0 1 none (List.replicate 241 0x41)).wf = false
      ∧ (Instr.takeRename 0 1 (List.replicate 17 0x41)).wf = true := by decide +kernel

/-! ### Small states -/

/-- A request frame of class REQUEST with tag 1, of a kind without arguments in the reset table of kinds (STATUS). -/
def testFrame : Frame := { cls := 1, kind := 60, tag := 1, payload := [] }

/-- A link that is READY with one request queued. -/
def testLink : Link := { Link.reset with ready := true, start := .over, requests := [testFrame] }

/-- The reset part with such a link. -/
def testState : State := { State.reset with link := testLink }

/-- A reply place that holds a reply of one frame. -/
def testReply : ReplyPlace :=
  { reply := { kind := 0, tag := 1, status := .ok, content := .nothing }, begun := 0, parts := 1 }

/-- A request frame of the kind of `q` in the reset table of kinds, of a length that kind allows. -/
def testFrameOf (q : Request) : Frame :=
  { cls := 1, kind := BitVec.ofNat 8 (allRequests.idxOf q), tag := 1, payload := List.replicate (q.fixedLength.getD 0) 0 }

/-- The state with the frame of `q` alone in its request queue, and nothing else changed. -/
def State.asking (s : State) (q : Request) : State := { s with link := { s.link with requests := [testFrameOf q] } }

/-- With the frame of any request in its queue the state offers that request. -/
def State.canAsk (s : State) : Prop := ∀ q, (s.asking q).offers q (testFrameOf q) []

/-- The reset table of kinds knows the frame of every request as that request's. -/
theorem test_knows (s : State) (k : s.kinds = resetKinds) (q : Request) : s.knowsKind q (testFrameOf q) := by
  refine ⟨{ code := (testFrameOf q).kind, request := q, lengths := q.lengths }, ?_, rfl, ?_⟩
  · rw [k]
    cases q <;> rfl
  · cases q <;> decide

/-- Every state with such a link and the reset table of kinds can be asked any request. -/
theorem test_offers (s : State) (h : s.link = testLink) (k : s.kinds = resetKinds) : s.canAsk := by
  intro q
  refine ⟨?_, rfl, by simp [testFrameOf], test_knows _ k q⟩
  unfold State.takesHead State.asking
  rw [h]
  exact ⟨rfl, rfl, rfl, rfl, rfl⟩

/-- A rail in a state at a position, braked or driven forward. -/
def testRail (st : RailState) (x : Option Nat) : Rail :=
  { Rail.reset with
    state := st, position := x
    drive := if st = .moving ∨ st = .homing then .forward else .brake }

/-- A motion toward the SILENT target. -/
def testMotion : Motion :=
  { kind := .move, target := some .silent, targetPos := some 2600, origin := some .acoustic, policy := .pause
    retreating := false, driven := 0, lastChange := 0 }

/-- The same as a homing. -/
def testHoming : Motion := { testMotion with kind := .home, target := none, targetPos := none, origin := none }

/-- The part with a rail. -/
def withRail (r : Rail) : State := { testState with rail := r }

/-- A key in a state. -/
def testKey (st : KeyState) : Key := { Key.fresh defaultCal defaultThr with state := st }

/-- The part with one key. -/
def withKey (k : Key) : State := { testState with scanner := { Scanner.reset with keys := [k] } }

/-- A zone of one octave. -/
def testZone : Zone :=
  { lowKey := 30, highKey := 41, lowVel := 1, highVel := 127, start := 1024, length := 600, loopStart := none, gain := 0
    pan := 64 }

/-- A voice of that zone. -/
def testVoice (p : VoicePhase) : Voice :=
  { phase := p, source := .live, key := 40, velocity := 100, zone := 0, gain := 6, released := false, seq := 0 }

/-- The part with a VALID sound set of one zone and a table of voices, the first `vs`. -/
def withVoices (vs : List (Option Voice)) : State :=
  { testState with
    voices := { Voices.reset with table := vs ++ List.replicate (80 - vs.length) none, counter := 5 }
    fetch := { Fetch.reset with status := .valid, zones := [testZone], port := none } }

/-- A CLOSED take of one block. -/
def testTake : Take :=
  { phase := .closed, name := none, origin := .recorded, truncated := false, blocks := [0], count := 1, duration := 0
    marks := 0, holders := { player := false, slotA := false, slotB := false, download := false } }

/-- The part with take 1 and a store of five more blocks. -/
def withTake (tk : Take) : State :=
  { testState with store := { Store.reset with takes := some tk :: List.replicate 31 none, pool := [1, 2, 3, 4, 5] } }

/-! ### What the statements assume: the step, the link -/

theorem test_meets_StepRunsTheFrontCommand : ({ State.reset with pending := [.status 5] } : State).pending = [.status 5] := rfl

theorem test_meets_EmptyQueueLetsAMicrosecondPass : State.reset.pending = [] := rfl

theorem test_meets_NoCommandTouchesTheQueueOrTheSoundMemory : ∃ s', exec (.autoHome 7) State.reset = .next s' := ⟨_, rfl⟩

theorem test_meets_RequestsWaitUntilTheyCanBeTaken :
    requestTime (.status 7) = some 7 ∧ State.reset.takesNothing
      ∧ ({ testState with link := { testLink with requests := [] } } : State).takesNothing
      ∧ ({ testState with link := { testLink with restart := .replying } } : State).takesNothing
      ∧ ({ testState with link := { testLink with reply := some testReply } } : State).takesNothing :=
  ⟨rfl, .inl rfl, .inr (.inr (.inr rfl)), .inr (.inr (.inl (by decide))), .inr (.inl (by simp))⟩

theorem test_meets_TurnedAwayFrames :
    testState.takesHead testFrame []
      ∧ ({ testState with link := { testLink with requests := [{ testFrame with cls := 2 }] } } : State).takesHead
          { testFrame with cls := 2 } []
      ∧ ({ testState with link := { testLink with requests := [{ testFrame with tag := 0 }] } } : State).takesHead
          { testFrame with tag := 0 } [] := by
  unfold State.takesHead
  decide

theorem test_meets_UnknownKindAndBadLength :
    (∀ row ∈ testState.kinds, row.code ≠ 200)
      ∧ testState.kinds.find? (·.code == testFrame.kind) = some { code := 60, request := .status, lengths := [0] }
      ∧ [(7 : Byte)].length ∉ [0] ∧ Request.status.fixedLength = some 0 ∧ [(7 : Byte)].length ≠ 0
      ∧ testFrameOf .status = testFrame ∧ testState.knowsKind .status testFrame :=
  ⟨by decide, by decide, by decide, rfl, by decide, rfl, test_knows _ rfl .status⟩

/-- Every row of the reset table of kinds has the lengths of its request. -/
theorem test_reset_kinds_have_their_lengths : ∀ row ∈ resetKinds, row.lengths = row.request.lengths := by decide +kernel

theorem test_reset_kinds_are_lawful : State.reset.kindsLawful := by
  intro row h n e
  rw [test_reset_kinds_have_their_lengths row h, Request.lengths, e]

theorem test_meets_FramesTakenByTheirChecks :
    (∀ q, ¬testState.knowsKind q { testFrame with kind := 200 }) ∧ requestTime (.status 7) = some 7
      ∧ testState.takesHead testFrame [] ∧ testFrame.cls.toNat % 16 = 1 ∧ testFrame.tag ≠ 0
      ∧ testState.knowsKind .status testFrame ∧ requestIn (.restart 7) = some (.restart, 7) ∧ Request.restart ≠ .status := by
  refine ⟨?_, rfl, test_meets_TurnedAwayFrames.1, rfl, by decide, test_knows _ rfl .status, rfl, by decide⟩
  rintro q ⟨row, h, _⟩
  have none : testState.kinds.find? (·.code == 200) = none := by decide
  rw [none] at h
  cases h

/-- The frame of KEY_QUERY is taken by KEY_QUERY, and by no other request. -/
theorem test_a_frame_is_taken_by_its_own_request :
    let s := testState.asking .keyQuery
    let queued (x : Host.Outcome State Fault Refusal) : Nat :=
      match x with | .next v => v.link.requests.length | _ => 9
    queued (exec (.keyQuery 0 3) s) = 0 ∧ queued (exec (.status 0) s) = 1 ∧ queued (exec (.restart 0) s) = 1 := by
  decide +kernel

theorem test_received_bytes_at_the_boundaries :
    (testState.receive { value := 0xC2, stopOk := true }).link.rxFrame = none
      ∧ (testState.receive { value := 0xC3, stopOk := false }).link.rxFrame = none
      ∧ (testState.receive { value := 0xC3, stopOk := true }).link.rxFrame = some [0xC3]
      ∧ ((testState.receive { value := 0xC3, stopOk := true }).receive { value := 240, stopOk := true }).link.rxFrame
          = some [0xC3, 240]
      ∧ ((testState.receive { value := 0xC3, stopOk := true }).receive { value := 241, stopOk := true }).link.rxFrame = none
      ∧ ((testState.receive { value := 0xC3, stopOk := true }).receive { value := 241, stopOk := true }).stat .linkCrc = 1 := by
  decide

theorem test_meets_FrameBytesArriveAsTheirFrame :
    (List.replicate 240 (0 : Byte)).length ≤ 240
      ∧ ({ testState with link := { testLink with requests := [testFrame, testFrame, testFrame] } } : State).link.rxFrame = none
      ∧ ({ testState with link := { testLink with requests := [testFrame, testFrame, testFrame] } } : State).link.requests.length < 4 := by
  decide +kernel

theorem test_meets_RepliesAreCut :
    Content.nothing.bytes.length + 1 ≤ 240 ∧ Content.nothing.bytes.length ≤ 956
      ∧ (List.replicate 88 (0, ({ leftRest := 0, peak := 30, struck := false } : Flight))).length = 88
      ∧ (Content.stats zeroStats).bytes.length = 81 ∧ framesFor 239 = 1 ∧ framesFor 240 = 2 ∧ framesFor 956 = 4 := by
  decide +kernel

/-- A live event. -/
def testEvent (b : EventBody) : LiveEvent := { body := b, hand := .none, time := 0 }

theorem test_meets_Packets :
    let e := testEvent (.pedal .soft 3)
    let p : Packer := { Packer.reset with enabled := true, perPacket := 2, openPacket := [e, e] }
    let full : Packer := { p with queue := List.replicate 8 [e] }
    let ripe (q : Packer) : Bool := !q.openPacket.isEmpty && decide (q.perPacket ≤ q.openPacket.length)
    (Packer.reset.ready = false ∧ Packer.reset.openPacket = [])
      ∧ (({ full with ready := true } : Packer).ready = true ∧ 8 ≤ full.queue.length)
      ∧ (full.ready = false ∧ ripe full = true)
      ∧ (ripe p = true ∧ p.queue.length < 8 ∧ p.backlog.take 2 = [])
      ∧ (ripe { p with backlog := [e] } = true ∧ ([e].take 2).length < 2)
      ∧ (ripe { p with backlog := [e, e, e] } = true ∧ ([e, e, e].take 2).length = 2) := by decide

theorem test_meets_TransmitOrder : testState.link.restart = .none := rfl

theorem test_meets_CountingTouchesOneCounter : State.reset.stats.length = 27 ∧ Counter.noticesLost ≠ .band 0 := by decide

theorem test_meets_StatsReadAndTheQueries : testState.canAsk := test_offers _ rfl rfl

theorem test_meets_NamedQueries : testState.canAsk
    ∧ testState.key? 87 = some (Key.fresh defaultCal defaultThr) ∧ 87 ≤ 87 ∧ 87 < 88 :=
  ⟨test_offers _ rfl rfl, rfl, by decide, by decide⟩

theorem test_meets_StreamRead :
    let e (v : Nat) : FetchEntry := { cls := .refill, voice := v, seq := 0, segment := 1 }
    let q := [e 7, e 79, e 79]
    79 ≤ 79 ∧ 79 < 80 ∧ (∀ x ∈ q, x.voice ≠ 78) ∧ q[1]? = some (e 79)
      ∧ (∀ j x, j < 1 → q[j]? = some x → x.voice ≠ 79) := by
  refine ⟨by decide, by decide, by decide, rfl, fun j x h e => ?_⟩
  obtain rfl : j = 0 := by omega
  cases e
  decide

/-! ### The rail -/

theorem test_meets_RailStop :
    ((withRail (testRail .moving none)).canAsk ∧ (withRail (testRail .moving none)).rail.state = .moving)
      ∧ ((withRail (testRail .homing none)).canAsk ∧ (withRail (testRail .homing none)).rail.state = .homing)
      ∧ (∀ m, (withRail { testRail .held none with motion := some m }).canAsk
          ∧ (withRail { testRail .held none with motion := some m }).rail.state = .held
          ∧ (withRail { testRail .held none with motion := some m }).rail.motion = some m)
      ∧ (withRail (testRail .parked none)).rail.state ≠ .moving ∧ (withRail (testRail .parked none)).rail.state ≠ .homing
      ∧ (withRail (testRail .parked none)).rail.state ≠ .held :=
  ⟨⟨test_offers _ rfl rfl, rfl⟩, ⟨test_offers _ rfl rfl, rfl⟩, fun _ => ⟨test_offers _ rfl rfl, rfl, rfl⟩, by decide, by decide, by decide⟩

theorem test_meets_RailMoveIsRefusedWithoutChange :
    ((withRail (testRail .unhomed none)).canAsk ∧ (withRail (testRail .unhomed none)).rail.state = .unhomed)
      ∧ ((withRail { testRail .held none with motion := some testHoming }).rail.state = .held ∧ testHoming.kind = .home)
      ∧ (withRail (testRail .fault none)).rail.state = .fault
      ∧ ((withRail (testRail .silent (some 2608))).rail.state = RailState.ofTarget .silent
          ∧ ¬outsideWindow 2608 ((withRail (testRail .silent (some 2608))).rail.config.position .silent)
          ∧ outsideWindow 2609 ((withRail (testRail .silent (some 2609))).rail.config.position .silent)) :=
  ⟨⟨test_offers _ rfl rfl, rfl⟩, by decide, rfl, by decide, by decide, by decide⟩

theorem test_meets_RailMoveSetsUpAMotion :
    (withRail { testRail .acoustic (some 1040) with occupied := true }).canAsk
      ∧ ((withRail { testRail .acoustic (some 1040) with occupied := true }).rail.occupied = true
          ∧ RailState.acoustic ≠ RailState.ofTarget .silent)
      ∧ ((withRail (testRail .acoustic (some 2591))).rail.occupied = false
          ∧ outsideWindow 2591 ((withRail (testRail .acoustic (some 2591))).rail.config.position .silent))
      ∧ ((withRail (testRail .parked (some 2592))).rail.state ≠ RailState.ofTarget .silent
          ∧ ¬outsideWindow 2592 ((withRail (testRail .parked (some 2592))).rail.config.position .silent)) :=
  ⟨test_offers _ rfl rfl, by decide, by decide, by decide⟩

theorem test_meets_RailMoveReplacesTheTarget :
    (withRail { testRail .moving (some 2591) with motion := some testMotion }).canAsk
      ∧ (withRail { testRail .moving (some 2591) with motion := some testMotion }).rail.motion = some testMotion
      ∧ outsideWindow 2591 (defaultRailConfig.position .silent) ∧ ¬outsideWindow 2592 (defaultRailConfig.position .silent)
      ∧ (withRail { testRail .held (some 2591) with motion := some testMotion }).rail.state = .held
      ∧ testMotion.kind = .move :=
  ⟨test_offers _ rfl rfl, rfl, by decide, by decide, rfl, rfl⟩

theorem test_meets_HomingBegins :
    (withRail (testRail .fault none)).canAsk
      ∧ (withRail { testRail .unhomed none with autoHomeDue := true }).rail.autoHomeDue = true
      ∧ (withRail { testRail .unhomed none with autoHomeDue := true }).rail.state = .unhomed :=
  ⟨test_offers _ rfl rfl, rfl, rfl⟩

theorem test_meets_EncoderStepsMoveThePosition :
    (withRail (testRail .parked (some 4095))).rail.position = some 4095
      ∧ (withRail (testRail .parked (some 0))).rail.drive ≠ .forward ∧ (withRail (testRail .fault (some 0))).rail.drive ≠ .reverse
      ∧ (withRail { testRail .moving (some 2591) with motion := some testMotion }).rail.state = .moving
      ∧ testMotion.target = some .silent ∧ testMotion.targetPos = some 2600 ∧ testMotion.retreating = false
      ∧ (withRail { testRail .moving (some 2591) with motion := some testMotion }).rail.drive = .forward := by
  decide

theorem test_meets_EncoderStepsElsewhere :
    let h := withRail { testRail .homing none with motion := some testHoming }
    let f (now : Bool) := withRail { testRail .fault (some 9) with faultNow := now }
    let back : Motion := { testMotion with target := some .acoustic, targetPos := some 1040, retreating := true }
    let m := withRail { testRail .moving (some 1049) with motion := some back, drive := .reverse }
    (h.rail.position = none ∧ h.rail.state = .homing ∧ h.rail.motion = some testHoming ∧ h.rail.drive = .forward)
      ∧ ((f false).rail.faultNow = false ∧ (1 : Time) ≠ (f true).clock ∧ (f true).rail.faultNow = true ∧ (0 : Time) = (f true).clock
          ∧ (f true).rail.state = .fault ∧ (f true).rail.drive = .brake)
      ∧ (m.rail.state = .moving ∧ m.rail.motion = some back ∧ back.targetPos = some 1040 ∧ back.retreating = true
          ∧ back.origin = some .acoustic ∧ m.rail.drive = .reverse ∧ ¬outsideWindow (1049 - 1) 1040) := by decide

/-- R53, R67: a step moves the position of a rail that has just stalled, and no more once time has passed, even when the part
clock reads the same again. -/
theorem test_a_fault_has_its_moment :
    let s := withRail { testRail .fault (some 9) with faultNow := true }
    ((s.encoderStep true).rail.position = some 10) ∧ (((s.elapse 1).encoderStep true).rail.position = some 9)
      ∧ (((s.elapse 1).elapse (2 ^ 32 - 1)).clock = s.clock)
      ∧ ((((s.elapse 1).elapse (2 ^ 32 - 1)).encoderStep true).rail.position = some 9) := by decide

theorem test_meets_InputsWithoutAUse :
    let h (st : RailState) (p : Option HomingPhase) := withRail { testRail st none with motion := some testHoming, phase := p }
    let m := withRail { testRail .moving (some 2592) with motion := some testMotion }
    ((withRail (testRail .unhomed none)).rail.position = none ∧ (withRail (testRail .unhomed none)).rail.state ≠ .moving
        ∧ (withRail (testRail .unhomed none)).rail.drive ≠ .forward ∧ (withRail (testRail .unhomed none)).rail.drive ≠ .reverse)
      ∧ ¬(((h .homing (some .escape)).rail.state = .homing ∨ (h .homing (some .escape)).rail.state = .held)
          ∧ (h .homing (some .escape)).rail.phase = some .seek)
      ∧ ¬(((h .held (some .seek)).rail.state = .homing ∨ (h .held (some .seek)).rail.state = .held)
          ∧ (h .held (some .seek)).rail.phase = some .escape)
      ∧ ((withRail (testRail .parked (some 9))).rail.state ≠ .moving ∧ (withRail (testRail .parked (some 9))).rail.state ≠ .homing
          ∧ (withRail (testRail .parked (some 9))).rail.state ≠ .held)
      ∧ (m.rail.state = .moving ∧ m.rail.motion = some testMotion ∧ m.rail.position = some 2592
          ∧ testMotion.targetPos = some 2600 ∧ ¬outsideWindow 2592 2600) := by decide

theorem test_meets_RailFaultConditions :
    (withRail (testRail .parked (some 9))).rail.state ≠ .unhomed ∧ (withRail (testRail .parked (some 9))).rail.state ≠ .fault
      ∧ (withRail { testRail .moving (some 9) with motion := some testMotion }).rail.drive = .forward
      ∧ 150000 ≤ ((150000 : Time) - testMotion.lastChange).toNat
      ∧ defaultRailConfig.travelLimit * 1000 < testMotion.driven + ((2500001 : Time) - State.reset.clock).toNat
      ∧ outsideWindow 2591 2600
      ∧ (withRail (testRail .homing none)).rail.state = .homing
      ∧ (withRail { testRail .homing none with phase := some .seek }).rail.phase = some .seek
      ∧ (withRail { testRail .held none with phase := some .seek }).rail.phase = some .seek := by
  decide

theorem test_meets_AFaultedRailTakesNoNewFault : (withRail (testRail .fault (some 7))).rail.state = .fault := rfl

theorem test_meets_HomingFindsTheIndex :
    (withRail { testRail .homing none with motion := some testHoming, phase := some .escape }).rail.phase = some .escape
      ∧ (withRail { testRail .homing none with motion := some testHoming, phase := some .seek }).rail.motion = some testHoming
      ∧ outsideWindow 1024 defaultRailConfig.acoustic ∧ ¬outsideWindow 1024 1032
      ∧ (withRail { testRail .held none with motion := some testHoming, phase := some .escape }).rail.state = .held
      ∧ (withRail { testRail .held none with motion := some testHoming, phase := some .seek }).rail.phase = some .seek := by
  decide

theorem test_meets_TheRailGoesOnWhenTheTableEmpties :
    (withRail (testRail .parked none)).rail.state ≠ .held
      ∧ (withRail { testRail .held (some 2591) with motion := some testMotion }).rail.state = .held
      ∧ (withRail { testRail .held (some 2591) with motion := some testMotion }).rail.position = some 2591
      ∧ testMotion.targetPos = some 2600 ∧ outsideWindow 2591 2600
      ∧ ({ testMotion with policy := .retreat } : Motion).origin = some .acoustic ∧ outsideWindow 2591 1040 := by
  decide

theorem test_meets_TheRailArrivesAtOnce :
    (withRail { testRail .held (some 2592) with motion := some testMotion }).rail.position = some 2592
      ∧ ¬outsideWindow 2592 2600 ∧ testMotion.retreating = false ∧ testMotion.target = some .silent
      ∧ ¬outsideWindow 1048 1040 ∧ ({ testMotion with policy := .retreat } : Motion).policy = .retreat
      ∧ testMotion.origin = some .acoustic
      ∧ (withRail { testRail .held none with motion := some testHoming }).rail.motion = some testHoming
      ∧ testHoming.kind = .home := by decide

/-! ### Sensing and pedals -/

theorem test_meets_CalSet :
    testState.canAsk ∧ 87 ≤ 87 ∧ testState.scanner.keys[87]? = some (Key.fresh defaultCal defaultThr)
      ∧ calOk defaultCal = true ∧ defaultCal.enabled = true
      ∧ (withKey (testKey .down)).canAsk ∧ (withKey (testKey .down)).scanner.keys[0]? = some (testKey .down)
      ∧ (testKey .down).state ≠ .rest ∧ 87 < 88 ∧ calOk { defaultCal with trim := 16 } = false :=
  ⟨test_offers _ rfl rfl, by decide, rfl, by decide, by decide, test_offers _ rfl rfl, rfl, by decide, by decide, by decide⟩

theorem test_meets_DisablingAKeyEndsItsFlight :
    let k : Key := { testKey .rest with flight := some { leftRest := 0, peak := 30, struck := false } }
    (withKey k).canAsk ∧ (withKey k).scanner.keys[0]? = some k ∧ calOk { defaultCal with enabled := false } = true
      ∧ k.state = .rest ∧ k.flight.isSome = true :=
  ⟨test_offers _ rfl rfl, rfl, by decide, rfl, rfl⟩

theorem test_meets_CalSetOfADisabledKey :
    let off : Key := { testKey .rest with cal := { defaultCal with enabled := false } }
    (withKey off).scanner.keys[0]? = some off ∧ off.state = .rest ∧ off.cal.enabled = false ∧ defaultCal.enabled = true
      ∧ (testKey .rest).flight = none ∧ (testKey .rest).keyGood = none
      ∧ ({ testKey .rest with keyGood := some { raw := 3600, time := 0 } } : Key).keyGood = some { raw := 3600, time := 0 } := by
  decide

theorem test_meets_FaultClear :
    (withKey (testKey .faulted)).canAsk ∧ 0 ≤ 87 ∧ (withKey (testKey .faulted)).scanner.keys[0]? = some (testKey .faulted)
      ∧ 87 < 88 :=
  ⟨test_offers _ rfl rfl, by decide, rfl, by decide⟩

theorem test_meets_Captures :
    ({ testState with scanner := { Scanner.reset with capturing := true } } : State).canAsk
      ∧ ({ testState with scanner := { Scanner.reset with capturing := true } } : State).scanner.capturing = true
      ∧ testState.scanner.capturing = false :=
  ⟨test_offers _ rfl rfl, rfl, rfl⟩

theorem test_meets_CaptureEnd :
    let c : Capture := { keyStart := some 400, keyFar := some 1600, hammerStart := some 300, hammerFar := some 1100 }
    let k : Key := { testKey .rest with capture := some c }
    let s : State := { testState with scanner := { Scanner.reset with keys := [k], capturing := true } }
    s.canAsk ∧ s.scanner.capturing = true ∧ s.disabledStill ∧ 1600 - 400 = 1200 ∧ 1100 - 300 = 800 := by
  refine ⟨test_offers _ rfl rfl, rfl, ?_, rfl, rfl⟩
  intro k hk
  rw [List.mem_singleton.1 hk]
  intro h
  exact absurd h (by decide)

theorem test_meets_CapturesKeepTheFarthestRaw :
    ¬(16 ≤ 15 ∧ 15 ≤ 4079) ∧ ¬(16 ≤ 4080 ∧ 4080 ≤ 4079) ∧ (16 ≤ 16 ∧ 16 ≤ 4079) ∧ (16 ≤ 4079 ∧ 4079 ≤ 4079)
      ∧ captureRaw (some 1000) (some 1200) 800 = (some 1000, some 1200)
      ∧ captureRaw (some 1000) (some 1200) 799 = (some 1000, some 799) := by decide

theorem test_meets_GoodSamplesSetTheDepths :
    testState.link.start ≠ .loading true ∧ testState.link.start ≠ .setup ∧ 87 ≤ 87
      ∧ testState.scanner.keys[87]? = some (Key.fresh defaultCal defaultThr)
      ∧ (Key.fresh defaultCal defaultThr).state ≠ .faulted ∧ (List.replicate 88 4079)[87]? = some 4079
      ∧ (List.replicate 88 16)[87]? = some 16 ∧ 16 ≤ 16 ∧ 4079 ≤ 4079 ∧ defaultCal.enabled = true :=
  ⟨by decide, by decide, by decide, rfl, by decide, rfl, rfl, by decide, by decide, rfl⟩

theorem test_meets_Depths : (400 < 3600) ∧ depthOf 400 3600 399 = 0 ∧ depthOf 400 3600 3601 = 1000
    ∧ depthOf 3600 400 3601 = 0 ∧ depthOf 3600 400 3599 = 0 ∧ depthOf 3600 400 3596 = 1 := by decide

theorem test_meets_EightFaultSamples :
    let k : Key := { testKey .down with keyFaults := 7 }
    (withKey k).link.start ≠ .loading true ∧ (withKey k).link.start ≠ .setup ∧ (withKey k).scanner.keys[0]? = some k
      ∧ k.state ≠ .faulted ∧ k.state ≠ .rest ∧ k.cal.enabled = true ∧ k.keyFaults = 7 ∧ [15][0]? = some 15 ∧ 15 < 16 :=
  ⟨by decide, by decide, rfl, by decide, by decide, rfl, rfl, rfl, by decide⟩

/-- What a key sees of the part in a frame at 1000 µs with the target mode FREE. -/
def testFrameSet : FrameSet :=
  { now := 1000, index := 40, thr := defaultThr, hammerCurve := defaultHammerCurve, keyCurve := defaultKeyCurve, target := .free
    capturing := false }

/-- A key's motion of one sensor between two frames. -/
def testMove (a b : Nat) : Motion1 := { prev := a, prevTime := some 0, cur := some b }

theorem test_meets_AScanFrame :
    State.reset.link.start = .loading true ∧ ({ Link.reset with start := .setup } : Link).start = .setup
      ∧ testState.link.start ≠ .loading true ∧ testState.link.start ≠ .setup
      ∧ (∀ k ∈ (withKey (testKey .rest)).scanner.keys, k.flight = none)
      ∧ (∃ k ∈ (withKey { testKey .rest with flight := some { leftRest := 0, peak := 30, struck := false } }).scanner.keys,
          k.flight ≠ none) := by decide

theorem test_meets_KeysAdoptAtRest :
    let off : Key := { testKey .down with cal := { defaultCal with enabled := false } }
    (testKey .faulted).state = .faulted ∧ off.state ≠ .faulted ∧ off.state ≠ .rest ∧ off.cal.enabled = false
      ∧ (testKey .rest).state = .rest ∧ (testKey .rest).cal.enabled = true ∧ (testKey .rest).staged = none := by decide

theorem test_meets_KeysAreSensed :
    (15 < 16 ∨ 4079 < 15) ∧ (4080 < 16 ∨ 4079 < 4080) ∧ ¬(16 < 16 ∨ 4079 < 16) ∧ ¬(4079 < 16 ∨ 4079 < 4079)
      ∧ 8 ≤ ({ testKey .down with keyFaults := 7 } : Key).keyFaults + 1
      ∧ ({ testKey .down with hammerFaults := 6 } : Key).hammerFaults + 1 < 8 ∧ 0 < 8 := by decide

theorem test_meets_PedalsAreSampled :
    let p := testState.pedals
    (({ p.damper with faulted := true } : PedalUnit).faulted = true)
      ∧ (p.damper.faulted = false ∧ (15 < 16 ∨ 4079 < 15) ∧ ({ p.damper with faults := 6 } : PedalUnit).faults < 7
          ∧ 7 ≤ ({ p.damper with faults := 7 } : PedalUnit).faults)
      ∧ (¬(700 < 16 ∨ 4079 < 700) ∧ p.damper.mode = .level ∧ depthOf 600 3000 700 = 41 ∧ 41 * 127 / 1000 = 5 ∧ 2 ≤ 5 - 0)
      ∧ (depthOf 600 3000 620 = 8 ∧ 8 * 127 / 1000 = 1 ∧ ¬(2 ≤ 1 - 0 ∨ ((1 = 0 ∨ 1 = 127) ∧ 1 ≠ 0)))
      ∧ (depthOf 600 3000 3000 * 127 / 1000 = 127 ∧ ({ p.damper with last := 126 } : PedalUnit).last ≠ 127)
      ∧ (p.sostenuto.mode = .switch ∧ depthOf 600 3000 2040 = 600 ∧ depthOf 600 3000 2039 = 599
          ∧ depthOf 600 3000 1560 = 400 ∧ depthOf 600 3000 1559 = 399) := by decide

theorem test_meets_Crossings :
    (testMove 29 30).prevTime = some 0 ∧ (testMove 29 30).cur = some 30 ∧ (testMove 29 30).prev < 30 ∧ 30 ≤ 30
      ∧ ({ testMove 0 30 with prevTime := none } : Motion1).prevTime = none ∧ (testMove 29 30).rises 30 = true
      ∧ (testMove 30 29).falls 30 = true ∧ (testMove 30 31).rises 30 = false
      ∧ (testMove 0 30).crossTime 15 1001 = 501 := by decide

theorem test_meets_HammersLeaveAndReturn :
    let f : Flight := { leftRest := 0, peak := 30, struck := false }
    ({ testMove 0 30 with cur := none } : Motion1).cur = none ∧ (testMove 0 29).cur = some 29 ∧ (testKey .rest).flight = none
      ∧ 29 < defaultThr.hRest ∧ defaultThr.hRest ≤ 30 ∧ ({ testKey .rest with flight := some f } : Key).flight = some f
      ∧ ({ testKey .rest with returns := 2 } : Key).returns < 3 ∧ 3 ≤ ({ testKey .rest with returns := 3 } : Key).returns := by
  decide

theorem test_meets_Transitions :
    let k (st : KeyState) : Key := { testKey st with mode := .free }
    let still := testMove 0 0
    (∀ st ∈ [KeyState.rest, .pressing, .down, .lifting, .released, .faulted], (k st).strikeNow testFrameSet (testMove 0 60) still = none)
      ∧ ({ still with cur := none } : Motion1).cur = none
      ∧ (defaultThr.rest < defaultThr.start ∧ defaultThr.start < defaultThr.damper ∧ defaultThr.damper < defaultThr.rearm)
      ∧ (59 < defaultThr.start ∧ defaultThr.start ≤ 60) ∧ (defaultThr.rest ≤ 40 ∧ 39 < defaultThr.rest)
      ∧ (defaultThr.rearm ≤ 700 ∧ 699 < defaultThr.rearm) ∧ (defaultThr.damper ≤ 350 ∧ 349 < defaultThr.damper) := by decide

theorem test_meets_StrikesSoundTheirKey :
    let k (st : KeyState) : Key := { testKey st with mode := .free, aTimeHammer := some 100 }
    let hm := testMove 879 880
    (∀ st ∈ [KeyState.rest, .pressing, .lifting, .released],
        (k st).strikeNow testFrameSet (testMove 0 700) hm = some (900, .hammer))
      ∧ (defaultThr.rearm ≤ 700 ∧ defaultThr.damper ≤ 699 ∧ 699 < defaultThr.rearm ∧ defaultThr.rest ≤ 349
          ∧ 349 < defaultThr.damper ∧ 39 < defaultThr.rest ∧ defaultThr.start ≤ 60)
      ∧ ({ k .pressing with mode := .keyOnly, aTimeKey := some 0 } : Key).strikeNow testFrameSet (testMove 949 950) hm
          = some (1000, .keyOnly)
      ∧ ({ k .pressing with mode := .stopped } : Key).strikeNow testFrameSet (testMove 0 700) (testMove 759 760)
          = some (900, .hammer) := by decide

theorem test_meets_BandsAndCurveLines :
    (1 ≤ 1 ∧ 1 ≤ 127) ∧ (1 ≤ 127 ∧ 127 ≤ 127) ∧ bandOf 16 = .band 0 ∧ bandOf 17 = .band 1 ∧ bandOf 127 = .band 7
      ∧ defaultHammerCurve = [] ++ { time := 400, velocity := 127 } :: { time := 600, velocity := 118 } :: defaultHammerCurve.drop 2
      ∧ 400 < 500 ∧ 500 < 600 ∧ curveVelocity defaultHammerCurve 500 = 123 := by decide

theorem test_meets_AStrike :
    let k : Key := { testKey .pressing with mode := .free, aTimeHammer := some 100 }
    let km : Motion1 := { prev := 700, prevTime := some 0, cur := some 700 }
    let hm : Motion1 := { prev := 879, prevTime := some 0, cur := some 880 }
    k.state = .pressing ∧ k.mode = .free ∧ k.aTimeHammer = some 100 ∧ km.cur = some 700 ∧ k.thr.rest ≤ 700
      ∧ k.thr.rearm ≤ 700 ∧ k.thr.damper ≤ 700 ∧ hm.cur = some 880 ∧ hm.prev < k.thr.freeB ∧ k.thr.freeB ≤ 880 := by decide

theorem test_meets_Velocity :
    (defaultHammerCurve.map (·.time)).Pairwise (· < ·) ∧ defaultHammerCurve ≠ []
      ∧ (∀ p ∈ defaultHammerCurve, 399 < p.time) ∧ (∀ p ∈ defaultHammerCurve, p.time < 27001)
      ∧ (∃ p ∈ defaultHammerCurve, 400 = p.time) := by decide

theorem test_meets_SettleTimer :
    ({ withRail (testRail .acoustic none) with scanner := { Scanner.reset with settle := some 100000 } } : State).scanner.settle
        = some 100000
      ∧ 100000 ≤ ((100000 : Time) - State.reset.clock).toNat ∧ (withRail (testRail .silent none)).rail.state = .silent := by
  decide

/-! ### Routing, streaming, voices and fetch -/

theorem test_meets_StreamEvents :
    let e : LiveEvent := { body := .pedal .soft 3, hand := .none, time := 0 }
    256 ≤ ({ testState with packer := { Packer.reset with backlog := List.replicate 256 e } } : State).packer.held
      ∧ ({ testState with packer := { Packer.reset with backlog := List.replicate 255 e } } : State).packer.held < 256 := by
  decide +kernel

theorem test_meets_EventsJoin :
    let e : LiveEvent := { body := .pedal .soft 3, hand := .none, time := 0 }
    let p (n : Nat) : Packer := { Packer.reset with openPacket := List.replicate n e }
    (p 15).held < 256 ∧ (p 15).backlog = [] ∧ (p 15).openPacket.length < 16 ∧ 16 ≤ (p 16).openPacket.length
      ∧ ({ p 16 with backlog := [e] } : Packer).backlog ≠ [] := by decide

theorem test_meets_TheEnable :
    let e : LiveEvent := { body := .pedal .soft 3, hand := .none, time := 0 }
    let p : Packer := { Packer.reset with enabled := true, openPacket := [e] }
    let full : Packer := { p with queue := List.replicate 8 [e] }
    p.enabled = true ∧ p.openPacket ≠ [] ∧ p.queue.length < 8 ∧ p.backlog = [] ∧ p.ready = false ∧ p.enabled ≠ false
      ∧ 8 ≤ full.queue.length ∧ full.ready = false ∧ Packer.reset.openPacket = [] ∧ Packer.reset.ready = false
      ∧ (p.setEnabled false).queue = [[e]] ∧ (full.setEnabled false).ready = true := by decide

theorem test_meets_HoldTimer :
    let e : LiveEvent := { body := .pedal .soft 3, hand := .none, time := 0 }
    let s : State := { testState with packer := { Packer.reset with openPacket := [e], timer := some 4000 } }
    s.packer.timer = some 4000 ∧ 4000 ≤ ((4000 : Time) - s.clock).toNat ∧ s.packer.openPacket ≠ [] ∧ s.packer.backlog = []
      ∧ s.packer.queue.length < 8
      ∧ 8 ≤ ({ s.packer with queue := List.replicate 8 [e] } : Packer).queue.length := by decide

theorem test_meets_NoteOn :
    (withVoices []).fetch.status = .valid ∧ (withVoices []).fetch.zones[0]? = some testZone
      ∧ (testZone.lowKey ≤ 30 ∧ 30 ≤ testZone.highKey ∧ testZone.lowVel ≤ 1 ∧ 1 ≤ testZone.highVel)
      ∧ (∀ w, some w ∈ (withVoices []).voices.table → w.counted = true → w.source = .live → w.key ≠ 30)
      ∧ (withVoices []).voices.counted < (withVoices []).voices.limit ∧ (withVoices []).voices.table[0]? = some none := by
  refine ⟨rfl, rfl, by decide, ?_, by decide, rfl⟩
  intro w hw
  simp [withVoices] at hw

theorem test_meets_ANoteWithoutAZone : testState.fetch.status ≠ .valid
    ∧ (∀ y ∈ (withVoices []).fetch.zones, ¬(y.lowKey ≤ 42 ∧ 42 ≤ y.highKey ∧ y.lowVel ≤ 1 ∧ 1 ≤ y.highVel)) := by decide

theorem test_meets_StealOrder :
    (∃ w, some w ∈ (withVoices [some (testVoice (.damped 120 0))]).voices.table ∧ w.isDamped = true)
      ∧ (∃ w, some w ∈ (withVoices [some { testVoice .sounding with source := .playback }]).voices.table
          ∧ w.phase = .sounding ∧ w.source = .playback)
      ∧ (∃ w, some w ∈ (withVoices [some (testVoice .sounding)]).voices.table ∧ w.phase = .sounding)
      ∧ (∃ w, some w ∈ (withVoices [some (testVoice .starting)]).voices.table ∧ w.phase = .starting) :=
  ⟨⟨_, .head _, rfl⟩, ⟨_, .head _, rfl, rfl⟩, ⟨_, .head _, rfl⟩, ⟨_, .head _, rfl⟩⟩

/-- A claim of a key that sounds, one at a limit of one voice, and one with no FREE entry. -/
theorem test_meets_RestrikesAndSteals :
    let s := withVoices [some (testVoice .sounding)]
    let one : State := { s with voices := { s.voices with limit := 1 } }
    let full := withVoices (List.replicate 80 (some (testVoice (.fading 0 false 0))))
    s.fetch.status = .valid ∧ testZone ∈ s.fetch.zones ∧ (30 ≤ 40 ∧ 41 ≤ testZone.highKey)
      ∧ s.voices.table[0]? = some (some (testVoice .sounding)) ∧ (testVoice .sounding).counted = true
      ∧ (∀ j w', j ≠ 0 → s.voices.table[j]? = some (some w') → ¬(w'.counted = true ∧ w'.source = .live ∧ w'.key = 40))
      ∧ (∀ w, some w ∈ one.voices.table → ¬(w.counted = true ∧ w.source = .live ∧ w.key = 41))
      ∧ one.voices.counted = one.voices.limit ∧ one.voices.victim = some 0
      ∧ (∀ w, some w ∈ full.voices.table → ¬(w.counted = true ∧ w.source = .live ∧ w.key = 40))
      ∧ full.voices.counted < full.voices.limit ∧ none ∉ full.voices.table := by
  refine ⟨rfl, by decide, by decide, rfl, rfl, ?_, ?_, rfl, rfl, ?_, by decide +kernel, by decide +kernel⟩
  · intro j w' hj h
    cases j with
    | zero => exact absurd rfl hj
    | succ n =>
      have m : some w' ∈ List.replicate 79 (none : Option Voice) := List.mem_of_getElem? (i := n) h
      exact absurd (List.eq_of_mem_replicate m) (by simp)
  · intro w h
    simp [withVoices, testVoice] at h
    subst h
    decide
  · intro w h
    simp [withVoices, testVoice] at h
    subst h
    decide

/-- Three voices under a limit of one: a note-on of a fourth key steals the DAMPED one and counts it. -/
theorem test_a_note_on_steals_the_damped_voice :
    let s0 := withVoices [some (testVoice .sounding), some { testVoice (.damped 120 7) with key := 31 }]
    let s : State := { s0 with voices := { s0.voices with limit := 2 } }
    let v := s.noteOn .live 35 100
    v.voices.table[1]? = some (some { testVoice (.fading 0 false 7) with key := 31 })
      ∧ v.voices.table[0]? = some (some (testVoice .sounding)) ∧ v.stat .voiceSteals = 1 ∧ v.voices.counted = 2 := by decide

theorem test_release_times : releaseTime 31 = 120 ∧ releaseTime 32 = 180 ∧ releaseTime 63 = 2040 ∧ releaseTime 64 = 4000 := by
  decide

theorem test_meets_NoteOff :
    (withVoices [some (testVoice .sounding)]).voices.table[0]? = some (some (testVoice .sounding))
      ∧ (testVoice .sounding).counted = true ∧ (testVoice .sounding).source = .live ∧ (testVoice .sounding).key = 40
      ∧ ¬(40 ∈ ((withVoices []).context .live).set ∨ 64 ≤ ((withVoices []).context .live).damper)
      ∧ (testVoice .starting).phase = .starting ∧ (testVoice (.damped 120 0)).isDamped = true
      ∧ (∀ w, some w ∈ (withVoices []).voices.table → ¬(w.counted = true ∧ w.source = .live ∧ w.key = 40)) := by
  refine ⟨rfl, rfl, rfl, rfl, by decide, rfl, rfl, ?_⟩
  intro w hw
  simp [withVoices] at hw

theorem test_meets_AudioBoundary :
    (withVoices [some (testVoice .sounding)]).voices.table.length = 80
      ∧ (withVoices [some (testVoice .sounding)]).fetch.bufs.length = 80
      ∧ (withVoices [some (testVoice .sounding)]).link.readyPlace = none
      ∧ (withVoices [some (testVoice .sounding)]).voices.table[0]? = some (some (testVoice .sounding)) :=
  ⟨by decide, by decide, rfl, rfl⟩

/-- R82, R86, R105: a voice that becomes FREE at the boundary leaves the queue to the others and empties its halves. -/
theorem test_a_freed_voice_leaves_the_queue :
    let w := withVoices [some (testVoice (.fading 4 true 0)), some (testVoice (.damped 120 (96 * attDb))), some (testVoice .sounding)]
    let e (v : Nat) : FetchEntry := { cls := .refill, voice := v, seq := 0, segment := 3 }
    let s : State := { w with fetch := { w.fetch with
      port := some (.segment (e 1)), queue := [e 2, e 0]
      bufs := [{ StreamBuf.reset with pos := some 7, a := { fill := .full, segment := 0, data := [] } }] } }
    let s' := (List.range 3).foldl State.boundaryEntry s
    s'.voices.table.take 3 = [none, none, some (testVoice .sounding)] ∧ s'.fetch.queue = [e 2] ∧ s'.fetch.port = s.fetch.port
      ∧ s'.fetch.buf 0 = StreamBuf.reset := by decide

theorem test_meets_SilentFrames :
    testState.mixer.silentOut = true ∧ testState.link.readyPlace = none ∧ testState.fetch.bufs.length = 80
      ∧ testZone.loopStart.isSome = true ∨ 254 + 1 < testZone.length ∧ (254 + 1) % 256 ≠ 0 := by decide

theorem test_meets_AFullLevelVoice :
    let m : Mixer := { Mixer.reset with silentOut := false, inForce := { GainPath.reset with master := .code 0 } }
    m.silentOut = false ∧ m.ramp = .none ∧ m.widthInForce = 24
      ∧ m.inForce = { master := .code 0, liveTrim := 0, playTrim := 0, source := .both, channel := .stereo } := by decide

/-- R111, R113: 125 at pan 1 under 60 dB is 2 on the right, split to exactly a half there, which rounds away from zero. -/
theorem test_an_exact_half_rounds_away :
    let m : Mixer := { Mixer.reset with silentOut := false, inForce := { GainPath.reset with master := .code 120 } }
    let x (n : Int) : Supply := { source := .live, sample := n, att := 0, fade := 240, pan := 1 }
    m.silentOut = false ∧ (m.form [x 125]).1.right = 256 ∧ (m.form [x (-125)]).1.right = BitVec.ofInt 32 (-256)
      ∧ (m.form [x 124]).1.right = 0 := by decide +kernel

/-- Each kind of ramp, each width and a frame that clips. -/
theorem test_meets_FramesThatSound :
    let g : GainPath := { GainPath.reset with master := .code 0 }
    let m : Mixer := { Mixer.reset with silentOut := false, inForce := g }
    let x : Supply := { source := .playback, sample := 32767, att := 0, fade := 240, pan := 64 }
    (m.form [x, x]) = ({ left := BitVec.ofInt 32 (8388607 * 256), right := BitVec.ofInt 32 (8388607 * 256) }, true)
      ∧ ({ m with ramp := .silence, frameInBlock := 23 }.form [x]).1.left = BitVec.ofInt 32 (32767 * 32768)
      ∧ ({ m with ramp := .settings { g with master := .muted }, frameInBlock := 47 }.form [x]).1.left
          = BitVec.ofInt 32 (32767 * 65536)
      ∧ ({ m with widthInForce := 16, inForce := { g with channel := .mono } }.form [{ x with sample := -1, pan := 0 }]).1.left
          = BitVec.ofInt 32 (-65536)
      ∧ (m.form [{ x with pan := 127 }]).1.left = 0
      ∧ ({ m with inForce := { g with source := .liveOnly } }.form [x]).1.right = 0 := by decide +kernel

theorem test_meets_Decibels :
    39 < 40 ∧ 0 < 1 ∧ 1 < 20 * attDb
      ∧ ∃ term : Nat → Nat, term 0 = 2 ^ 256
          ∧ ∀ n, term (n + 1) = term n * (fixedLn10 * 1 / (20 * attDb)) / 2 ^ 256 / (n + 1) :=
  ⟨by decide, by decide, by decide,
    fun n => Nat.rec (2 ^ 256) (fun n x => x * (fixedLn10 * 1 / (20 * attDb)) / 2 ^ 256 / (n + 1)) n, rfl, fun _ => rfl⟩

/-- The part playing one voice of a zone at a position, its half A FULL of a segment. -/
def withPlaying (z : Zone) (pos segment : Nat) : State :=
  let s := withVoices [some (testVoice .sounding)]
  { s with fetch := { s.fetch with
    zones := [z]
    bufs := [{ StreamBuf.reset with pos := some pos, a := { fill := .full, segment, data := [] } }] } }

theorem test_meets_PlayingVoices :
    let s := withPlaying testZone
    ((withVoices []).voices.table[0]?).join = none
      ∧ ((s 599 2).voices.table[0]? = some (some (testVoice .sounding)) ∧ ((s 599 2).fetch.buf 0).pos = some 599
          ∧ (s 599 2).fetch.zones[0]? = some testZone ∧ testZone.loopStart = none ∧ testZone.length ≤ 599 + 1)
      ∧ (¬(testZone.length ≤ 254 + 1) ∧ (254 + 1) % 256 ≠ 0)
      ∧ ((511 + 1) % 256 = 0 ∧ ((s 511 2).fetch.buf 0).a.fill = .full ∧ ((s 511 2).fetch.buf 0).a.segment = (511 + 1) / 256
          ∧ ¬(256 * ((511 + 1) / 256 + 1) < testZone.length))
      ∧ ({ testZone with loopStart := some 100 } : Zone).loopStart ≠ none
      ∧ ((s 511 0).fetch.buf 0).a.segment ≠ (511 + 1) / 256 ∧ 256 * (1 + 1) < testZone.length := by decide

theorem test_meets_Supplies :
    let s := withPlaying testZone 511 1
    (s.fetch.buf 0).pos = some 511 ∧ s.fetch.zones[(testVoice .sounding).zone]? = some testZone
      ∧ (s.fetch.buf 1).pos = none ∧ (testVoice .starting).phase = .starting
      ∧ s.supplies = [{ source := .live, sample := 0, att := 6 * attDb / 2, fade := 240, pan := 64 }]
      ∧ s.supply 48 (0, testVoice (.fading 4 true 9)) =
          some { source := .live, sample := 0, att := 6 * attDb / 2 + 9, fade := 0, pan := 64 } := by decide

theorem test_meets_FetchEntries :
    let e (c : FetchClass) (v : Nat) : FetchEntry := { cls := c, voice := v, seq := 0, segment := 0 }
    let f : Fetch := { Fetch.reset with port := none }
    (∀ x ∈ [e .prime 1], x.cls = .prime) ∧ (∀ x ∈ [e .refill 2], x.cls = .refill) ∧ Fetch.reset.port ≠ none ∧ f.port = none
      ∧ placeEntry (e .prime 3) f.queue = e .prime 3 :: [] := by decide

theorem test_meets_CompletedReads :
    let e (c : FetchClass) (n : Nat) : FetchEntry := { cls := c, voice := 0, seq := 0, segment := n }
    let s (c : FetchClass) (n : Nat) (p : VoicePhase) : State :=
      let s0 := withVoices [some (testVoice p)]
      { s0 with fetch := { s0.fetch with
        port := some (.segment (e c n)), queue := [e .refill 2]
        bufs := [{ StreamBuf.reset with serves := some { seq := 0, zone := 0 } }] } }
    (s .prime 0 .starting).fetch.port = some (.segment (e .prime 0))
      ∧ (s .prime 0 .starting).voices.table[0]? = some (some (testVoice .starting))
      ∧ ((s .prime 0 .starting).fetch.buf 0).serves = some { seq := (e .prime 0).seq, zone := (testVoice .starting).zone }
      ∧ (s .prime 0 .starting).fetch.zones[0]? = some testZone ∧ (e .prime 0).cls = .prime ∧ (testVoice .starting).phase = .starting
      ∧ (e .refill 1).cls = .refill ∧ (testVoice .sounding).phase ≠ .starting
      ∧ 0 < testZone.segmentFrames 0 ∧ 87 < testZone.segmentFrames 2 ∧ testZone.segmentFrames 2 = 88
      ∧ (let z : Zone := { testZone with length := 600, loopStart := some 100 }
         z.frameAt 599 = 599 ∧ z.frameAt 600 = 100 ∧ z.frameAt 1099 = 599 ∧ z.frameAt 1100 = 100) := by decide

theorem test_meets_APrime :
    let e : FetchEntry := { cls := .prime, voice := 0, seq := 0, segment := 0 }
    let s0 := withVoices [some (testVoice .starting)]
    let s : State := { s0 with fetch := { s0.fetch with
      port := some (.segment e)
      bufs := [{ StreamBuf.reset with serves := some { seq := 0, zone := 0 } }] } }
    s.fetch.port = some (.segment e) ∧ s.fetch.queue = [] ∧ s.voices.table[0]? = some (some (testVoice .starting))
      ∧ (testVoice .starting).phase = .starting ∧ 0 < s.fetch.bufs.length
      ∧ (s.fetch.buf 0).serves = some { seq := 0, zone := 0 } ∧ s.fetch.zones[0]? = some testZone ∧ s.link.readyPlace = none :=
  ⟨rfl, rfl, rfl, rfl, by decide, rfl, rfl, rfl⟩

theorem test_meets_StaleReads :
    let e : FetchEntry := { cls := .refill, voice := 3, seq := 0, segment := 1 }
    let s0 := withVoices [some (testVoice .sounding)]
    let s : State := { s0 with fetch := { s0.fetch with port := some (.segment e) } }
    s.fetch.port = some (.segment e) ∧ s.fetch.queue = [] ∧ s.voices.table[e.voice]? = some none :=
  ⟨rfl, rfl, rfl⟩

theorem test_meets_PolySet :
    (withVoices (List.replicate 9 (some (testVoice .sounding)))).canAsk ∧ 8 ≤ 8 ∧ 8 ≤ 64 ∧ 7 < 8 ∧ 64 < 65
      ∧ (withVoices (List.replicate 8 (some (testVoice .sounding)))).voices.counted ≤ 8
      ∧ 8 < (withVoices (List.replicate 9 (some (testVoice .sounding)))).voices.counted
      ∧ (withVoices (List.replicate 9 (some (testVoice .sounding)))).stats.length = 27 :=
  ⟨test_offers _ rfl rfl, by decide, by decide, by decide, by decide, by decide, by decide, by decide⟩

theorem test_meets_SoundOff : (withVoices [some (testVoice .sounding)]).canAsk := test_offers _ rfl rfl

theorem test_meets_Reload :
    testState.canAsk ∧ testState.fetch.status = .loading
      ∧ ¬((withVoices []).fetch.status = .loading ∨ (∃ w, some w ∈ (withVoices []).voices.table)
          ∨ (withVoices []).fetch.queue ≠ [] ∨ (withVoices []).fetch.port ≠ none) := by
  refine ⟨test_offers _ rfl rfl, rfl, ?_⟩
  simp [withVoices, Fetch.reset]

/-- The bytes of a sound set of one zone that fills 65,536 bytes. -/
def testSet : List Byte :=
  [0x4D, 0x42, 0x53, 0x53] ++ leBytes 2 1 ++ leBytes 2 1 ++ leBytes 4 65536 ++ leBytes 4 0
    ++ [0, 87, 1, 127] ++ leBytes 4 1024 ++ leBytes 4 600 ++ [0xFF, 0xFF, 0xFF, 0xFF] ++ [0, 64]

/-- The part with that sound set, its load under way after start-up. -/
def testLoading : State := { testState with soundMem := Memory.writeAll flashByte [] 0 testSet }

theorem test_meets_ALoadEnds :
    testState.fetch.port = some .load ∧ testState.link.start = .over
      ∧ Memory.readAll flashByte testState.soundMem 0 4 ≠ [0x4D, 0x42, 0x53, 0x53]
      ∧ Memory.readAll flashByte testLoading.soundMem 0 4 = [0x4D, 0x42, 0x53, 0x53]
      ∧ testLoading.loadResult =
          { header := some { version := 1, zoneCount := 1, memorySize := 65536, setupOffset := 0 }, failure := none
            zones := [{ lowKey := 0, highKey := 87, lowVel := 1, highVel := 127, start := 1024, length := 600
                        loopStart := none, gain := 0, pan := 64 }] } := by decide

/-- The failure of a load of that set with byte `i` changed. -/
def failureWith (i : Nat) (b : Byte) : Option (LoadFailure × Option Nat) :=
  ({ testState with soundMem := Memory.writeAll flashByte [] 0 (testSet.set i b) } : State).loadResult.failure

/-- A sound set that fails each check of R96, the checks before it passed. -/
theorem test_meets_SetsThatFail :
    failureWith 0 0x4E = some (.signature, none) ∧ failureWith 6 0 = some (.zoneCount, none)
      ∧ failureWith 7 2 = some (.zoneCount, none) ∧ failureWith 10 0 = some (.memorySize, none)
      ∧ failureWith 11 1 = some (.memorySize, none) ∧ failureWith 17 88 = some (.keyRange, some 0) := by decide +kernel

theorem test_meets_ZonesThatFail :
    failureWith 18 0 = some (.velocityRange, some 0) ∧ failureWith 19 128 = some (.velocityRange, some 0)
      ∧ failureWith 20 1 = some (.extent, some 0) ∧ failureWith 22 1 = some (.extent, some 0)
      ∧ failureWith 31 0 = some (.loop, some 0) ∧ failureWith 32 97 = some (.levels, some 0)
      ∧ failureWith 33 128 = some (.levels, some 0) := by decide +kernel

theorem test_meets_StartUpLoads :
    let s (full strap : Bool) (m : Memory) : State :=
      { State.reset with link := { Link.reset with start := .loading full }, pins := { Pins.reset with strap }, soundMem := m }
    (s true false []).fetch.port = some .load ∧ (s true false []).link.start = .loading true
      ∧ (s true true []).pins.strap = true ∧ (s true false []).loadResult.header = none
      ∧ (s false false []).link.start = .loading false ∧ (s false false []).link.tx = none
      ∧ (s false false []).link.restart = .none
      ∧ (s true false (Memory.writeAll flashByte [] 0 (testSet.set 12 100))).loadResult.header
          = some { version := 1, zoneCount := 1, memorySize := 65536, setupOffset := 100 } := by decide

/-! ### Headphone output -/

theorem test_meets_SilenceFlag :
    (testState.mixer.plug ≠ .seated ∧ testState.mixer.silenceFlag = true)
      ∧ ({ testState with mixer := { Mixer.reset with silenceFlag := false } } : State).mixer.silenceFlag = false
      ∧ ¬(({ testState with mixer := { Mixer.reset with plug := .seated } } : State).mixer.plug ≠ .seated
          ∨ testState.pins.mute = true ∨ testState.mixer.settings.source = .silence ∨ testState.link.ready = false) := by decide

theorem test_meets_HpConfig : testState.canAsk ∧ (24 = 24 ∨ 24 = 16) ∧ testState.mixer.plugDetect ≠ false
    ∧ testState.mixer.plugDetect = true ∧ 23 ≠ 24 ∧ 23 ≠ 16 :=
  ⟨test_offers _ rfl rfl, by decide, by decide, rfl, by decide, by decide⟩

theorem test_meets_Unmute :
    let s (mute latched : Bool) : State := { testState with
      mixer := { Mixer.reset with muteMode := .latch, latched }, pins := { Pins.reset with mute } }
    testState.canAsk ∧ testState.silenceExact ∧ testState.mixer.muteMode = .level
      ∧ (∀ mute latched, (s mute latched).canAsk ∧ (s mute latched).silenceExact
          ∧ (s mute latched).mixer.muteMode = .latch ∧ (s mute latched).pins.mute = mute
          ∧ (s mute latched).mixer.latched = latched) := by
  refine ⟨test_offers _ rfl rfl, ⟨rfl, fun _ => ⟨rfl, rfl⟩⟩, rfl, fun mute latched => ?_⟩
  exact ⟨test_offers _ rfl rfl, ⟨rfl, fun _ => ⟨rfl, rfl⟩⟩, rfl, rfl, rfl⟩

theorem test_meets_PlugAndMuteLines :
    testState.pins.plug ≠ true ∧ testState.mixer.plugDetect = true
      ∧ ({ testState with mixer := { Mixer.reset with plugDetect := false } } : State).mixer.plugDetect = false
      ∧ testState.mixer.plugTimer = some 50000 ∧ 50000 ≤ ((50000 : Time) - testState.clock).toNat
      ∧ testState.pins.mute ≠ true ∧ testState.mixer.muteMode = .level
      ∧ ({ testState with mixer := { Mixer.reset with muteMode := .latch } } : State).mixer.latched = false := by decide

theorem test_meets_LinesThatStand :
    testState.pins.mute = false ∧ testState.pins.plug = false
      ∧ ({ testState with mixer := { Mixer.reset with muteMode := .latch, latched := true } } : State).mixer.latched = true
      ∧ ({ testState with mixer := { Mixer.reset with muteMode := .latch, latched := true } } : State).mixer.muteMode = .latch
      ∧ testState.mixer.plugTimer = some 50000 ∧ ((49999 : Time) - testState.clock).toNat < 50000 := by decide

/-! ### Take store and Recorder -/

theorem test_meets_RenameAndDelete :
    (withTake testTake).canAsk ∧ (1 ≤ 32 ∧ 32 ≤ 32) ∧ ¬(1 ≤ 33 ∧ 33 ≤ 32)
      ∧ ((withTake testTake).store.takes[1 - 1]?).join = some testTake ∧ testTake.phase = .closed
      ∧ testTake.holders = { player := false, slotA := false, slotB := false, download := false }
      ∧ ((withTake testTake).store.takes[32 - 1]?).join = none ∧ ({ testTake with phase := .loading } : Take).phase ≠ .closed
      ∧ (List.replicate 16 (0x7E : Byte)).length ≤ 16 :=
  ⟨test_offers _ rfl rfl, by decide, by decide, rfl, rfl, rfl, rfl, by decide, by decide⟩

theorem test_meets_ReleasedBlocks : [3, 7].Pairwise (· < ·) ∧ insertAll [5, 2] [3, 7] = [2, 3, 5, 7] := by decide

theorem test_meets_UploadOpen :
    (withTake testTake).canAsk ∧ (withTake testTake).store.transfer = .none
      ∧ ((withTake testTake).store.takes[2 - 1]?).join = none ∧ (withTake testTake).store.pool.length < 6
      ∧ 5 ≤ (withTake testTake).store.pool.length :=
  ⟨test_offers _ rfl rfl, rfl, rfl, by decide, by decide⟩

/-- The part with an upload to take 1 open at its first block. -/
def withUpload (n : Nat) : State :=
  let s := withTake { testTake with phase := .loading, blocks := [0, 1] }
  { s with store := { s.store with transfer := .upload 1 0 n } }

theorem test_meets_UploadBlocks :
    (withUpload 2).canAsk ∧ (withUpload 2).store.transfer = .upload 1 0 2
      ∧ (withUpload 2).store.takes[1 - 1]? = some (some { testTake with phase := .loading, blocks := [0, 1] })
      ∧ (List.replicate 128 (0 : Byte)).length = 128 ∧ (withUpload 2).store.mem.wf storeByte = true
      ∧ (withUpload 1).store.transfer = .upload 1 0 1 ∧ (∀ id n r, testState.store.transfer ≠ .upload id n r) :=
  ⟨test_offers _ rfl rfl, rfl, rfl, by decide +kernel, rfl, rfl, fun _ _ _ => by simp [testState, State.reset, Store.reset]⟩

theorem test_meets_ValidatedTakes :
    Reading.run { opens := [], time := 0, marks := 0, ended := none } 0
      [{ body := .noteOn 87 127, hand := 0, delta := 0 }, { body := .noteOff 87, hand := 0, delta := 255 },
       { body := .mark 1, hand := 2, delta := 0 }, { body := .endTake, hand := 2, delta := 1 },
       { body := .fill, hand := 2, delta := 0 }] = .passed 3 256 1 := by decide

/-- Records that fail each check of R131, at the record that fails. -/
theorem test_meets_ReadingsThatFail :
    let run (rs : List TakeRecord) : Verdict := Reading.run { opens := [], time := 0, marks := 0, ended := none } 0 rs
    let r (b : RecordBody) (h d : Nat) : TakeRecord := { body := b, hand := h, delta := d }
    let on (k : Nat) := r (.noteOn k 1) 0 0
    let gap := r (.gap 65535) 2 255
    run [on 3, r (.unknown 7) 0 0] = .failed .kind 1 none
      ∧ run [r .endTake 2 0, r .endTake 2 0] = .failed .afterEnd 1 none
      ∧ run [r .fill 3 0] = .failed .range 0 none ∧ run [r (.noteOn 88 1) 0 0] = .failed .range 0 none
      ∧ run [on 3, r (.mark 1) 2 0, on 3] = .failed .noteOpen 2 (some 3)
      ∧ run [on 3, r (.noteOff 3) 1 0, r (.noteOff 3) 1 0] = .failed .noteNotOpen 2 (some 3)
      ∧ run [on 5, on 3, r .endTake 2 0] = .failed .openAtEnd 2 (some 3)
      ∧ run [r .fill 0 0, r (.mark 255) 2 9] = .failed .noEnd 2 none
      ∧ 65535 + 255 ≤ 4294967295 ∧ gap.inRanges = true ∧ 4294967295 < 65283 * (65535 + 255) := by decide

/-- The refusals of downloads and aborts. -/
theorem test_meets_DownloadRefusals :
    let s := withTake testTake
    let open1 : Take := { testTake with phase := .loading }
    ¬(1 ≤ 1 ∧ 1 ≤ 32 ∧ 1 ≤ 2049 ∧ 2049 ≤ 2048) ∧ (withUpload 2).store.transfer ≠ .none
      ∧ (s.store.takes[2 - 1]?).join = none ∧ open1.phase ≠ .closed ∧ testTake.blocks.length < 1 + 1
      ∧ (∀ id next r, (withUpload 2).store.transfer ≠ .download id next r) := by
  refine ⟨by decide, by decide, rfl, by decide, by decide, fun _ _ _ => by simp [withUpload]⟩

theorem test_meets_Downloads :
    let s := withTake testTake
    let d : State := { s with store := { s.store with transfer := .download 1 0 1 } }
    s.canAsk ∧ s.store.takes[1 - 1]? = some (some testTake) ∧ s.store.transfer = .none
      ∧ testTake.phase = .closed ∧ 0 + 1 ≤ testTake.blocks.length ∧ d.store.transfer = .download 1 0 1
      ∧ testTake.blocks[0]? = some 0 ∧ (withUpload 2).store.transfer = .upload 1 0 2 :=
  ⟨test_offers _ rfl rfl, rfl, rfl, rfl, by decide, rfl, rfl, rfl⟩

theorem test_meets_RecStart :
    (withTake testTake).canAsk ∧ (withTake testTake).recorder.state = .idle
      ∧ ((withTake testTake).store.takes[32 - 1]?).join = none ∧ 4 ≤ (withTake testTake).store.pool.length
      ∧ 32 ≤ (withTake testTake).store.takes.length
      ∧ ((withTake testTake).store.takes[1 - 1]?).join = some testTake
      ∧ ({ withTake testTake with recorder := { Recorder.reset with state := .armed } } : State).recorder.state ≠ .idle :=
  ⟨test_offers _ rfl rfl, rfl, rfl, by decide, by decide, rfl, by decide⟩

/-- The name REC_START gives: kept when it is good, and refused when it is not. -/
theorem test_rec_start_names_its_take :
    let run (name : List Byte) : Host.Outcome State Fault Refusal :=
      exec (.recStart 0 2 (some .onFirstKey) name) ((withTake testTake).asking .recStart)
    let named (x : Host.Outcome State Fault Refusal) : Option (List Byte) :=
      match x with | .next s => ((s.store.takes[2 - 1]?).join).bind (·.name) | _ => none
    named (run [0x41]) = some [0x41] ∧ named (run []) = none ∧ named (run [0x1F]) = none
      ∧ ¬((List.replicate 17 (0x41 : Byte)).length ≤ 16) ∧ ¬(0x20 ≤ (0x1F : Byte).toNat) ∧ (0x7E : Byte).toNat ≤ 0x7E := by
  decide +kernel

/-- The part recording into take 1. -/
def withRecording (st : RecState) : State :=
  { withTake { testTake with phase := .recording, blocks := [0, 1, 2, 3, 4], count := 3 } with
    recorder := { Recorder.reset with state := st, take := some 1, clock := 255, opens := [(40, .right)], left := 1 } }

theorem test_meets_RecMark :
    (withRecording .recording).canAsk ∧ (withRecording .recording).recorder.state = .recording
      ∧ (withRecording .recording).recorder.take = some 1
      ∧ (withRecording .recording).store.takes[1 - 1]? =
          some (some { testTake with phase := .recording, blocks := [0, 1, 2, 3, 4], count := 3 })
      ∧ (withRecording .recording).recorder.clock - (withRecording .recording).recorder.last ≤ 255
      ∧ 4 + (3 + 1) / 32 ≤ [0, 1, 2, 3, 4].length ∧ (withRecording .paused).recorder.state ≠ .recording :=
  ⟨test_offers _ rfl rfl, rfl, rfl, rfl, by decide, by decide, by decide⟩

theorem test_meets_TakeClock :
    (withRecording .recording).recorder.left ≤ ((1 : Time) - (withRecording .recording).clock).toNat
      ∧ (withRecording .paused).recorder.state ≠ .recording := by decide

theorem test_meets_PauseResumeStop :
    (withRecording .recording).recorder.take = some 1 ∧ (withRecording .paused).recorder.state = .paused
      ∧ (withRecording .paused).canAsk ∧ (withRecording .armed).recorder.state ≠ .idle
      ∧ (withRecording .idle).recorder.state = .idle :=
  ⟨rfl, rfl, test_offers _ rfl rfl, by decide, rfl⟩

theorem test_meets_Recording :
    (withRecording .recording).records 1 { testTake with phase := .recording, blocks := [0, 1, 2, 3, 4], count := 3 }
      ∧ (withRecording .armed).recorder.state = .armed ∧ (withRecording .paused).recorder.state = .paused
      ∧ (testEvent (.noteOn 40 1 false .hammer)).body = .noteOn 40 1 false .hammer
      ∧ (∀ k v b q, (testEvent (.noteOff 40 .hammer)).body ≠ .noteOn k v b q) :=
  ⟨⟨rfl, by decide, rfl⟩, rfl, rfl, rfl, by simp [testEvent]⟩

/-- The part recording into the last record of the first of four blocks, with a pool. -/
def atTheReserve (st : RecState) (pool : List Nat) : State :=
  let s := withTake { testTake with phase := .recording, blocks := [0, 1, 2, 3], count := 31 }
  { s with
    store := { s.store with pool }
    recorder := { Recorder.reset with state := st, take := some 1, clock := 300, opens := [(40, .right), (41, .left)] } }

theorem test_meets_OneRecord :
    (atTheReserve .recording []).records 1 { testTake with phase := .recording, blocks := [0, 1, 2, 3], count := 31 }
      ∧ [0, 1, 2, 3].length < 4 + (31 + 1) / 32 ∧ (atTheReserve .recording []).store.pool = []
      ∧ (atTheReserve .recording [9]).store.pool = 9 :: [] ∧ 4 + (30 + 1) / 32 ≤ [0, 1, 2, 3].length :=
  ⟨⟨rfl, by decide, rfl⟩, by decide, rfl, rfl, by decide⟩

theorem test_meets_OpenNotes :
    [(40, Hand.right), (41, .left)].Pairwise (fun x y => x.1 < y.1)
      ∧ (∀ e ∈ [(40, Hand.right), (41, .left)], e.1 ≠ 87)
      ∧ insertOpen 40 .left [(40, .right), (41, .left)] = [(40, .left), (41, .left)]
      ∧ insertOpen 0 .left [(40, .right)] = [(0, .left), (40, .right)] := by decide

/-- Both outcomes of a writing: every ask met, and an ask failed. -/
theorem test_meets_WritesEndBothWays :
    let notes := noteOffs [(40, Hand.right), (41, .left)]
    let met (x : State × Bool) : Bool := x.2
    met (({ atTheReserve .recording [9] with clock := 5 } : State).writes (timedRecords 300 notes)) = true
      ∧ met ((atTheReserve .recording []).writes (timedRecords 300 notes)) = false
      ∧ met ((atTheReserve .recording [9]).writes (timedRecords 300 [(.mark 1, .none)])) = true
      ∧ met ((atTheReserve .recording []).writes (timedRecords 300 [(.mark 255, .none)])) = false
      ∧ met ((atTheReserve .paused [9]).writes (gapsFor 300 ++ stamped 0 (pedalRecords PedalContext.clear))) = true
      ∧ met ((atTheReserve .paused []).writes (gapsFor 300 ++ stamped 0 (pedalRecords PedalContext.clear))) = false
      ∧ met ((atTheReserve .armed []).writes (stamped 0 (pedalRecords PedalContext.clear ++ [(.noteOn 40 1, .right)]))) = false
      ∧ (atTheReserve .paused []).canAsk := by
  refine ⟨?_, ?_, ?_, ?_, ?_, ?_, ?_, test_offers _ rfl rfl⟩ <;> decide +kernel

theorem test_times_are_carried_by_gaps :
    gapsFor 255 = [] ∧ leftAfterGaps 255 = 255 ∧ gapsFor 256 = [(.gap 256, .none, 0)] ∧ leftAfterGaps 256 = 0
      ∧ gapsFor 65790 = [(.gap 65535, .none, 0)] ∧ leftAfterGaps 65790 = 255
      ∧ gapsFor 70170 = [(.gap 65535, .none, 0), (.gap 4635, .none, 0)] ∧ leftAfterGaps 70170 = 0 := by decide

/-! ### Practice player -/

theorem test_meets_PlayStart :
    (withTake testTake).canAsk ∧ (1 ≤ 1 ∧ 1 ≤ 32 ∧ 255 ≤ 255 ∧ 25 ≤ 25 ∧ 25 ≤ 200)
      ∧ (withTake testTake).player.state = .idle ∧ ((withTake testTake).store.takes[1 - 1]?).join = some testTake
      ∧ testTake.phase = .closed ∧ ((withTake testTake).store.takes[2 - 1]?).join = none ∧ 255 < 256
      ∧ ({ withTake testTake with player := { Player.reset with state := .paused } } : State).player.state ≠ .idle :=
  ⟨test_offers _ rfl rfl, by decide, rfl, rfl, rfl, rfl, by decide, by decide⟩

/-- The part with a CLOSED take of MARK 1, MARK 2, MARK 1 and END. -/
def withMarks : State :=
  let s := withTake { testTake with count := 4, marks := 3 }
  { s with store := { s.store with mem := [(0, 0x48), (2, 1), (4, 0x48), (6, 2), (8, 0x48), (10, 1), (12, 0x68)] } }

/-- Marks that the take holds and marks that it does not; a to mark must lie after the first of the from mark. -/
theorem test_meets_PlayStartWithMarks :
    let run (x y : Option Nat) : Option (PlayerState × Nat) :=
      match exec (.playStart 0 1 x y 1 100 { left := some .sound, right := some .sound, noHand := some .sound } false)
        (withMarks.asking .playStart) with
      | .next s => some (s.player.state, s.player.cueLeft)
      | _ => none
    run (some 1) (some 1) = some (.cueing, 50) ∧ run (some 2) (some 1) = some (.cueing, 50) ∧ run none (some 2) = some (.cueing, 0)
      ∧ run (some 3) none = some (.idle, 0) ∧ run (some 2) (some 2) = some (.idle, 0) ∧ run none (some 255) = some (.idle, 0)
      ∧ (withMarks.store.recordAt (128 * 0 + 4 * 0)).body = .mark 1 := by decide +kernel

/-- The part playing take 1. -/
def withPlayer (st : PlayerState) : State :=
  { withTake { testTake with holders := { testTake.holders with player := true } } with
    player := { Player.reset with state := st, take := some 1, pos := 1, openNotes := [40], tickLeft := some 1000 } }

theorem test_meets_ThePlayerTicksOn :
    (withPlayer .paused).canAsk ∧ (withPlayer .paused).player.state = .paused
      ∧ (withPlayer .paused).player.expected = [] ∧ (withPlayer .paused).dueRecords = []
      ∧ (withPlayer .playing).player.tickLeft = some 1000 ∧ 1000 ≤ ((1000 : Time) - (withPlayer .playing).clock).toNat
      ∧ ({ withPlayer .playing with player := { (withPlayer .playing).player with clock := 1 } } : State).dueRecords = [] :=
  ⟨test_offers _ rfl rfl, rfl, rfl, by decide, rfl, by decide, by decide⟩

theorem test_meets_TheCueEnds :
    let s : State := { testState with player := { Player.reset with state := .cueing } }
    s.player.state = .cueing ∧ s.player.cueLeft ≤ ((0 : Time) - s.clock).toNat ∧ s.player.fromMark = none
      ∧ s.player.resume = none ∧ s.player.context = PedalContext.clear ∧ s.player.expected = []
      ∧ ({ s with player := { s.player with pos := 0, clock := 0 } } : State).dueRecords = [] := by decide

theorem test_meets_Records :
    40 ∉ (withPlayer .playing).player.expected ∧ (withPlayer .playing).player.expected.length < 16
      ∧ 40 ∈ (withPlayer .playing).player.openNotes ∧ 41 ∉ (withPlayer .playing).player.openNotes
      ∧ 40 ∈ ({ (withPlayer .waiting).player with expected := [40] } : Player).expected := by decide

/-- A record at position 1 of a take, at take time 0. -/
def testTimed (b : RecordBody) (h : Nat) : Timed := { pos := 1, record := { body := b, hand := h, delta := 0 }, time := 0 }

theorem test_meets_RecordsByKind :
    let p := (withPlayer .playing).player
    (testTimed (.noteOn 40 1) 0).record.hand = 0 ∧ (testTimed (.noteOn 40 1) 1).record.hand = 1
      ∧ (testTimed (.noteOn 40 1) 2).record.hand = 2 ∧ (testTimed (.pedal 1 64) 2).record.body = .pedal 1 64 ∧ 64 ≤ 64 ∧ 63 < 64
      ∧ p.context.sostenuto = false ∧ ({ p.context with sostenuto := true } : PedalContext).sostenuto = true
      ∧ ¬(64 ≤ 63) ∧ p.toMark ≠ some 1 ∧ ({ p with toMark := some 255 } : Player).toMark = some 255
      ∧ ({ p with repeats := .times 1 } : Player).repeats = .times (0 + 1) ∧ p.repeats = .times 0 ∧ p.toMark = none
      ∧ ({ p with repeats := .endless } : Player).repeats = .endless
      ∧ 40 ∉ ({ p with expected := List.range 16 } : Player).expected ∧ 16 ≤ (List.range 16).length ∧ p.misses < 65535 := by
  decide

theorem test_meets_Plays :
    (withPlayer .playing).plays 1 { testTake with holders := { testTake.holders with player := true } }
      ∧ 0 < testTake.count :=
  ⟨⟨rfl, by decide, rfl⟩, by decide⟩

/-- Each way of handling the records due: none, a jump, and a stop. -/
theorem test_meets_HandledRecords :
    let p := (withPlayer .playing).player
    let at' (q : Player) : State := { withPlayer .playing with player := q }
    let fin := testTimed .endTake 2
    ((at' p).handleRecord fin false).2 = .stop
      ∧ ((at' { p with repeats := .endless }).handleRecord fin false).2 = .jump
      ∧ ((at' p).handleRecord (testTimed .fill 2) false).2 = .next
      ∧ ((at' p).handleList false (at' p).dueRecords).2 = .next
      ∧ ((at' { p with pos := 0 }).handleList false (at' { p with pos := 0 }).dueRecords).2 = .next := by decide +kernel

theorem test_meets_TheWaitTest :
    let p := (withPlayer .playing).player
    let s (ks : List Nat) (es : List (Nat × Time)) : State :=
      { withPlayer .playing with clock := 200000, player := { p with expected := ks, recent := es } }
    (∀ e ∈ (s [40] [(40, 79999)]).player.recent, e.1 = 40 → 120 * 1000 < ((s [40] []).clock - e.2).toNat)
      ∧ ((s [40] [(40, 80000)]).player.recent[0]? = some (40, 80000) ∧ ¬(120 * 1000 < ((s [40] []).clock - (80000 : Time)).toNat))
      ∧ (s [] []).player.expected = [] ∧ (s [40] []).player.expected ≠ []
      ∧ ([40].foldl State.earlyMatchKey (s [40] [(40, 80000)])).player.expected = []
      ∧ ([40].foldl State.earlyMatchKey (s [40] [(40, 79999)])).player.expected ≠ [] ∧ p.hits < 65535 := by decide +kernel

theorem test_meets_PlayerRefusals :
    let parts : PartsArg := { left := none, right := some .sound, noHand := some .sound }
    parts.left = none ∧ (withPlayer .cueing).player.state = .cueing ∧ (withPlayer .paused).player.waitPending = false
      ∧ ({ (withPlayer .paused).player with waitPending := true } : Player).waitPending = true
      ∧ (withPlayer .waiting).player.state = .waiting ∧ (Part.sound ≠ .practice ∧ Part.mute ≠ .practice)
      ∧ (withPlayer .playing).player.state ≠ .paused := by decide

theorem test_meets_ContinuingPlay :
    let go (s : State) : State :=
      ({ s with player := { s.player with state := .playing, waitPending := false } } : State).handleAndTest
    (withPlayer .paused).player.state = .paused ∧ (go (withPlayer .paused)).player.state = .playing
      ∧ (go { withPlayer .paused with
          store := { (withPlayer .paused).store with mem := [(0, 0x68)] }
          player := { (withPlayer .paused).player with pos := 0 } }).player.state = .idle := by decide +kernel

theorem test_meets_PlayerSettings :
    (withPlayer .playing).canAsk ∧ 25 ≤ 25 ∧ 200 ≤ 200 ∧ 24 < 25 ∧ 200 < 201
      ∧ (withPlayer .playing).player.state ≠ .idle ∧ testState.player.state = .idle
      ∧ ({ left := .sound, right := .practice, noHand := .mute } : Parts).right = .practice :=
  ⟨test_offers _ rfl rfl, by decide, by decide, by decide, by decide, by decide, rfl, rfl⟩

theorem test_meets_StoppingAndPausing :
    (withPlayer .waiting).canAsk ∧ (withPlayer .waiting).player.state ≠ .idle
      ∧ (withPlayer .waiting).player.take = some 1
      ∧ (withPlayer .waiting).store.takes[1 - 1]? = some (some { testTake with holders := { testTake.holders with player := true } })
      ∧ (withPlayer .waiting).player.state = .waiting ∧ (withPlayer .playing).player.state = .playing :=
  ⟨test_offers _ rfl rfl, by decide, rfl, rfl, rfl, rfl⟩

theorem test_meets_StrikesAndTimeouts :
    let p : Player := { (withPlayer .waiting).player with expected := [40, 87], waitTimer := some 1000 }
    let s : State := { withPlayer .waiting with player := p }
    (withPlayer .playing).player.state = .playing ∧ s.player.state = .waiting ∧ 41 ∉ s.player.expected
      ∧ s.player.wrong < 65535 ∧ 40 ∈ s.player.expected ∧ (∃ j ∈ s.player.expected, j ≠ 40) ∧ s.player.hits < 65535
      ∧ s.player.waitTimer = some 1000 ∧ 1000 ≤ ((1000 : Time) - s.clock).toNat ∧ s.dueRecords = []
      ∧ s.stats.length = 27 ∧ s.link.readyPlace = none := by decide

theorem test_meets_Slots :
    let saved := (withPlayer .playing).player.saved 1
    let s : State := { withTake testTake with player := { Player.reset with slotA := some saved } }
    (withPlayer .paused).canAsk ∧ (withPlayer .paused).player.state ≠ .idle
      ∧ (withPlayer .paused).player.state ≠ .cueing ∧ (withPlayer .paused).player.take = some 1
      ∧ (withPlayer .paused).player.slot .b = none ∧ s.canAsk ∧ s.player.state = .idle
      ∧ s.player.slot .a = some saved ∧ saved.take = 1 ∧ s.store.takes[1 - 1]? = some (some testTake) ∧ s.player.slot .b = none :=
  ⟨test_offers _ rfl rfl, by decide, by decide, rfl, rfl, test_offers _ rfl rfl, rfl, rfl, rfl, rfl, rfl⟩

theorem test_meets_TheLastStrike :
    let p : Player := { (withPlayer .waiting).player with expected := [40] }
    p.state = .waiting ∧ 40 ∈ p.expected ∧ (∀ j ∈ p.expected, j = 40) ∧ p.hits < 65535 := by decide

theorem test_meets_TheCueEndsAtItsPlace :
    let s := withPlayer .cueing
    let m := testTimed (.mark 1) 2
    s.player.state = .cueing ∧ s.player.cueLeft ≤ ((0 : Time) - s.clock).toNat ∧ s.player.fromMark = none
      ∧ ({ s.player with fromMark := some 1 } : Player).fromMark = some 1 ∧ m.record.body = .mark 1
      ∧ (let q : State := { s with store := { s.store with mem := [(0, 0x48), (2, 0x01)] } }
         q.playRecords = [{ m with pos := 0 }]) := by decide

/-! ### Start-up, encodings and invariants -/

theorem test_meets_TheStrap :
    let s : State := { State.reset with link := { Link.reset with start := .setup }, pins := { Pins.reset with strap := true } }
    s.link.start = .setup ∧ s.pins.strap = true ∧ s.link.tx = none ∧ s.link.restart = .none := ⟨rfl, rfl, rfl, rfl⟩

/-- The content of a setup area that holds the built-in defaults. -/
def testSetup : List Byte :=
  (List.replicate 88 (calBytes defaultCal)).flatten
    ++ [40, 60, 350, 700, 700, 950, 30, 500, 880, 450, 760].flatMap (leBytes 2)
    ++ (defaultHammerCurve ++ defaultKeyCurve).flatMap (fun p => leBytes 4 p.time ++ leBytes 1 p.velocity)
    ++ ([0, 1, 0].flatMap fun mode => leBytes 2 600 ++ leBytes 2 3000 ++ [BitVec.ofNat 8 mode, 2])
    ++ (leBytes 2 1040 ++ leBytes 2 2600 ++ [60, 25] ++ leBytes 2 2500 ++ leBytes 2 100 ++ [1] ++ [64, 0, 39])

theorem test_the_setup_area_holds_the_defaults : testSetup.length = 1270 ∧ setupOf testSetup = some defaultSetup := by
  decide +kernel

theorem test_the_defaults_pass_their_checks : defaultSetup.ok = true := by decide +kernel

/-- A setup area: its signature, its length, a CRC field and its content. -/
def testArea (crc : Nat) (content : List Byte) : List Byte :=
  [0x4D, 0x42, 0x53, 0x55] ++ leBytes 2 1270 ++ leBytes 2 crc ++ content

/-- The part in its setup phase with a setup area at 100. -/
def inSetup (strap : Bool) (offset : Nat) (area : List Byte) : State :=
  { State.reset with
    link := { Link.reset with start := .setup }, pins := { Pins.reset with strap }
    soundMem := Memory.writeAll flashByte [] 100 area
    fetch := { Fetch.reset with
      header := some { version := 1, zoneCount := 1, memorySize := 65536, setupOffset := offset } } }

/-- The bytes the part reads from place `i` of such an area. -/
def areaBytes (area : List Byte) (i n : Nat) : List Byte :=
  Memory.readAll flashByte (inSetup false 100 area).soundMem (100 + i) n

theorem test_area_reads_back (area : List Byte) (i n : Nat) (h : i + n ≤ area.length) :
    areaBytes area i n = (area.drop i).take n :=
  Memory.readAll_writeAll flashByte [] 100 i n area rfl h

theorem test_meets_TheSetupPhase :
    (inSetup false 0 []).link.start = .setup ∧ (inSetup false 0 []).link.tx = none ∧ (inSetup false 0 []).link.restart = .none
      ∧ (inSetup true 0 []).pins.strap = true ∧ State.reset.link.start ≠ .setup ∧ State.reset.fetch.header = none
      ∧ Memory.readAll flashByte (inSetup false 100 []).soundMem 100 4 ≠ [0x4D, 0x42, 0x53, 0x55] := by decide

/-- What such an area reads as. -/
theorem test_area_fields (crc : Nat) (content : List Byte) (h : content.length = 1270) :
    areaBytes (testArea crc content) 0 4 = [0x4D, 0x42, 0x53, 0x55] ∧ leNat (areaBytes (testArea crc content) 4 2) = 1270
      ∧ leNat (areaBytes (testArea crc content) 6 2) = crc % 65536 ∧ areaBytes (testArea crc content) 8 1270 = content := by
  have hl : (testArea crc content).length = 1278 := by simp [testArea, leBytes, h]
  refine ⟨?_, ?_, ?_, ?_⟩
  · rw [test_area_reads_back _ 0 4 (by omega)]
    rfl
  · rw [test_area_reads_back _ 4 2 (by omega)]
    rfl
  · rw [test_area_reads_back _ 6 2 (by omega)]
    simp [testArea, leBytes, leNat]
    omega
  · rw [test_area_reads_back _ 8 1270 (by omega)]
    simp [testArea, leBytes, ← h]

/-- An area that passes every check. -/
theorem test_meets_AStoredSetup :
    let area := testArea (crc16 testSetup).toNat testSetup
    areaBytes area 0 4 = [0x4D, 0x42, 0x53, 0x55] ∧ leNat (areaBytes area 4 2) = 1270
      ∧ leNat (areaBytes area 6 2) = (crc16 (areaBytes area 8 1270)).toNat
      ∧ setupOf (areaBytes area 8 1270) = some defaultSetup := by
  have h := test_area_fields (crc16 testSetup).toNat testSetup test_the_setup_area_holds_the_defaults.1
  exact ⟨h.1, h.2.1, by rw [h.2.2.1, h.2.2.2]; omega, by rw [h.2.2.2]; exact test_the_setup_area_holds_the_defaults.2⟩

/-- Areas that fail the length, the CRC and the content with the checks before them passed. -/
theorem test_meets_SetupAreasThatFail :
    let wrong := testArea ((crc16 testSetup).toNat + 1) testSetup
    let bad := testSetup.set 1242 2
    leNat (areaBytes [0x4D, 0x42, 0x53, 0x55] 4 2) ≠ 1270
      ∧ leNat (areaBytes wrong 6 2) ≠ (crc16 (areaBytes wrong 8 1270)).toNat
      ∧ leNat (areaBytes (testArea (crc16 bad).toNat bad) 6 2)
          = (crc16 (areaBytes (testArea (crc16 bad).toNat bad) 8 1270)).toNat
      ∧ setupOf (areaBytes (testArea (crc16 bad).toNat bad) 8 1270) = none := by
  have hs : (testSetup.set 1242 2).length = 1270 := by rw [List.length_set, test_the_setup_area_holds_the_defaults.1]
  have h := test_area_fields ((crc16 testSetup).toNat + 1) testSetup test_the_setup_area_holds_the_defaults.1
  have g := test_area_fields (crc16 (testSetup.set 1242 2)).toNat _ hs
  refine ⟨by decide, by rw [h.2.2.1, h.2.2.2]; omega, by rw [g.2.2.1, g.2.2.2]; omega, ?_⟩
  rw [g.2.2.2]
  decide +kernel

theorem test_meets_TheWarmReset :
    let r : Reply := { kind := 0, tag := 1, status := .ok, content := .nothing }
    let s : State := { State.reset with link := { testLink with restart := .replied } }
    s.link.restart = .replied ∧ s.fetch.status = .loading ∧ testState.link.restart ≠ .replied
      ∧ ({ testLink with restart := .replying, tx := some (.reply r 0 1) } : Link).tx = some (.reply r 0 1) := by decide

theorem test_meets_Restart :
    let r : Reply := { kind := 0, tag := 1, status := .ok, content := .nothing }
    let s : State := { withVoices [] with link := { testLink with restart := .replying, tx := some (.reply r 0 1) } }
    testState.canAsk ∧ s.link.restart = .replying ∧ s.link.reply = none ∧ s.link.tx = some (.reply r 0 1)
      ∧ s.fetch.status ≠ .loading :=
  ⟨test_offers _ rfl rfl, rfl, rfl, rfl, by decide⟩

theorem test_meets_Settings :
    requestTime (.warmReset 9) = none ∧ (∀ strap, Instr.warmReset 9 ≠ .fullReset strap)
      ∧ (∀ t, Instr.warmReset 9 ≠ .setupAreaReadDone t) ∧ ∃ s', exec (.warmReset 9) testState = .next s' :=
  ⟨rfl, by simp, by simp, _, rfl⟩

theorem test_meets_RoundTrips :
    ({ body := .gap 65535, hand := 2, delta := 255 } : TakeRecord).inRanges = true
      ∧ calOk { defaultCal with hammerStopped := some 4095, trim := -16 } = true
      ∧ calBytes defaultCal = [0x90, 0x01, 0x10, 0x0E, 0x2C, 0x01, 0xD8, 0x0E, 0xFF, 0xFF, 0x00, 0x01] := by decide

theorem test_disabled_keys_are_still_after_reset : State.reset.disabledStill := by
  intro k hk
  rw [List.eq_of_mem_replicate hk]
  intro h
  exact absurd h (by decide)

theorem test_meets_the_invariants :
    State.reset.memoriesCanonical ∧ State.reset.queuesBounded ∧ State.reset.interlocked ∧ State.reset.startsQuietly
      ∧ ∃ s', step State.reset = .next s' := by
  refine ⟨⟨rfl, rfl⟩, ?_, ?_, ?_, _, rfl⟩
  · unfold State.queuesBounded; decide
  · unfold State.interlocked; decide
  · refine ⟨fun _ => ⟨rfl, rfl⟩, fun h => absurd h (by decide), fun _ => ⟨?_, ?_, rfl⟩⟩
    · intro k hk
      rw [List.eq_of_mem_replicate hk]
      rfl
    · intro v hv
      exact List.eq_of_mem_replicate hv

/-! ### Single steps -/

theorem test_rail_move_drives :
    (exec (.railMove 10 (some .silent) (some .retreat)) ((withRail (testRail .acoustic (some 1040))).asking .railMove) |> fun x =>
      match x with
      | .next s => (s.rail.state, s.rail.drive, s.rail.duty, s.link.notices.length)
      | _ => (.fault, .coast, 0, 0)) = (.moving, .forward, 60, 1) := by decide

theorem test_strike_reaches_the_voices :
    (match (withVoices []).noteOn .live 40 100 with
      | s => (s.voices.table[0]?, s.voices.counter, s.fetch.port))
      = (some (some { phase := .starting, source := .live, key := 40, velocity := 100, zone := 0, gain := 6, released := false
                      seq := 5 }), 6,
         some (.segment { cls := .prime, voice := 0, seq := 5, segment := 0 })) := by decide

theorem test_crc_of_check_string : crc16 [0x31, 0x32, 0x33, 0x34, 0x35, 0x36, 0x37, 0x38, 0x39] = 0x29B1#16 := by decide +kernel

theorem test_stop_at_an_empty_queue : step State.reset = .next (State.reset.elapse 1) := rfl

end Sys2Proof.Machine
end

section
/-! What the claims and operations of the voices, the Recorder, the Stream Packer and the Practice Player leave alone. -/

namespace Sys2Proof.Machine

/-! ### States that differ only in what sounds, is recorded or is played -/

/-- `s'` is `s` but for the voices, the fetch unit, the store, the Recorder, the packer, the player, the event in passage, the
notices and the statistics. -/
structure State.sameControl (s' s : State) : Prop where
  clock : s'.clock = s.clock
  scanner : s'.scanner = s.scanner
  pedals : s'.pedals = s.pedals
  router : s'.router = { s.router with passage := s'.router.passage }
  rail : s'.rail = s.rail
  mixer : s'.mixer = s.mixer
  link : s'.link = { s.link with notices := s'.link.notices }
  pins : s'.pins = s.pins
  soundMem : s'.soundMem = s.soundMem
  pending : s'.pending = s.pending
  kinds : s'.kinds = s.kinds

theorem State.sameControl_refl (s : State) : s.sameControl s := by constructor <;> rfl

/-- An update of the fields that `sameControl` leaves open. -/
theorem State.sameControl_update (s : State) (v : Voices) (f : Fetch) (st : Store) (r : Recorder) (pk : Packer) (pl : Player)
    (pe : Option LiveEvent) (ns : List Notice) (x : List Tally) :
    ({ s with
        voices := v, fetch := f, store := st, recorder := r, packer := pk, player := pl
        router := { s.router with passage := pe }, link := { s.link with notices := ns }, stats := x } : State).sameControl s := by
  constructor <;> rfl

theorem State.sameControl.trans {a b c : State} (h : a.sameControl b) (h' : b.sameControl c) : a.sameControl c where
  clock := h.clock.trans h'.clock
  scanner := h.scanner.trans h'.scanner
  pedals := h.pedals.trans h'.pedals
  router := h.router.trans (by rw [h'.router])
  rail := h.rail.trans h'.rail
  mixer := h.mixer.trans h'.mixer
  link := h.link.trans (by rw [h'.link])
  pins := h.pins.trans h'.pins
  soundMem := h.soundMem.trans h'.soundMem
  pending := h.pending.trans h'.pending
  kinds := h.kinds.trans h'.kinds

/-! ### Counters, notices, voices and the packer -/

theorem State.tally_sameControl (c : Counter) (s : State) : (s.tally c).sameControl s := s.sameControl_update ..

theorem State.notify_sameControl (n : Notice) (s : State) : (s.notify n).sameControl s := by
  obtain ⟨ns, x, h⟩ := s.notify_frame n
  exact h ▸ s.sameControl_update ..

theorem State.noteOn_sameControl (src : Source) (k v : Nat) (s : State) : (s.noteOn src k v).sameControl s := by
  obtain ⟨tb, c, f, x, h⟩ := s.noteOn_frame src k v
  exact h ▸ s.sameControl_update ..

theorem State.noteOff_sameControl (src : Source) (k : Nat) (s : State) : (s.noteOff src k).sameControl s := by
  obtain ⟨tb, h⟩ := s.noteOff_frame src k
  exact h ▸ s.sameControl_update ..

theorem State.pedalClaim_sameControl (src : Source) (s : State) : (s.pedalClaim src).sameControl s := s.sameControl_update ..

theorem State.streamEvent_sameControl (e : LiveEvent) (s : State) : (s.streamEvent e).sameControl s := by
  unfold State.streamEvent
  split
  · exact (State.tally_sameControl ..).trans (s.sameControl_update ..)
  · exact s.sameControl_update ..

/-! ### The Recorder -/

theorem State.recordEvent_sameControl (e : LiveEvent) (s : State) : (s.recordEvent e).sameControl s := by
  obtain ⟨st, r, ns, x, h⟩ := s.recordEvent_frame e
  exact h ▸ s.sameControl_update ..

theorem State.write_sameControl (b : RecordBody) (h : Hand) (s : State) : (s.write b h).1.sameControl s := by
  obtain ⟨st, r, h⟩ := s.write_frame b h
  exact h ▸ s.sameControl_update ..

theorem State.writeAll_sameControl (rs : List (RecordBody × Hand)) (s : State) : (s.writeAll rs).1.sameControl s := by
  obtain ⟨st, r, h⟩ := s.writeAll_frame rs
  exact h ▸ s.sameControl_update ..

theorem State.storeExhausted_sameControl (s : State) : s.storeExhausted.sameControl s := by
  obtain ⟨st, r, ns, x, h⟩ := s.storeExhausted_frame
  exact h ▸ s.sameControl_update ..

theorem State.closeRecording_sameControl (b : Bool) (s : State) : (s.closeRecording b).sameControl s := by
  obtain ⟨st, r, h⟩ := s.closeRecording_frame b
  exact h ▸ s.sameControl_update ..

theorem State.recNotify_sameControl (id : Option Nat) (why : RecReason) (s : State) : (s.recNotify id why).sameControl s := by
  obtain ⟨ns, x, h⟩ := s.recNotify_frame id why
  exact h ▸ s.sameControl_update ..

theorem State.finishWrite_sameControl (x : State × Bool) : (State.finishWrite x).sameControl x.1 := by
  unfold State.finishWrite
  split
  · exact State.sameControl_refl _
  · exact State.storeExhausted_sameControl _

theorem State.emitAll_sameControl (rs : List (RecordBody × Hand)) (s : State) : (s.emitAll rs).1.sameControl s := by
  induction rs generalizing s with
  | nil => exact s.sameControl_refl
  | cons e rs ih =>
    obtain ⟨st, r, h⟩ := s.emit_frame e.1 e.2 0
    have he : (s.emit e.1 e.2 0).1.sameControl s := h ▸ s.sameControl_update ..
    unfold State.emitAll
    split
    next s' hs => exact (ih s').trans (by rw [hs] at he; exact he)
    next s' hs => rw [hs] at he; exact he

theorem State.resumeRecords_sameControl (s : State) : s.resumeRecords.1.sameControl s := by
  obtain ⟨st, r, h⟩ := s.emitTime_frame s.recorder.since
  have he : (s.emitTime s.recorder.since).1.sameControl s := h ▸ s.sameControl_update ..
  unfold State.resumeRecords
  split
  next s' hs => rw [hs] at he; exact (s'.emitAll_sameControl _).trans he
  next s' hs => rw [hs] at he; exact he

/-- A request whose records were written leaves what its last step leaves. -/
theorem State.replyWrite_sameControl {x : State × Bool} {s was : State} {done : State → State} {ok : Content}
    (hx : x.1.sameControl s) (hd : ∀ u, (done u).sameControl u) : (State.replyWrite x was done ok).1.sameControl s := by
  unfold State.replyWrite
  split
  · exact (hd _).trans hx
  · exact (State.storeExhausted_sameControl _).trans hx

theorem State.runTakeClock_sameControl (s : State) : s.runTakeClock.sameControl s := s.sameControl_update ..

theorem State.recStart_sameControl (id : Nat) (arm : ArmMode) (name : List Byte) (s : State) :
    (s.recStart id arm name).1.sameControl s := by
  unfold State.recStart
  split
  · exact s.sameControl_refl
  · simp only
    split
    · exact s.sameControl_refl
    · split
      · exact s.sameControl_update ..
      · exact (State.finishWrite_sameControl _).trans ((State.writeAll_sameControl ..).trans (s.sameControl_update ..))

theorem State.recMark_sameControl (n : Nat) (s : State) : (s.recMark n).1.sameControl s := by
  unfold State.recMark
  split_ifs
  · exact s.sameControl_refl
  · exact s.sameControl_refl
  · exact State.replyWrite_sameControl (s.write_sameControl _ _) fun u => u.sameControl_refl

theorem State.recPause_sameControl (s : State) : s.recPause.1.sameControl s := by
  unfold State.recPause
  split
  · exact s.sameControl_refl
  · exact State.replyWrite_sameControl (s.writeAll_sameControl _) fun u => u.sameControl_update ..

theorem State.recResume_sameControl (s : State) : s.recResume.1.sameControl s := by
  unfold State.recResume
  split
  · exact s.sameControl_refl
  · exact State.replyWrite_sameControl s.resumeRecords_sameControl State.runTakeClock_sameControl

theorem State.recStop_sameControl (s : State) : s.recStop.1.sameControl s := by
  unfold State.recStop
  split
  · exact s.sameControl_refl
  · exact s.sameControl_refl
  · simp only
    exact (State.recNotify_sameControl ..).trans (s.closeRecording_sameControl _)

/-! ### The Practice Player -/

theorem State.releaseOpen_sameControl (s : State) : s.releaseOpen.sameControl s := by
  obtain ⟨tb, h⟩ := s.releaseOpen_frame
  exact h ▸ s.sameControl_update ..

theorem State.setContext_sameControl (c : PedalContext) (b : Bool) (s : State) : (s.setContext c b).sameControl s := by
  obtain ⟨tb, h⟩ := s.setContext_frame c b
  exact h ▸ s.sameControl_update ..

theorem State.endTake_sameControl (why : PlayReason) (s : State) : (s.endTake why).sameControl s := by
  obtain ⟨tb, st, p, ns, x, h⟩ := s.endTake_frame why
  exact h ▸ s.sameControl_update ..

theorem State.pausePlay_sameControl (s : State) : s.pausePlay.sameControl s := by
  obtain ⟨tb, p, ns, x, h⟩ := s.pausePlay_frame
  exact h ▸ s.sameControl_update ..

theorem State.countHit_sameControl (s : State) : s.countHit.sameControl s := s.sameControl_update ..

theorem State.countMiss_sameControl (s : State) : s.countMiss.sameControl s := s.sameControl_update ..

theorem State.countWrong_sameControl (s : State) : s.countWrong.sameControl s := s.sameControl_update ..

theorem State.countMisses_sameControl (n : Nat) (s : State) : (s.countMisses n).sameControl s := by
  induction n generalizing s with
  | zero => exact s.sameControl_refl
  | succ n ih => exact (ih s.countMiss).trans s.countMiss_sameControl

theorem State.offerKey_sameControl (k : Nat) (s : State) : (s.offerKey k).sameControl s := by
  unfold State.offerKey
  split_ifs
  · exact s.sameControl_refl
  · exact s.countMiss_sameControl
  · exact s.sameControl_update ..

theorem State.endWait_sameControl (how : WaitEnd) (d : Nat) (s : State) : (s.endWait how d).sameControl s :=
  (State.notify_sameControl ..).trans (s.sameControl_update ..)

theorem State.earlyMatchKey_sameControl (s : State) (k : Nat) : (s.earlyMatchKey k).sameControl s := by
  unfold State.earlyMatchKey
  split
  · exact s.sameControl_refl
  · exact (State.countHit_sameControl _).trans (s.sameControl_update ..)

theorem State.earlyMatch_sameControl (s : State) : s.earlyMatch.sameControl s := by
  have fold (ks : List Nat) (u : State) : (ks.foldl State.earlyMatchKey u).sameControl u := by
    induction ks generalizing u with
    | nil => exact u.sameControl_refl
    | cons k ks ih => exact (ih _).trans (u.earlyMatchKey_sameControl k)
  exact fold _ s

theorem State.waitTest_sameControl (s : State) : s.waitTest.sameControl s := by
  unfold State.waitTest
  split
  · exact s.sameControl_update ..
  · simp only
    split
    · exact (State.sameControl_update ..).trans ((State.endWait_sameControl ..).trans s.earlyMatch_sameControl)
    · exact (State.sameControl_update ..).trans s.earlyMatch_sameControl

theorem State.loopJump_sameControl (s : State) : s.loopJump.sameControl s :=
  (State.sameControl_update ..).trans ((State.setContext_sameControl ..).trans s.releaseOpen_sameControl)

theorem State.loopEnd_sameControl (j : Bool) (s : State) : (s.loopEnd j).1.sameControl s := by
  unfold State.loopEnd
  split
  · exact s.loopJump_sameControl
  · exact s.endTake_sameControl _

theorem State.haltActs_sameControl (go : Go) (s : State) : (s.haltActs go).1.sameControl s := by
  unfold State.haltActs
  split
  · exact s.sameControl_refl
  · exact s.endTake_sameControl _
  · exact (State.pausePlay_sameControl _).trans (s.sameControl_update ..)

theorem State.markPassed_sameControl (n time : Nat) (s : State) : (s.markPassed n time).sameControl s := by
  have h : (if s.player.reportMarks then
        ({ s with player := { s.player with mark := some n } } : State).notify (.playerMark n time s.player.repeats)
      else { s with player := { s.player with mark := some n } }).sameControl s := by
    split
    · exact (State.notify_sameControl ..).trans (s.sameControl_update ..)
    · exact s.sameControl_update ..
  unfold State.markPassed
  simp only
  split
  · exact h
  · exact (State.sameControl_update ..).trans h

theorem State.handleMark_sameControl (n time : Nat) (j : Bool) (s : State) : (s.handleMark n time j).1.sameControl s := by
  have hm := s.markPassed_sameControl n time
  unfold State.handleMark
  simp only
  split
  · have hl := ((s.markPassed n time).loopEnd_sameControl j).trans hm
    split
    next s2 he => rw [he] at hl; exact hl
    next s2 go _ he => rw [he] at hl; exact (s2.haltActs_sameControl go).trans hl
  · exact (State.haltActs_sameControl ..).trans hm

theorem State.handleOn_sameControl (k v : Nat) (part : Part) (s : State) : (s.handleOn k v part).sameControl s := by
  cases part with
  | sound => exact (State.sameControl_update ..).trans (s.noteOn_sameControl .playback k v)
  | mute => exact s.sameControl_refl
  | practice => exact s.offerKey_sameControl k

theorem State.handleOff_sameControl (k : Nat) (s : State) : (s.handleOff k).sameControl s := by
  unfold State.handleOff
  split
  · exact (State.sameControl_update ..).trans (s.noteOff_sameControl .playback k)
  · exact s.sameControl_refl

theorem State.handleRecord_sameControl (x : Timed) (j : Bool) (s : State) : (s.handleRecord x j).1.sameControl s := by
  have h0 : ({ s with player := { s.player with pos := x.pos + 1 } } : State).sameControl s := s.sameControl_update ..
  unfold State.handleRecord
  simp only
  split
  · exact (State.handleOn_sameControl ..).trans h0
  · exact (State.handleOff_sameControl ..).trans h0
  · exact (State.setContext_sameControl ..).trans h0
  · exact (State.handleMark_sameControl ..).trans h0
  · split
    · exact (State.loopEnd_sameControl ..).trans h0
    · exact (State.endTake_sameControl ..).trans h0
  all_goals exact h0

theorem State.handleList_sameControl (j : Bool) (xs : List Timed) (s : State) : (s.handleList j xs).1.sameControl s := by
  induction xs generalizing s with
  | nil => exact s.sameControl_refl
  | cons x xs ih =>
    have h := s.handleRecord_sameControl x j
    unfold State.handleList
    split
    next s' he => rw [he] at h; exact (ih s').trans h
    next s' go _ he => rw [he] at h; exact h

theorem State.handleDue_sameControl (s : State) : s.handleDue.1.sameControl s := by
  have h := s.handleList_sameControl false s.dueRecords
  unfold State.handleDue
  split
  next s' he => rw [he] at h; exact h
  next s' he => rw [he] at h; exact h
  next s' he =>
    rw [he] at h
    have h' := (s'.handleList_sameControl true s'.dueRecords).trans h
    split
    next s'' he' => rw [he'] at h'; exact h'
    next s'' go _ he' => rw [he'] at h'; exact h'

theorem State.handleAndTest_sameControl (s : State) : s.handleAndTest.sameControl s := by
  have h := s.handleDue_sameControl
  unfold State.handleAndTest
  split
  next s' he => rw [he] at h; exact s'.waitTest_sameControl.trans h
  next s' he => rw [he] at h; exact h

theorem State.enterPlaying_sameControl (s : State) : s.enterPlaying.sameControl s :=
  (State.handleAndTest_sameControl _).trans (s.sameControl_update ..)

theorem State.playTick_sameControl (s : State) : s.playTick.sameControl s :=
  (State.handleAndTest_sameControl _).trans (s.sameControl_update ..)

theorem State.cueEnd_sameControl (s : State) : s.cueEnd.sameControl s := by
  have hp (p : Player) : ({ s with player := p } : State).sameControl s := s.sameControl_update ..
  unfold State.cueEnd
  simp only
  split
  · exact (State.setContext_sameControl ..).trans (hp _)
  · exact (State.setContext_sameControl ..).trans (hp _)

theorem State.cueDone_sameControl (s : State) : s.cueDone.sameControl s :=
  (State.enterPlaying_sameControl _).trans ((State.notify_sameControl ..).trans s.cueEnd_sameControl)

theorem State.beginCue_sameControl (why : PlayReason) (s : State) : (s.beginCue why).sameControl s :=
  (State.notify_sameControl ..).trans (s.sameControl_update ..)

theorem State.playStart_sameControl (id : Nat) (a b : Option Nat) (loops tempo : Nat) (parts : Parts) (report : Bool)
    (s : State) : (s.playStart id a b loops tempo parts report).1.sameControl s := by
  unfold State.playStart
  split
  · exact s.sameControl_refl
  · split
    · exact s.sameControl_refl
    · split
      · exact s.sameControl_refl
      · split
        · exact s.sameControl_refl
        · exact (State.beginCue_sameControl ..).trans (s.sameControl_update ..)

theorem State.playSuspend_sameControl (x : SlotId) (s : State) : (s.playSuspend x).1.sameControl s := by
  unfold State.playSuspend
  split
  · exact s.sameControl_refl
  · exact s.sameControl_refl
  · exact s.sameControl_refl
  · split
    · exact s.sameControl_refl
    · exact (State.notify_sameControl ..).trans ((State.sameControl_update ..).trans
        ((State.setContext_sameControl ..).trans ((State.releaseOpen_sameControl _).trans (s.sameControl_update ..))))

theorem State.playResume_sameControl (x : SlotId) (s : State) : (s.playResume x).1.sameControl s := by
  unfold State.playResume
  split
  · exact s.sameControl_refl
  · split
    · exact s.sameControl_refl
    · exact (State.beginCue_sameControl ..).trans (s.sameControl_update ..)

theorem State.slotDiscard_sameControl (x : SlotId) (s : State) : (s.slotDiscard x).1.sameControl s := by
  unfold State.slotDiscard
  split
  · exact s.sameControl_refl
  · exact s.sameControl_update ..

theorem State.playTempo_sameControl (tempo : Nat) (w : When) (s : State) : (s.playTempo tempo w).1.sameControl s := by
  unfold State.playTempo
  split_ifs
  · exact s.sameControl_refl
  · exact s.sameControl_refl
  · exact s.sameControl_update ..

theorem State.playParts_sameControl (parts : Parts) (s : State) : (s.playParts parts).1.sameControl s := by
  have hp (p : Player) : ({ s with player := p } : State).sameControl s := s.sameControl_update ..
  unfold State.playParts
  split
  · exact s.sameControl_refl
  · simp only
    split
    · exact hp _
    · split
      · exact (State.enterPlaying_sameControl _).trans (hp _)
      · split <;> exact hp _
      · exact hp _

theorem State.playStop_sameControl (w : When) (s : State) : (s.playStop w).1.sameControl s := by
  unfold State.playStop
  split
  · exact s.sameControl_refl
  · split
    · exact s.endTake_sameControl _
    · exact s.sameControl_update ..

theorem State.playPause_sameControl (w : When) (s : State) : (s.playPause w).1.sameControl s := by
  unfold State.playPause
  split
  · exact s.sameControl_refl
  · exact s.sameControl_update ..
  · exact s.pausePlay_sameControl
  · exact s.pausePlay_sameControl
  · exact s.sameControl_refl

theorem State.playContinue_sameControl (s : State) : s.playContinue.1.sameControl s := by
  have h : ({ s with player := { s.player with waitPending := false } } : State).enterPlaying.sameControl s :=
    (State.enterPlaying_sameControl _).trans (s.sameControl_update ..)
  unfold State.playContinue
  split
  · exact s.sameControl_refl
  · simp only
    split
    · exact (State.notify_sameControl ..).trans h
    · exact (State.notify_sameControl ..).trans h
    · exact h

theorem State.waitConfig_sameControl (window timeout : Nat) (s : State) : (s.waitConfig window timeout).1.sameControl s := by
  unfold State.waitConfig
  split
  · exact s.sameControl_refl
  · exact s.sameControl_update ..

theorem State.judge_sameControl (k : Nat) (s : State) : (s.judge k).sameControl s := by
  have h : ({ s with player := { s.player with expected := removeNat k s.player.expected } } : State).countHit.sameControl s :=
    (State.countHit_sameControl _).trans (s.sameControl_update ..)
  unfold State.judge
  split
  · simp only
    split
    · exact (State.enterPlaying_sameControl _).trans ((State.endWait_sameControl ..).trans h)
    · exact h
  · exact s.countWrong_sameControl

theorem State.matchStrike_sameControl (k : Nat) (t : Time) (s : State) : (s.matchStrike k t).sameControl s := by
  unfold State.matchStrike
  split
  · exact s.sameControl_update ..
  · exact s.judge_sameControl k
  · exact s.sameControl_refl

theorem State.waitExpires_sameControl (s : State) : s.waitExpires.sameControl s :=
  (State.enterPlaying_sameControl _).trans ((State.endWait_sameControl ..).trans
    ((State.sameControl_update ..).trans (s.countMisses_sameControl _)))

/-! ### The router -/

theorem State.voiceClaim_sameControl (b : EventBody) (s : State) : (s.voiceClaim b).sameControl s := by
  cases b with
  | noteOn k v _ _ => exact s.noteOn_sameControl .live k v
  | noteOff k _ => exact s.noteOff_sameControl .live k
  | pedal _ _ => exact s.pedalClaim_sameControl .live

theorem State.matcherTakes_sameControl (e : LiveEvent) (s : State) : (s.matcherTakes e).sameControl s := by
  unfold State.matcherTakes
  split
  · exact s.matchStrike_sameControl _ _
  · exact s.sameControl_refl

/-- An operation behind a gate. -/
theorem State.sameControl_gated (b : Bool) {s' s : State} (h : s'.sameControl s) : (if b then s' else s).sameControl s := by
  cases b with
  | false => exact s.sameControl_refl
  | true => exact h

theorem State.deliver_sameControl (e : LiveEvent) (g : Gates) (s : State) : (s.deliver e g).sameControl s :=
  (State.sameControl_gated g.packer (State.streamEvent_sameControl e _)).trans
    ((State.sameControl_gated g.matcher (State.matcherTakes_sameControl e _)).trans
      ((State.sameControl_gated g.recorder (State.recordEvent_sameControl e _)).trans
        (State.sameControl_gated g.voices (s.voiceClaim_sameControl e.body))))

theorem State.route_sameControl (b : EventBody) (t : Time) (s : State) : (s.route b t).sameControl s :=
  (State.sameControl_update ..).trans ((State.deliver_sameControl ..).trans (s.sameControl_update ..))

end Sys2Proof.Machine
end

section
/-! The flight table and the Rail Controller's view of it (R19, R22, R62): what every command makes of the two. -/

namespace Sys2Proof.Machine

/-! ### The view: what the invariants of the flight table look at -/

/-- The keys, with their flight records, and the Rail Controller's view of the flight table. -/
def State.view (s : State) : List Key × Bool := (s.scanner.keys, s.rail.occupied)

theorem State.sameControl.view_eq {s' s : State} (h : s'.sameControl s) : s'.view = s.view := by
  rw [State.view, h.scanner, h.rail, State.view]

theorem State.notify_view (n : Notice) (s : State) : (s.notify n).view = s.view := (s.notify_sameControl n).view_eq

/-! ### The rail -/

theorem Scanner.railReport_keys (st : RailState) (n : Nat) (sc : Scanner) : (sc.railReport st n).keys = sc.keys := by
  obtain ⟨m, tm, h⟩ := sc.railReport_frame st n
  rw [h]

theorem State.reportRail_view (why : RailReason) (s : State) : (s.reportRail why).view = s.view :=
  (State.notify_view ..).trans (Prod.ext (Scanner.railReport_keys ..) rfl)

theorem State.enterRail_view (st : RailState) (why : RailReason) (s : State) : (s.enterRail st why).view = s.view := by
  have h (r : Rail) (hr : r.occupied = s.rail.occupied) : ({ s with rail := r } : State).view = s.view := Prod.ext rfl hr
  unfold State.enterRail
  simp only
  split_ifs
  · exact h _ rfl
  · exact h _ rfl
  · exact (State.reportRail_view ..).trans (h _ rfl)
  · exact (State.reportRail_view ..).trans (h _ rfl)

theorem State.arrive_view (why : RailReason) (s : State) : (s.arrive why).view = s.view := by
  unfold State.arrive
  split
  · rfl
  · exact (State.enterRail_view ..).trans rfl

theorem State.driveMove_view (why arrival : RailReason) (start : Bool) (s : State) :
    (s.driveMove why arrival start).view = s.view := by
  unfold State.driveMove
  split
  · rfl
  · simp only
    split
    · exact s.arrive_view _
    · exact (State.enterRail_view ..).trans rfl

theorem State.driveHome_view (why : RailReason) (s : State) : (s.driveHome why).view = s.view :=
  (State.enterRail_view ..).trans rfl

theorem State.faultRail_view (kind : RailFault) (s : State) : (s.faultRail kind).view = s.view := by
  unfold State.faultRail
  split
  · rfl
  · exact (State.enterRail_view ..).trans rfl

theorem State.beginHome_view (s : State) : s.beginHome.view = s.view := by
  unfold State.beginHome
  simp only
  split
  · exact (State.enterRail_view ..).trans rfl
  · exact (State.driveHome_view ..).trans rfl

theorem State.setUpMove_view (g : RailTarget) (p : Policy) (s : State) : (s.setUpMove g p).view = s.view := by
  unfold State.setUpMove
  simp only
  split
  · exact (State.enterRail_view ..).trans rfl
  · exact (State.driveMove_view ..).trans rfl

theorem State.replaceTarget_view (g : RailTarget) (p : Policy) (s : State) : (s.replaceTarget g p).view = s.view := by
  unfold State.replaceTarget
  split
  · rfl
  · simp only
    split
    · exact (State.driveMove_view ..).trans rfl
    · rfl

theorem State.railMove_view (g : RailTarget) (p : Policy) (s : State) : (s.railMove g p).1.view = s.view := by
  unfold State.railMove
  split
  · rfl
  · rfl
  · rfl
  · split
    · rfl
    · exact s.replaceTarget_view g p
  · exact s.replaceTarget_view g p
  · split
    · rfl
    · exact s.setUpMove_view g p
  · split
    · rfl
    · exact s.setUpMove_view g p
  · exact s.setUpMove_view g p

theorem State.railStop_view (s : State) : s.railStop.1.view = s.view := by
  unfold State.railStop
  simp only
  split
  · exact (State.enterRail_view ..).trans rfl
  · exact (State.enterRail_view ..).trans rfl
  · exact (State.enterRail_view ..).trans rfl
  · rfl

theorem State.railConfig_view (c : RailConfig) (s : State) : (s.railConfig c).1.view = s.view := by
  unfold State.railConfig
  split
  · rfl
  · split <;> rfl

theorem State.encoderStep_view (up : Bool) (s : State) : (s.encoderStep up).view = s.view := by
  unfold State.encoderStep
  simp only
  split
  · exact (State.driveMove_view ..).trans rfl
  · rfl

theorem State.encoderIllegal_view (s : State) : s.encoderIllegal.view = s.view := by
  unfold State.encoderIllegal
  split
  · rfl
  · exact s.faultRail_view _

theorem State.indexEdge_view (s : State) : s.indexEdge.view = s.view := by
  unfold State.indexEdge
  split
  · simp only
    split
    · exact (State.driveMove_view ..).trans rfl
    · split
      · exact (State.arrive_view ..).trans rfl
      · rfl
    · rfl
  · rfl

theorem State.switchLevelSet_view (sw : EndSwitch) (b : Bool) (s : State) : (s.switchLevelSet sw b).view = s.view := by
  cases sw <;> rfl

theorem State.switchCloses_view (sw : EndSwitch) (s : State) : (s.switchCloses sw).view = s.view := by
  unfold State.switchCloses
  split
  · split
    · rfl
    · exact s.faultRail_view _
  · split
    · exact s.faultRail_view _
    · split
      · exact s.faultRail_view _
      · rfl
  · split
    · rfl
    · split
      · exact s.faultRail_view _
      · rfl
  · rfl

theorem State.switchOpens_view (sw : EndSwitch) (s : State) : (s.switchOpens sw).view = s.view := by
  unfold State.switchOpens
  split
  · split <;> rfl
  · rfl

theorem State.autoHome_view (s : State) : s.autoHome.view = s.view := by
  unfold State.autoHome
  split
  · simp only
    split
    · exact (State.beginHome_view _).trans rfl
    · rfl
  · rfl

/-! ### Voices, fetch and headphones -/

theorem State.setPoly_view (n : Nat) (p : Priority) (s : State) : (s.setPoly n p).view = s.view := by
  obtain ⟨tb, x, h⟩ := State.stealN_frame _ { s with voices := { s.voices with limit := n, priority := p } }
  exact (congrArg State.view h).trans rfl

theorem State.segmentDone_view (e : FetchEntry) (s : State) : (s.segmentDone e).view = s.view := by
  have prime (i : Nat) (w : Voice) (u : State) : (u.primeDone i w).view = u.view := by
    unfold State.primeDone
    split <;> rfl
  have fills (w : Voice) (u : State) : (u.segmentFills e w).view = u.view := by
    unfold State.segmentFills
    simp only
    split
    · exact (prime ..).trans rfl
    · rfl
  have matched (u : State) : (u.segmentMatched e).view = u.view := by
    unfold State.segmentMatched
    split
    · split
      · exact fills ..
      · rfl
    · rfl
  exact (matched _).trans rfl

theorem State.loadDone_view (s : State) : s.loadDone.view = s.view := by
  unfold State.loadDone
  split
  · rfl
  · simp only
    split
    · rfl
    · rfl
    · exact (State.notify_view ..).trans rfl

/-- A fold of operations that keep the view keeps it. -/
theorem State.foldl_view {α : Type} {op : State → α → State} (h : ∀ u a, (op u a).view = u.view) (xs : List α) (s : State) :
    (xs.foldl op s).view = s.view := by
  induction xs generalizing s with
  | nil => rfl
  | cons x xs ih => exact (ih _).trans (h s x)

theorem State.outputFrame_view (s : State) : s.outputFrame.view = s.view := by
  have cross (i n : Nat) (w : Voice) (z : Zone) (u : State) : (u.cross i n w z).view = u.view := by
    unfold State.cross
    simp only
    split
    · split <;> rfl
    · rfl
  have advance (i p : Nat) (w : Voice) (u : State) : (u.advance i p w).view = u.view := by
    unfold State.advance
    split
    · rfl
    · split
      · rfl
      · split
        · exact cross ..
        · rfl
  have entry (u : State) (i : Nat) : (u.playEntry i).view = u.view := by
    unfold State.playEntry
    split
    · exact advance ..
    · rfl
  have send : s.sendFrame.view = s.view := by
    unfold State.sendFrame
    simp only
    split <;> rfl
  rw [State.outputFrame, State.foldl_view entry, send]

theorem State.audioBoundary_view (s : State) : s.audioBoundary.view = s.view := by
  have entry (u : State) (i : Nat) : (u.boundaryEntry i).view = u.view := by
    unfold State.boundaryEntry
    split
    · rfl
    · split <;> rfl
  have mixer (u : State) : ({ u with mixer := u.mixer.boundary } : State).view = u.view := rfl
  rw [State.audioBoundary, mixer, State.foldl_view entry]

theorem State.followSilence_view (s : State) : s.followSilence.view = s.view := by
  obtain ⟨f, o, r, h⟩ := s.followSilence_frame
  exact (congrArg State.view h).trans rfl

theorem State.muteFollows_view (was : Bool) (s : State) : (s.muteFollows was).view = s.view := by
  unfold State.muteFollows
  split
  · rfl
  · exact s.notify_view _

theorem State.plugLine_view (b : Bool) (s : State) : (s.plugLine b).view = s.view := by
  unfold State.plugLine
  split
  · rfl
  · simp only
    split
    · exact (State.followSilence_view _).trans rfl
    · rfl

theorem State.plugSettled_view (s : State) : s.plugSettled.view = s.view :=
  (State.followSilence_view _).trans ((State.notify_view ..).trans rfl)

theorem State.muteLine_view (b : Bool) (s : State) : (s.muteLine b).view = s.view := by
  unfold State.muteLine
  split
  · rfl
  · exact (State.followSilence_view _).trans ((State.muteFollows_view ..).trans rfl)

theorem State.setPlugDetect_view (on : Bool) (s : State) : (s.setPlugDetect on).view = s.view := by
  unfold State.setPlugDetect
  split
  · rfl
  · split
    · rfl
    · simp only
      split
      · rfl
      · exact (State.notify_view ..).trans rfl

theorem State.setMuteMode_view (m : MuteMode) (s : State) : (s.setMuteMode m).view = s.view := by
  unfold State.setMuteMode
  split
  · rfl
  · exact (State.muteFollows_view ..).trans rfl

theorem State.setHeadphones_view (w : Nat) (p : Bool) (m : MuteMode) (s : State) : (s.setHeadphones w p m).view = s.view :=
  (State.followSilence_view _).trans ((State.setMuteMode_view ..).trans ((State.setPlugDetect_view ..).trans rfl))

theorem State.unmute_view (s : State) : s.unmute.1.view = s.view := by
  unfold State.unmute
  split
  · rfl
  · rfl
  · exact (State.followSilence_view _).trans ((State.muteFollows_view ..).trans rfl)

/-! ### The link -/

theorem State.arbitrate_view (s : State) : s.arbitrate.view = s.view := by
  have packet : s.beginPacket.view = s.view := by
    unfold State.beginPacket
    split <;> rfl
  unfold State.arbitrate
  split
  · rfl
  · split
    · exact (State.followSilence_view _).trans rfl
    · split
      · rfl
      · split
        · rfl
        · rfl
        · exact packet

theorem State.receive_view (b : RxByte) (s : State) : (s.receive b).view = s.view := by
  have offer (f : Frame) (u : State) : (u.offerFrame f).view = u.view := by
    unfold State.offerFrame
    split <;> rfl
  have ends (bs : List Byte) (u : State) : (u.endFrame bs).view = u.view := by
    unfold State.endFrame
    split
    · exact (offer ..).trans rfl
    · rfl
  have grow (bs : List Byte) (u : State) : (u.growFrame bs).view = u.view := by
    unfold State.growFrame
    split
    · rfl
    · split
      · exact ends ..
      · rfl
  unfold State.receive
  split
  · split <;> rfl
  · split
    · rfl
    · exact (grow ..).trans rfl

theorem State.rxGap_view (s : State) : s.rxGap.view = s.view := by
  unfold State.rxGap
  split <;> rfl

theorem State.txDone_view (s : State) : s.txDone.view = s.view := by
  unfold State.txDone
  split <;> rfl

theorem State.rejectFrame_view (s : State) : s.rejectFrame.view = s.view := by
  unfold State.rejectFrame
  split
  · rfl
  · split <;> rfl

theorem State.statsRead_view (n : Nat) (s : State) : (s.statsRead n).1.view = s.view := by
  unfold State.statsRead
  split_ifs <;> rfl

theorem State.routeSet_view (m : Bool) (n : Nat) (x : Bool) (s : State) : (s.routeSet m n x).1.view = s.view := by
  unfold State.routeSet
  split <;> rfl

/-! ### The scanner's and the pedals' requests that leave the flight table alone -/

theorem State.curveSet_view (c : Curve) (ps : List CurvePoint) (s : State) : (s.curveSet c ps).1.view = s.view := by
  unfold State.curveSet
  split
  · rfl
  · cases c <;> rfl

theorem State.pedalCal_view (p : Pedal) (a b : Nat) (s : State) : (s.pedalCal p a b).1.view = s.view := by
  unfold State.pedalCal
  split <;> rfl

theorem State.pedalMode_view (p : Pedal) (m : PedalMode) (n : Nat) (s : State) : (s.pedalMode p m n).1.view = s.view := by
  unfold State.pedalMode
  split <;> rfl

/-! ### Commands -/

theorem State.atTime_view {op : State → State} (h : ∀ u, (op u).view = u.view) (t : Time) (s : State) :
    (s.atTime t op).view = s.view :=
  (State.arbitrate_view _).trans ((h _).trans rfl)

/-- What holds of a state by its view, a request keeps when its run keeps it. -/
theorem State.takeRequest_keeps_view {P : State → Prop} (hP : ∀ {a b : State}, a.view = b.view → P b → P a)
    {run : State → State × Status × Content} (hr : ∀ u, P u → P (run u).1) (q : Request) (t : Time) {s : State} (h : P s) :
    P (s.takeRequest q t run) := by
  have hu : P (s.upTo t) := hP (b := s) rfl h
  unfold State.takeRequest
  simp only
  split
  · exact hu
  · split
    · have hp : P (s.upTo t).popRequest := hP (b := s.upTo t) rfl hu
      exact hP (b := (run (s.upTo t).popRequest).1) ((State.arbitrate_view _).trans rfl) (hr _ hp)
    · exact hu

theorem State.takeRequest_view {run : State → State × Status × Content} (hr : ∀ u, (run u).1.view = u.view) (q : Request)
    (t : Time) (s : State) : (s.takeRequest q t run).view = s.view :=
  State.takeRequest_keeps_view (P := fun u => u.view = s.view) (fun h h' => h.trans h') (fun u h => (hr u).trans h) q t rfl

/-- A next state under another name. -/
theorem next_view {s u s' : State} (h : (Host.Outcome.next u : Host.Outcome State Fault Refusal) = .next s')
    (hu : u.view = s.view) : s'.view = s.view := by
  cases h
  exact hu

/-- The commands that can change a key's flight record or the Rail Controller's view of the flight table: the resets, the
setup, the scan frames, and the requests that settle keys. -/
def movesKeys : Instr → Bool
  | .fullReset _ | .setupAreaReadDone _ | .warmReset _ | .scanFrame _ _ _ _ | .calSet _ _ _ | .threshSet _ _
  | .faultClear _ _ | .captureBegin _ | .captureEnd _ | .captureCancel _ => true
  | _ => false

/-- Every other command leaves the keys and the view as they are. -/
theorem exec_view {c : Instr} {s s' : State} (hc : movesKeys c = false) (h : exec c s = .next s') : s'.view = s.view := by
  cases c with
  | fullReset _ | setupAreaReadDone _ | warmReset _ | scanFrame _ _ _ _ | calSet _ _ _ | threshSet _ _ | faultClear _ _
  | captureBegin _ | captureEnd _ | captureCancel _ => cases hc
  | autoHome t => exact next_view h (State.atTime_view State.autoHome_view t s)
  | rxFrame t b | byteReceived t b => exact next_view h (State.atTime_view (State.receive_view b) t s)
  | rxGapTimeout t => exact next_view h (State.atTime_view State.rxGap_view t s)
  | unknownKind t _ => exact next_view h (State.atTime_view State.rejectFrame_view t s)
  | txFrameDone t => exact next_view h (State.atTime_view State.txDone_view t s)
  | streamHoldTimer t => exact next_view h (State.atTime_view (fun u => by split <;> rfl) t s)
  | settleTimer t => exact next_view h (State.atTime_view (fun u => by split <;> rfl) t s)
  | encoderChange t x =>
    refine next_view h (State.atTime_view (fun u => ?_) t s)
    cases x with
    | step up => exact u.encoderStep_view up
    | illegal => exact u.encoderIllegal_view
  | indexEdge t b =>
    refine next_view h (State.atTime_view (fun u => ?_) t s)
    cases b with
    | false => rfl
    | true => exact (State.indexEdge_view _).trans rfl
  | endSwitchClose t sw =>
    exact next_view h (State.atTime_view
      (fun u => (State.switchCloses_view ..).trans (State.switchLevelSet_view ..)) t s)
  | endSwitchOpen t sw =>
    exact next_view h (State.atTime_view
      (fun u => (State.switchOpens_view ..).trans (State.switchLevelSet_view ..)) t s)
  | railStall t | railTravelTimeout t =>
    refine next_view h (State.atTime_view (fun u => ?_) t s)
    split
    · exact u.faultRail_view _
    · rfl
  | segmentReadDone t =>
    refine next_view h (State.atTime_view (fun u => ?_) t s)
    cases u.fetch.inFlight with
    | none => rfl
    | some e => exact u.segmentDone_view e
  | soundsetLoadDone t => exact next_view h (State.atTime_view State.loadDone_view t s)
  | outputFrame t => exact next_view h (State.atTime_view State.outputFrame_view t s)
  | audioBlockBoundary t => exact next_view h (State.atTime_view State.audioBoundary_view t s)
  | plugDetectChange t b => exact next_view h (State.atTime_view (State.plugLine_view b) t s)
  | plugSettleTimer t =>
    refine next_view h (State.atTime_view (fun u => ?_) t s)
    split
    · exact u.plugSettled_view
    · rfl
  | muteLineChange t b => exact next_view h (State.atTime_view (State.muteLine_view b) t s)
  | recTakeClockTick t => exact next_view h ((State.arbitrate_view _).trans rfl)
  | cueDone t =>
    refine next_view h (State.atTime_view (fun u => ?_) t s)
    split
    · exact u.cueDone_sameControl.view_eq
    · rfl
  | playerTick t =>
    refine next_view h (State.atTime_view (fun u => ?_) t s)
    split
    · exact u.playTick_sameControl.view_eq
    · rfl
  | waitTimer t =>
    refine next_view h (State.atTime_view (fun u => ?_) t s)
    split
    · exact u.waitExpires_sameControl.view_eq
    · rfl
  | curveSet t x ps =>
    refine next_view h (State.takeRequest_view (fun u => ?_) _ t s)
    cases x with
    | none => rfl
    | some x => exact u.curveSet_view x ps
  | pedalCal t p a b =>
    refine next_view h (State.takeRequest_view (fun u => ?_) _ t s)
    cases p with
    | none => rfl
    | some p => exact u.pedalCal_view p a b
  | pedalMode t p m n =>
    refine next_view h (State.takeRequest_view (fun u => ?_) _ t s)
    unfold plainly
    simp only
    split
    · exact u.pedalMode_view ..
    · rfl
  | routeSet t m n x =>
    refine next_view h (State.takeRequest_view (fun u => ?_) _ t s)
    unfold plainly
    simp only
    split
    · exact u.routeSet_view ..
    · rfl
  | railMove t g p =>
    refine next_view h (State.takeRequest_view (fun u => ?_) _ t s)
    unfold plainly
    simp only
    split
    · exact u.railMove_view ..
    · rfl
  | railHome t => exact next_view h (State.takeRequest_view State.beginHome_view _ t s)
  | railStop t => exact next_view h (State.takeRequest_view State.railStop_view _ t s)
  | railConfig t a b m n l x o =>
    refine next_view h (State.takeRequest_view (fun u => ?_) _ t s)
    cases o with
    | none => rfl
    | some o => exact u.railConfig_view _
  | polySet t n p =>
    refine next_view h (State.takeRequest_view (fun u => ?_) _ t s)
    unfold plainly
    simp only
    split
    · rfl
    · split
      · exact u.setPoly_view ..
      · rfl
  | soundOff t c => exact next_view h (State.takeRequest_view (fun u => by cases c <;> rfl) _ t s)
  | soundsetReload t =>
    refine next_view h (State.takeRequest_view (fun u => ?_) _ t s)
    unfold plainly
    simp only
    split <;> rfl
  | volumeSet t m =>
    refine next_view h (State.takeRequest_view (fun u => ?_) _ t s)
    unfold plainly
    simp only
    split
    · exact (State.followSilence_view _).trans rfl
    · rfl
  | mixSet t a b x c =>
    refine next_view h (State.takeRequest_view (fun u => ?_) _ t s)
    unfold plainly
    simp only
    split
    · split
      · exact (State.followSilence_view _).trans rfl
      · rfl
    · rfl
  | hpConfig t w p m =>
    refine next_view h (State.takeRequest_view (fun u => ?_) _ t s)
    unfold plainly
    simp only
    split
    · split
      · exact u.setHeadphones_view ..
      · rfl
    · rfl
  | unmute t => exact next_view h (State.takeRequest_view State.unmute_view _ t s)
  | recStart t id a n =>
    refine next_view h (State.takeRequest_view (fun u => ?_) _ t s)
    cases a with
    | none => rfl
    | some a => exact (u.recStart_sameControl id a n).view_eq
  | recMark t n => exact next_view h (State.takeRequest_view (fun u => (u.recMark_sameControl n).view_eq) _ t s)
  | recPause t => exact next_view h (State.takeRequest_view (fun u => u.recPause_sameControl.view_eq) _ t s)
  | recResume t => exact next_view h (State.takeRequest_view (fun u => u.recResume_sameControl.view_eq) _ t s)
  | recStop t => exact next_view h (State.takeRequest_view (fun u => u.recStop_sameControl.view_eq) _ t s)
  | streamConfig t m a b => exact next_view h (State.takeRequest_view (fun u => by cases m <;> rfl) _ t s)
  | playStart t id a b l x p r =>
    refine next_view h (State.takeRequest_view (fun u => ?_) _ t s)
    unfold plainly
    cases partsOf p with
    | none => rfl
    | some p => exact (u.playStart_sameControl id a b l x p r).view_eq
  | playStop t w =>
    refine next_view h (State.takeRequest_view (fun u => ?_) _ t s)
    cases w with
    | none => rfl
    | some w => exact (u.playStop_sameControl w).view_eq
  | playPause t w =>
    refine next_view h (State.takeRequest_view (fun u => ?_) _ t s)
    cases w with
    | none => rfl
    | some w => exact (u.playPause_sameControl w).view_eq
  | playContinue t => exact next_view h (State.takeRequest_view (fun u => u.playContinue_sameControl.view_eq) _ t s)
  | playTempo t n w =>
    refine next_view h (State.takeRequest_view (fun u => ?_) _ t s)
    cases w with
    | none => rfl
    | some w => exact (u.playTempo_sameControl n w).view_eq
  | playParts t p =>
    refine next_view h (State.takeRequest_view (fun u => ?_) _ t s)
    unfold plainly
    cases partsOf p with
    | none => rfl
    | some p => exact (u.playParts_sameControl p).view_eq
  | waitConfig t a b => exact next_view h (State.takeRequest_view (fun u => (u.waitConfig_sameControl a b).view_eq) _ t s)
  | playSuspend t x =>
    refine next_view h (State.takeRequest_view (fun u => ?_) _ t s)
    cases x with
    | none => rfl
    | some x => exact (u.playSuspend_sameControl x).view_eq
  | playResume t x =>
    refine next_view h (State.takeRequest_view (fun u => ?_) _ t s)
    cases x with
    | none => rfl
    | some x => exact (u.playResume_sameControl x).view_eq
  | slotDiscard t x =>
    refine next_view h (State.takeRequest_view (fun u => ?_) _ t s)
    cases x with
    | none => rfl
    | some x => exact (u.slotDiscard_sameControl x).view_eq
  | statsRead t n => exact next_view h (State.takeRequest_view (State.statsRead_view n) _ t s)
  | keyQuery t _ | scanQuery t | pedalQuery t | routeQuery t | railQuery t | voiceQuery t | voiceRead t _ _
  | soundsetQuery t | zoneRead t _ _ | streamRead t _ | mixQuery t | takeList t | takeInfo t _ | takeRename t _ _
  | takeDelete t _ | uploadOpen t _ _ _ | uploadBlock t _ _ | downloadOpen t _ _ _ | downloadBlock t | transferAbort t
  | recQuery t | streamQuery t | playerQuery t | status t | identify t | restart t =>
    exact next_view h (State.takeRequest_view (fun u => rfl) _ t s)

end Sys2Proof.Machine
end

section
/-! What a key's frame and the scanner's requests make of the flight table, and the invariants of it (R19, R21, R22, R62). -/

namespace Sys2Proof.Machine

/-! ### What a key's processing says of its flight record -/

/-- The act reports a change of the flight table. -/
def KeyAct.ofFlight : KeyAct → Bool
  | .flightAdded | .flightRemoved => true
  | .event _ | .count _ | .notice _ => false

/-- R19: what the Rail Controller is to be told of a key that had a flight record `before` and has one `after`. -/
def flightReport : Bool → Bool → List KeyAct
  | false, true => [.flightAdded]
  | true, false => [.flightRemoved]
  | false, false | true, true => []

/-- The acts of a key's processing report exactly the change of its flight record. -/
def Key.reportsFlight (k : Key) (r : Key × List KeyAct) : Prop :=
  r.2.filter KeyAct.ofFlight = flightReport k.flight.isSome r.1.flight.isSome

/-- What the invariants ask of a key: a FAULTED one has no flight record (R21), and no more does a disabled one (R22). -/
structure Key.still (k : Key) : Prop where
  faulted : k.state = .faulted → k.flight = none
  disabled : k.cal.enabled = false → k.flight = none

@[simp] theorem flightReport_same (b : Bool) : flightReport b b = [] := by cases b <;> rfl

theorem Key.strikes_flight (x : FrameSet) (km hm : Motion1) (again : Bool) (k : Key) :
    (k.strikes x km hm again).1.flight.isSome = k.flight.isSome
      ∧ (k.strikes x km hm again).2.filter KeyAct.ofFlight = [] := by
  unfold Key.strikes
  split
  · exact ⟨rfl, rfl⟩
  · cases again <;> simp [KeyAct.ofFlight]

theorem Key.takes_flight (x : FrameSet) (km hm : Motion1) (k : Key) (t : Trans) :
    (k.takes x km hm t).1.flight.isSome = k.flight.isSome ∧ (k.takes x km hm t).2.filter KeyAct.ofFlight = [] := by
  cases t with
  | strike => exact k.strikes_flight x km hm false
  | restrike => exact k.strikes_flight x km hm true
  | press | silent | lift | release | toRest | repress => exact ⟨rfl, rfl⟩

theorem Key.demote_flight (x : FrameSet) (k : Key) : (k.demote x).flight = k.flight := by
  unfold Key.demote
  split <;> rfl

theorem Key.chain_flight (x : FrameSet) (km hm : Motion1) (n : Nat) (taken : List Trans) (k : Key) :
    (k.chain x km hm n taken).1.flight.isSome = k.flight.isSome
      ∧ (k.chain x km hm n taken).2.filter KeyAct.ofFlight = [] := by
  induction n generalizing taken k with
  | zero => exact ⟨rfl, rfl⟩
  | succ n ih =>
    unfold Key.chain
    split
    · exact ⟨rfl, rfl⟩
    next t _ =>
      obtain ⟨h1, h2⟩ := k.takes_flight x km hm t
      obtain ⟨h3, h4⟩ := ih (t :: taken) ((k.takes x km hm t).1.demote x)
      exact ⟨by rw [h3, Key.demote_flight, h1], by rw [List.filter_append, h2, h4]; rfl⟩

theorem Key.hammerMoves_reportsFlight (x : FrameSet) (m : Motion1) (d : Nat) (k : Key) :
    k.reportsFlight (k.hammerMoves x m d) := by
  unfold Key.hammerMoves Key.reportsFlight
  cases hf : k.flight with
  | none =>
    simp only
    split_ifs
    · rfl
    · simp [hf]
  | some f =>
    simp only
    split_ifs <;> rfl

theorem Key.moves_reportsFlight (x : FrameSet) (km hm : Motion1) (k : Key) : k.reportsFlight (k.moves x km hm) := by
  unfold Key.moves
  simp only
  split
  · exact (flightReport_same _).symm
  · exact Key.hammerMoves_reportsFlight x hm _ { k with
      keyDepth := km.depth k.keyDepth, hammerDepth := hm.depth k.hammerDepth
      aTimeKey := strokeTime km k.thr.kA x.now k.aTimeKey
      aTimeHammer := strokeTime hm (thresholdHA k.thr k.scale) x.now k.aTimeHammer }

theorem Key.fault_reportsFlight (x : FrameSet) (a b : Nat) (k : Key) : k.reportsFlight (k.fault x a b) := by
  unfold Key.fault Key.reportsFlight
  have off : (if k.state = .down ∨ k.state = .lifting then [KeyAct.event (.noteOff x.index k.quality)] else []).filter
      KeyAct.ofFlight = [] := by split <;> rfl
  rw [List.filter_append, List.filter_append, off]
  cases k.flight <;> rfl

theorem Key.sense_reportsFlight (x : FrameSet) (a b : Nat) (k : Key) : k.reportsFlight (k.sense x a b) := by
  unfold Key.sense
  simp only
  split
  · exact Key.fault_reportsFlight x a b (k.countFaults a b)
  · have hm := Key.moves_reportsFlight x (motionOf (keyDepthOf (k.countFaults a b).cal) (k.countFaults a b).keyGood a)
      (motionOf (hammerDepthOf (k.countFaults a b).cal (k.countFaults a b).scale) (k.countFaults a b).hammerGood b)
      (k.countFaults a b)
    generalize motionOf (keyDepthOf _) _ _ = km at hm ⊢
    generalize motionOf (hammerDepthOf _ _) _ _ = hm' at hm ⊢
    obtain ⟨h1, h2⟩ := (((k.countFaults a b).moves x km hm').1.demote x).chain_flight x km hm' 8 []
    unfold Key.reportsFlight Key.keepGood
    rw [List.filter_append, h2, List.append_nil, hm, h1, Key.demote_flight]
    rfl

theorem Key.disable_reportsFlight (k : Key) : k.reportsFlight k.disable := by
  unfold Key.disable Key.reportsFlight
  cases k.flight <;> rfl

/-- The beginning of a key's frame: its capture and its adoptions leave the state and the flight record, and the record in
force unless the key is at REST. -/
theorem Key.begun_flight (x : FrameSet) (a b : Nat) (k : Key) :
    ((k.capture1 x a b).adopt x).flight = k.flight ∧ ((k.capture1 x a b).adopt x).state = k.state
      ∧ (k.state ≠ .rest → ((k.capture1 x a b).adopt x).cal = k.cal) := by
  obtain ⟨hf, hs, hc⟩ : (k.capture1 x a b).flight = k.flight ∧ (k.capture1 x a b).state = k.state
      ∧ (k.capture1 x a b).cal = k.cal := by
    unfold Key.capture1
    split <;> exact ⟨rfl, rfl, rfl⟩
  unfold Key.adopt
  split
  next h =>
    refine ⟨?_, ?_, fun hr => absurd (hs.symm.trans h) hr⟩
    · cases (k.capture1 x a b).staged <;> exact hf
    · cases (k.capture1 x a b).staged <;> exact hs
  · exact ⟨hf, hs, fun _ => hc⟩

theorem Key.frame_reportsFlight (x : FrameSet) (a b : Nat) (k : Key) : k.reportsFlight (k.frame x a b) := by
  obtain ⟨h, -, -⟩ := k.begun_flight x a b
  have cast {r : Key × List KeyAct} (hr : ((k.capture1 x a b).adopt x).reportsFlight r) : k.reportsFlight r := by
    unfold Key.reportsFlight at hr ⊢
    rw [hr, h]
  unfold Key.frame
  simp only
  split_ifs
  · exact cast (flightReport_same _).symm
  · exact cast (Key.sense_reportsFlight ..)
  · exact cast (Key.disable_reportsFlight _)

/-! ### A key's frame keeps a key still -/

theorem Key.strikes_cal (x : FrameSet) (km hm : Motion1) (again : Bool) (k : Key) :
    (k.strikes x km hm again).1.cal = k.cal ∧ (k.state ≠ .faulted → (k.strikes x km hm again).1.state ≠ .faulted) := by
  unfold Key.strikes
  split
  · exact ⟨rfl, id⟩
  · exact ⟨rfl, fun _ => by simp⟩

theorem Key.takes_cal (x : FrameSet) (km hm : Motion1) (k : Key) (t : Trans) :
    (k.takes x km hm t).1.cal = k.cal ∧ (k.state ≠ .faulted → (k.takes x km hm t).1.state ≠ .faulted) := by
  cases t with
  | strike => exact k.strikes_cal x km hm false
  | restrike => exact k.strikes_cal x km hm true
  | press | silent | lift | release | toRest | repress => exact ⟨rfl, fun _ => by simp [Key.takes]⟩

theorem Key.demote_cal (x : FrameSet) (k : Key) : (k.demote x).cal = k.cal ∧ (k.demote x).state = k.state := by
  unfold Key.demote
  split <;> exact ⟨rfl, rfl⟩

/-- R11: no transition faults a key or changes its record. -/
theorem Key.chain_cal (x : FrameSet) (km hm : Motion1) (n : Nat) (taken : List Trans) (k : Key) :
    (k.chain x km hm n taken).1.cal = k.cal ∧ (k.state ≠ .faulted → (k.chain x km hm n taken).1.state ≠ .faulted) := by
  induction n generalizing taken k with
  | zero => exact ⟨rfl, id⟩
  | succ n ih =>
    unfold Key.chain
    split
    · exact ⟨rfl, id⟩
    next t _ =>
      obtain ⟨h1, h2⟩ := k.takes_cal x km hm t
      obtain ⟨h3, h4⟩ := (k.takes x km hm t).1.demote_cal x
      obtain ⟨h5, h6⟩ := ih (t :: taken) ((k.takes x km hm t).1.demote x)
      exact ⟨by rw [h5, h3, h1], fun h => h6 (by rw [h4]; exact h2 h)⟩

theorem Key.hammerMoves_cal (x : FrameSet) (m : Motion1) (d : Nat) (k : Key) :
    (k.hammerMoves x m d).1.cal = k.cal ∧ (k.hammerMoves x m d).1.state = k.state := by
  unfold Key.hammerMoves
  split
  · split <;> exact ⟨rfl, rfl⟩
  · simp only
    split_ifs <;> exact ⟨rfl, rfl⟩

theorem Key.moves_cal (x : FrameSet) (km hm : Motion1) (k : Key) :
    (k.moves x km hm).1.cal = k.cal ∧ (k.moves x km hm).1.state = k.state := by
  unfold Key.moves
  simp only
  split
  · exact ⟨rfl, rfl⟩
  · exact Key.hammerMoves_cal ..

theorem Key.sense_still (x : FrameSet) (a b : Nat) (k : Key) (hs : k.state ≠ .faulted) (he : k.cal.enabled = true) :
    (k.sense x a b).1.still := by
  unfold Key.sense
  simp only
  split
  · exact ⟨fun _ => rfl, fun _ => rfl⟩
  · generalize motionOf (keyDepthOf _) _ _ = km
    generalize motionOf (hammerDepthOf _ _) _ _ = hm
    obtain ⟨h1, h2⟩ := (k.countFaults a b).moves_cal x km hm
    obtain ⟨h3, h4⟩ := ((k.countFaults a b).moves x km hm).1.demote_cal x
    obtain ⟨h5, h6⟩ := (((k.countFaults a b).moves x km hm).1.demote x).chain_cal x km hm 8 []
    have hcal : ((((k.countFaults a b).moves x km hm).1.demote x).chain x km hm 8 []).1.cal = k.cal := by
      rw [h5, h3, h1]; rfl
    exact ⟨fun h => absurd h (h6 (by rw [h4, h2]; exact hs)),
      fun h => absurd (he.symm.trans ((congrArg CalRecord.enabled hcal).symm.trans h)) (by decide)⟩

/-- A key's frame leaves the key still, but for a FAULTED key, which keeps its flight record and its record. -/
theorem Key.frame_still (x : FrameSet) (a b : Nat) (k : Key) :
    (k.frame x a b).1.still
      ∨ k.state = .faulted ∧ (k.frame x a b).1.flight = k.flight ∧ (k.frame x a b).1.cal = k.cal := by
  obtain ⟨hf, hs, hc⟩ := k.begun_flight x a b
  unfold Key.frame
  simp only
  split_ifs with h1 h2
  · have h : k.state = .faulted := hs.symm.trans h1
    exact .inr ⟨h, hf, hc (by simp [h])⟩
  · exact .inl (Key.sense_still x a b _ h1 h2)
  · exact .inl ⟨fun _ => rfl, fun _ => rfl⟩

theorem Key.frame_faulted (x : FrameSet) (a b : Nat) {k : Key} (h : k.state = .faulted → k.flight = none) :
    (k.frame x a b).1.state = .faulted → (k.frame x a b).1.flight = none := by
  obtain hs | ⟨hs, hf, -⟩ := k.frame_still x a b
  · exact hs.faulted
  · exact fun _ => hf.trans (h hs)

theorem Key.frame_disabled (x : FrameSet) (a b : Nat) {k : Key} (h : k.cal.enabled = false → k.flight = none) :
    (k.frame x a b).1.cal.enabled = false → (k.frame x a b).1.flight = none := by
  obtain hs | ⟨-, hf, hc⟩ := k.frame_still x a b
  · exact hs.disabled
  · exact fun hd => hf.trans (h (hc ▸ hd))

/-! ### A record that comes into force (R5, R22) -/

theorem Key.applyCal_reportsFlight (c : CalRecord) (k : Key) : k.reportsFlight (k.applyCal c) := by
  unfold Key.applyCal
  simp only
  split_ifs
  · exact Key.disable_reportsFlight (k.withCal c)
  · exact (flightReport_same _).symm
  · exact (flightReport_same _).symm

theorem Key.applyCal_still (c : CalRecord) {k : Key} (h : k.state = .rest) : (k.applyCal c).1.still := by
  have hr : k.state = .faulted → ∀ P : Prop, P := fun h' => by simp [h] at h'
  unfold Key.applyCal
  simp only
  split_ifs with he
  · exact ⟨fun _ => rfl, fun _ => rfl⟩
  all_goals
    have hc : c.enabled = true := by simpa using he
    exact ⟨fun h' => hr h' _, fun (h' : c.enabled = false) => by simp [hc] at h'⟩

/-! ### A place of a list -/

theorem any_set_of_eq {α : Type} {p : α → Bool} {l : List α} {i : Nat} {a b : α} (h : l[i]? = some a) (hp : p b = p a) :
    (l.set i b).any p = l.any p := by
  induction l generalizing i with
  | nil => rfl
  | cons x xs ih =>
    cases i with
    | zero =>
      obtain rfl : x = a := by simpa using h
      simp [hp]
    | succ i => simp [ih (by simpa using h)]

theorem mem_set_of {α : Type} {P : α → Prop} {l : List α} {i : Nat} {b : α} (h : ∀ x ∈ l, P x) (hb : P b) :
    ∀ x ∈ l.set i b, P x := by
  intro x hx
  obtain hx | rfl := List.mem_or_eq_of_mem_set hx
  · exact h x hx
  · exact hb

/-! ### Performing what a key asks for -/

/-- What an act makes of the view. -/
def KeyAct.onView (v : List Key × Bool) : KeyAct → List Key × Bool
  | .flightAdded => (v.1, true)
  | .flightRemoved => (v.1, v.2 && v.1.any (·.flight.isSome))
  | .event _ | .count _ | .notice _ => v

theorem State.flightAdded_view (s : State) : s.flightAdded.view = (s.scanner.keys, true) := by
  unfold State.flightAdded
  simp only
  split
  · exact (State.enterRail_view ..).trans rfl
  · rfl

theorem State.flightEmptied_view (s : State) : s.flightEmptied.view = (s.scanner.keys, false) := by
  have resumed (r : Rail) : r.resumed.occupied = r.occupied := by
    unfold Rail.resumed
    split
    · rfl
    · split
      · split <;> rfl
      · rfl
  unfold State.flightEmptied
  simp only
  split
  · split
    · rfl
    · split
      · exact (State.driveHome_view ..).trans rfl
      · exact (State.driveMove_view ..).trans (Prod.ext rfl (resumed _))
  · rfl

/-- R19: the table is empty exactly when no key has a flight record. -/
theorem Scanner.noFlight_eq (sc : Scanner) : sc.noFlight = !sc.keys.any (·.flight.isSome) := by
  unfold Scanner.noFlight
  rw [List.not_any_eq_all_not]
  simp

theorem State.perform_view (t : Time) (s : State) (a : KeyAct) : (s.perform t a).view = a.onView s.view := by
  cases a with
  | flightAdded => exact s.flightAdded_view
  | flightRemoved =>
    change s.flightRemoved.view = (s.scanner.keys, s.rail.occupied && s.scanner.keys.any (·.flight.isSome))
    unfold State.flightRemoved
    rw [Scanner.noFlight_eq]
    cases s.scanner.keys.any (·.flight.isSome) with
    | false => simp [State.flightEmptied_view]
    | true => simp [State.view]
  | event b => exact (s.route_sameControl b t).view_eq
  | count c => rfl
  | notice n => exact s.notify_view n

/-- Of a key's acts the view sees only the reports of its flight. -/
theorem State.foldl_perform_view (t : Time) (acts : List KeyAct) (s : State) :
    (acts.foldl (State.perform t) s).view = (acts.filter KeyAct.ofFlight).foldl KeyAct.onView s.view := by
  induction acts generalizing s with
  | nil => rfl
  | cons a acts ih =>
    rw [List.foldl_cons, ih, s.perform_view]
    cases a <;> rfl

theorem State.foldl_perform_keys (t : Time) (acts : List KeyAct) (s : State) :
    (acts.foldl (State.perform t) s).scanner.keys = s.scanner.keys := by
  induction acts generalizing s with
  | nil => rfl
  | cons a acts ih =>
    rw [List.foldl_cons, ih]
    have h := congrArg Prod.fst (s.perform_view t a)
    cases a <;> exact h

theorem State.setKey_view (i : Nat) (k : Key) (s : State) : (s.setKey i k).view = (s.scanner.keys.set i k, s.rail.occupied) := by
  unfold State.setKey State.view
  rw [updateAt_const]

/-! ### The two invariants -/

theorem State.viewExact_iff (s : State) :
    s.viewExact ↔ s.view.2 = s.view.1.any (·.flight.isSome) ∧ ∀ k ∈ s.view.1, k.state = .faulted → k.flight = none := by
  have h : (s.rail.occupied = true ↔ ∃ k ∈ s.scanner.keys, k.flight.isSome = true)
      ↔ s.rail.occupied = s.scanner.keys.any (·.flight.isSome) :=
    (iff_congr Iff.rfl List.any_eq_true.symm).trans Bool.eq_iff_iff.symm
  exact and_congr_left' h

theorem State.viewExact_of_view {a b : State} (h : a.view = b.view) (hb : b.viewExact) : a.viewExact := by
  rw [State.viewExact_iff] at hb ⊢
  rwa [h]

theorem State.disabledStill_of_view {a b : State} (h : a.view = b.view) (hb : b.disabledStill) : a.disabledStill := by
  have hk : a.scanner.keys = b.scanner.keys := congrArg Prod.fst h
  unfold State.disabledStill
  rwa [hk]

/-- A key is replaced, and what that says of its flight is performed: the view stays exact. -/
theorem State.viewExact_settles {s : State} {i : Nat} {k : Key} {r : Key × List KeyAct} (t : Time) (hs : s.viewExact)
    (hk : s.key? i = some k) (hr : k.reportsFlight r) (hf : r.1.state = .faulted → r.1.flight = none) :
    (r.2.foldl (State.perform t) (s.setKey i r.1)).viewExact := by
  rw [State.viewExact_iff] at hs ⊢
  obtain ⟨ho, hq⟩ := hs
  have hlt : i < s.scanner.keys.length := (List.getElem?_eq_some_iff.mp hk).1
  have hset : r.1 ∈ s.scanner.keys.set i r.1 := List.mem_set hlt _
  have hq' := mem_set_of (i := i) (b := r.1) hq hf
  rw [State.foldl_perform_view, hr, State.setKey_view]
  cases hb : k.flight.isSome <;> cases ha : r.1.flight.isSome
  · exact ⟨ho.trans (any_set_of_eq hk (by rw [hb, ha])).symm, hq'⟩
  · exact ⟨(List.any_eq_true.mpr ⟨_, hset, ha⟩).symm, hq'⟩
  · have hany : s.scanner.keys.any (·.flight.isSome) = true := List.any_eq_true.mpr ⟨k, List.mem_of_getElem? hk, hb⟩
    have hocc : s.rail.occupied = true := ho.trans hany
    exact ⟨by simp [flightReport, KeyAct.onView, hocc], hq'⟩
  · exact ⟨ho.trans (any_set_of_eq hk (by rw [hb, ha])).symm, hq'⟩

theorem State.disabledStill_settles {s : State} {i : Nat} {r : Key × List KeyAct} (t : Time) (hs : s.disabledStill)
    (hd : r.1.cal.enabled = false → r.1.flight = none) :
    (r.2.foldl (State.perform t) (s.setKey i r.1)).disabledStill := by
  unfold State.disabledStill
  rw [State.foldl_perform_keys, State.setKey_scanner, updateAt_const]
  exact mem_set_of hs hd

/-- A map of the keys that keeps what the invariants look at keeps them. -/
theorem State.viewExact_map {s s' : State} (g : Key → Key)
    (hg : ∀ k, (g k).flight = k.flight ∧ (g k).state = k.state)
    (h : s'.view = (s.scanner.keys.map g, s.rail.occupied)) (hs : s.viewExact) : s'.viewExact := by
  rw [State.viewExact_iff] at hs ⊢
  obtain ⟨ho, hq⟩ := hs
  rw [h]
  refine ⟨ho.trans ?_, ?_⟩
  · rw [List.any_map]
    exact congrArg (fun p => List.any s.scanner.keys p) (funext fun k => by simp [(hg k).1])
  · rw [List.forall_mem_map]
    exact fun k hk hf => (hg k).1.trans (hq k hk ((hg k).2.symm.trans hf))

theorem State.disabledStill_map {s s' : State} (g : Key → Key)
    (hg : ∀ k, (g k).flight = k.flight ∧ (g k).cal = k.cal) (h : s'.scanner.keys = s.scanner.keys.map g)
    (hs : s.disabledStill) : s'.disabledStill := by
  unfold State.disabledStill
  rw [h, List.forall_mem_map]
  exact fun k hk hd => (hg k).1.trans (hs k hk ((hg k).2 ▸ hd))

/-! ### The commands that move keys -/

theorem State.scanKey_viewExact (ks hs : List Nat) {s : State} (h : s.viewExact) (i : Nat) : (s.scanKey ks hs i).viewExact := by
  unfold State.scanKey
  split
  · exact h
  next k hk =>
    exact State.viewExact_settles _ h hk (k.frame_reportsFlight ..)
      (k.frame_faulted _ _ _ (h.2 k (List.mem_of_getElem? hk)))

theorem State.scanKey_disabledStill (ks hs : List Nat) {s : State} (h : s.disabledStill) (i : Nat) :
    (s.scanKey ks hs i).disabledStill := by
  unfold State.scanKey
  split
  · exact h
  next k hk => exact State.disabledStill_settles _ h (k.frame_disabled _ _ _ (h k (List.mem_of_getElem? hk)))

theorem State.pedalEvent_view (p : Pedal) (n : Nat) (s : State) : (s.pedalEvent p n).view = s.view :=
  (State.route_sameControl ..).view_eq.trans rfl

theorem State.scanPedal_view (p : Pedal) (raw : Nat) (s : State) : (s.scanPedal p raw).view = s.view := by
  unfold State.scanPedal
  simp only
  split
  · rfl
  · split
    · split
      · exact (State.notify_view ..).trans ((State.pedalEvent_view ..).trans rfl)
      · rfl
    · split
      · exact (State.pedalEvent_view ..).trans rfl
      · rfl

/-- What holds of a state by its view and is kept by each key of a scan frame is kept by the frame. -/
theorem State.scanFrame_keeps {P : State → Prop} (hP : ∀ {a b : State}, a.view = b.view → P b → P a) (ks hs : List Nat)
    (hk : ∀ {u : State}, P u → ∀ i, P (u.scanKey ks hs i)) (p : PedalRaws) {s : State} (h : P s) : P (s.scanFrame ks hs p) := by
  have fold (is : List Nat) {u : State} (hu : P u) : P (is.foldl (State.scanKey ks hs) u) := by
    induction is generalizing u with
    | nil => exact hu
    | cons i is ih => exact ih (hk hu i)
  unfold State.scanFrame
  split
  · exact hP ((State.scanPedal_view ..).trans ((State.scanPedal_view ..).trans (State.scanPedal_view ..))) (fold _ h)
  · exact h

theorem State.settleCal_viewExact (i : Nat) (c : CalRecord) {s : State} (h : s.viewExact) : (s.settleCal i c).1.viewExact := by
  unfold State.settleCal
  split
  · exact h
  next k hk =>
    have hq := h.2 k (List.mem_of_getElem? hk)
    simp only
    split
    next hr => exact State.viewExact_settles _ h hk (k.applyCal_reportsFlight c) (Key.applyCal_still c hr).faulted
    · exact State.viewExact_settles (r := ({ k with staged := some c }, [])) 0 h hk (flightReport_same _).symm hq

theorem State.settleCal_disabledStill (i : Nat) (c : CalRecord) {s : State} (h : s.disabledStill) :
    (s.settleCal i c).1.disabledStill := by
  unfold State.settleCal
  split
  · exact h
  next k hk =>
    have hq := h k (List.mem_of_getElem? hk)
    simp only
    split
    next hr => exact State.disabledStill_settles _ h (Key.applyCal_still c hr).disabled
    · exact State.disabledStill_settles (r := ({ k with staged := some c }, [])) 0 h hq

/-- What each record settled keeps, CAL_SET keeps. -/
theorem State.calSet_keeps {P : State → Prop} (hs : ∀ (i : Nat) (c : CalRecord) {u : State}, P u → P (u.settleCal i c).1)
    (i : Nat) (c : CalRecord) {s : State} (h : P s) : P (s.calSet i c).1 := by
  unfold State.calSet
  split
  · exact h
  · exact hs i c h

/-- What each record settled keeps, and the end of a capture, CAPTURE_END keeps. -/
theorem State.captureEnd_keeps {P : State → Prop} (hs : ∀ (i : Nat) (c : CalRecord) {u : State}, P u → P (u.settleCal i c).1)
    {s : State} (he : P { s with scanner := s.scanner.endCapture }) (h : P s) : P s.captureEnd.1 := by
  have all (rs : List (Nat × CalRecord)) {u : State} (hu : P u) : P (u.settleAll rs).1 := by
    induction rs generalizing u with
    | nil => exact hu
    | cons r rs ih => exact ih (hs r.1 r.2 hu)
  unfold State.captureEnd
  split
  · exact h
  · exact all _ he

theorem State.faultClear_viewExact (x : FaultTarget) {s : State} (h : s.viewExact) : (s.faultClear x).1.viewExact := by
  unfold State.faultClear
  split
  · exact h
  · simp only
    split
    · exact State.viewExact_of_view (b := s) rfl h
    · exact h
  · split
    · exact h
    · split
      · exact h
      next i _ k hk =>
        split
        next hf =>
          have hn : k.flight = none := h.2 k (List.mem_of_getElem? hk) hf
          exact State.viewExact_settles (r := (k.clearFault, [])) 0 h hk
            (by unfold Key.reportsFlight; rw [hn]; rfl) (fun _ => rfl)
        · exact h

theorem State.faultClear_disabledStill (x : FaultTarget) {s : State} (h : s.disabledStill) :
    (s.faultClear x).1.disabledStill := by
  unfold State.faultClear
  split
  · exact h
  · simp only
    split
    · exact State.disabledStill_of_view (b := s) rfl h
    · exact h
  · split
    · exact h
    · split
      · exact h
      · split
        · exact State.disabledStill_settles (r := (Key.clearFault _, [])) 0 h fun _ => rfl
        · exact h

/-- R7: the adoption of a threshold set at REST leaves what the invariants look at. -/
theorem Key.adoptThr_flight (x : Thresholds) (k : Key) :
    (if k.state = .rest then { k with thr := x } else k).flight = k.flight
      ∧ (if k.state = .rest then { k with thr := x } else k).state = k.state
      ∧ (if k.state = .rest then { k with thr := x } else k).cal = k.cal := by
  split <;> exact ⟨rfl, rfl, rfl⟩

theorem State.threshSet_viewExact (x : Thresholds) {s : State} (h : s.viewExact) : (s.threshSet x).1.viewExact := by
  unfold State.threshSet
  split
  · exact h
  · exact State.viewExact_map _ (fun k => ⟨(k.adoptThr_flight x).1, (k.adoptThr_flight x).2.1⟩) rfl h

theorem State.threshSet_disabledStill (x : Thresholds) {s : State} (h : s.disabledStill) :
    (s.threshSet x).1.disabledStill := by
  unfold State.threshSet
  split
  · exact h
  · exact State.disabledStill_map _ (fun k => ⟨(k.adoptThr_flight x).1, (k.adoptThr_flight x).2.2⟩) rfl h

/-- R23: a capture record as a capture opens it. -/
def Capture.opened : Capture := { keyStart := none, keyFar := none, hammerStart := none, hammerFar := none }

theorem State.captureBegin_viewExact {s : State} (h : s.viewExact) : s.captureBegin.1.viewExact := by
  unfold State.captureBegin
  split
  · exact h
  · exact State.viewExact_map (fun k => { k with capture := some Capture.opened }) (fun _ => ⟨rfl, rfl⟩) rfl h

theorem State.captureBegin_disabledStill {s : State} (h : s.disabledStill) : s.captureBegin.1.disabledStill := by
  unfold State.captureBegin
  split
  · exact h
  · exact State.disabledStill_map (fun k => { k with capture := some Capture.opened }) (fun _ => ⟨rfl, rfl⟩) rfl h

theorem State.endCapture_viewExact {s : State} (h : s.viewExact) :
    ({ s with scanner := s.scanner.endCapture } : State).viewExact :=
  State.viewExact_map (fun k => { k with capture := none }) (fun _ => ⟨rfl, rfl⟩) rfl h

theorem State.endCapture_disabledStill {s : State} (h : s.disabledStill) :
    ({ s with scanner := s.scanner.endCapture } : State).disabledStill :=
  State.disabledStill_map (fun k => { k with capture := none }) (fun _ => ⟨rfl, rfl⟩) rfl h

theorem State.captureCancel_keeps {P : State → Prop} {s : State} (he : P { s with scanner := s.scanner.endCapture }) (h : P s) :
    P s.captureCancel.1 := by
  unfold State.captureCancel
  split
  · exact he
  · exact h

/-! ### The resets and the setup -/

/-- Keys without a flight record, and an empty view: both invariants hold. -/
theorem State.invariants_of_noFlight {s : State} (hk : ∀ k ∈ s.scanner.keys, k.flight = none) (ho : s.rail.occupied = false) :
    s.viewExact ∧ s.disabledStill := by
  refine ⟨⟨?_, fun k h _ => hk k h⟩, fun k h _ => hk k h⟩
  constructor
  · intro h
    simp [ho] at h
  · rintro ⟨k, h, hf⟩
    simp [hk k h] at hf

theorem State.fullReset_invariants (b : Bool) (s : State) : (s.fullReset b).viewExact ∧ (s.fullReset b).disabledStill :=
  State.invariants_of_noFlight (fun _ h => (List.eq_of_mem_replicate h) ▸ rfl) rfl

theorem Rail.warm_occupied (r : Rail) : r.warm.occupied = false := by
  unfold Rail.warm
  simp only
  split <;> rfl

theorem State.warmReset_invariants (s : State) : s.warmReset.viewExact ∧ s.warmReset.disabledStill := by
  have hv : s.warmReset.view = s.warmBlocks.view := by
    unfold State.warmReset
    simp only
    split <;> rfl
  have hb : s.warmBlocks.viewExact ∧ s.warmBlocks.disabledStill := by
    refine State.invariants_of_noFlight ?_ (Rail.warm_occupied _)
    change ∀ k ∈ (s.warmRecorder.scanner.warm _ _).keys, k.flight = none
    unfold Scanner.warm
    rw [Scanner.railReport_keys, List.forall_mem_map]
    exact fun _ _ => rfl
  exact ⟨State.viewExact_of_view hv hb.1, State.disabledStill_of_view hv hb.2⟩

/-- The setup gives every key a fresh start. -/
theorem State.setupDone_keys (s : State) :
    s.setupDone.view = s.view ∨ s.link.start = .setup ∧ (∀ k ∈ s.setupDone.scanner.keys, k.flight = none)
      ∧ s.setupDone.rail.occupied = s.rail.occupied := by
  unfold State.setupDone
  split
  · exact .inl rfl
  next h =>
    refine .inr ⟨not_not.mp h, ?_, rfl⟩
    change ∀ k ∈ s.chooseSetup.2.cals.map (fun c => Key.fresh c s.chooseSetup.2.thr), k.flight = none
    rw [List.forall_mem_map]
    exact fun _ _ => rfl

theorem State.setupDone_viewExact {s : State} (hq : s.startsQuietly) (h : s.viewExact) : s.setupDone.viewExact := by
  obtain hv | ⟨hs, hk, ho⟩ := s.setupDone_keys
  · exact State.viewExact_of_view hv h
  · obtain ⟨-, -, hquiet⟩ := hq
    obtain ⟨hflight, -, -⟩ := hquiet (.inr hs)
    have hocc : s.rail.occupied = false := by
      rw [Bool.eq_false_iff]
      intro ht
      obtain ⟨k, hk, hf⟩ := h.1.mp ht
      simp [hflight k hk] at hf
    exact (State.invariants_of_noFlight hk (ho.trans hocc)).1

theorem State.setupDone_disabledStill {s : State} (h : s.disabledStill) : s.setupDone.disabledStill := by
  obtain hv | ⟨-, hk, -⟩ := s.setupDone_keys
  · exact State.disabledStill_of_view hv h
  · exact fun k h _ => hk k h

/-! ### Every command, and every step -/

/-- What holds of a state by its view, an event keeps when its operation keeps it. -/
theorem State.atTime_keeps_view {P : State → Prop} (hP : ∀ {a b : State}, a.view = b.view → P b → P a) {op : State → State}
    {t : Time} {s : State} (h : P (op (s.upTo t))) : P (s.atTime t op) :=
  hP (State.arbitrate_view _) h

theorem exec_viewExact {c : Instr} {s s' : State} (hs : s.viewExact) (hq : s.startsQuietly) (h : exec c s = .next s') :
    s'.viewExact := by
  have hu (t : Time) : (s.upTo t).viewExact := State.viewExact_of_view (b := s) rfl hs
  cases hc : movesKeys c with
  | false => exact State.viewExact_of_view (exec_view hc h) hs
  | true =>
    cases c with
    | fullReset b => cases h; exact (s.fullReset_invariants b).1
    | setupAreaReadDone t =>
      cases h
      exact State.atTime_keeps_view State.viewExact_of_view (State.setupDone_viewExact (s := s.upTo t) hq (hu t))
    | warmReset t =>
      cases h
      refine State.atTime_keeps_view State.viewExact_of_view ?_
      split
      · exact (State.warmReset_invariants _).1
      · exact hu t
    | scanFrame t ks hs' p =>
      cases h
      exact State.atTime_keeps_view State.viewExact_of_view
        (State.scanFrame_keeps State.viewExact_of_view ks hs' (State.scanKey_viewExact ks hs') p (hu t))
    | calSet t i r =>
      cases h
      exact State.takeRequest_keeps_view State.viewExact_of_view
        (fun u hu => State.calSet_keeps (fun i c => State.settleCal_viewExact i c) i r hu) _ t hs
    | threshSet t x =>
      cases h
      exact State.takeRequest_keeps_view State.viewExact_of_view (fun u hu => State.threshSet_viewExact x hu) _ t hs
    | faultClear t x =>
      cases h
      exact State.takeRequest_keeps_view State.viewExact_of_view (fun u hu => State.faultClear_viewExact x hu) _ t hs
    | captureBegin t =>
      cases h
      exact State.takeRequest_keeps_view State.viewExact_of_view (fun u hu => State.captureBegin_viewExact hu) _ t hs
    | captureEnd t =>
      cases h
      exact State.takeRequest_keeps_view State.viewExact_of_view
        (fun u hu => State.captureEnd_keeps (fun i c => State.settleCal_viewExact i c) (State.endCapture_viewExact hu) hu) _ t hs
    | captureCancel t =>
      cases h
      exact State.takeRequest_keeps_view State.viewExact_of_view
        (fun u hu => State.captureCancel_keeps (State.endCapture_viewExact hu) hu) _ t hs
    | _ => cases hc

theorem exec_disabledStill {c : Instr} {s s' : State} (hs : s.disabledStill) (h : exec c s = .next s') : s'.disabledStill := by
  have hu (t : Time) : (s.upTo t).disabledStill := State.disabledStill_of_view (b := s) rfl hs
  cases hc : movesKeys c with
  | false => exact State.disabledStill_of_view (exec_view hc h) hs
  | true =>
    cases c with
    | fullReset b => cases h; exact (s.fullReset_invariants b).2
    | setupAreaReadDone t =>
      cases h
      exact State.atTime_keeps_view State.disabledStill_of_view (State.setupDone_disabledStill (hu t))
    | warmReset t =>
      cases h
      refine State.atTime_keeps_view State.disabledStill_of_view ?_
      split
      · exact (State.warmReset_invariants _).2
      · exact hu t
    | scanFrame t ks hs' p =>
      cases h
      exact State.atTime_keeps_view State.disabledStill_of_view
        (State.scanFrame_keeps State.disabledStill_of_view ks hs' (State.scanKey_disabledStill ks hs') p (hu t))
    | calSet t i r =>
      cases h
      exact State.takeRequest_keeps_view State.disabledStill_of_view
        (fun u hu => State.calSet_keeps (fun i c => State.settleCal_disabledStill i c) i r hu) _ t hs
    | threshSet t x =>
      cases h
      exact State.takeRequest_keeps_view State.disabledStill_of_view (fun u hu => State.threshSet_disabledStill x hu) _ t hs
    | faultClear t x =>
      cases h
      exact State.takeRequest_keeps_view State.disabledStill_of_view (fun u hu => State.faultClear_disabledStill x hu) _ t hs
    | captureBegin t =>
      cases h
      exact State.takeRequest_keeps_view State.disabledStill_of_view (fun u hu => State.captureBegin_disabledStill hu) _ t hs
    | captureEnd t =>
      cases h
      exact State.takeRequest_keeps_view State.disabledStill_of_view
        (fun u hu => State.captureEnd_keeps (fun i c => State.settleCal_disabledStill i c) (State.endCapture_disabledStill hu) hu)
        _ t hs
    | captureCancel t =>
      cases h
      exact State.takeRequest_keeps_view State.disabledStill_of_view
        (fun u hu => State.captureCancel_keeps (State.endCapture_disabledStill hu) hu) _ t hs
    | _ => cases hc

/-- A step is time passing or a command, so what both keep every step keeps. -/
theorem step_cases {s s' : State} (h : step s = .next s') :
    s' = s.elapse 1 ∨ ∃ c cs, s.pending = c :: cs ∧ exec c { s with pending := cs } = .next s' := by
  unfold step at h
  split at h
  next hp => cases h; exact .inl rfl
  next c cs hp => exact .inr ⟨c, cs, hp, h⟩

/-- Settles O56: only the resets, the setup, the scan frames and the requests that settle keys can change a flight record or the
view (`exec_view`), and each of those reports exactly the change it makes (`Key.reportsFlight`). -/
theorem stepsKeepTheViewOfTheFlightTable : Obligations.StepsKeepTheViewOfTheFlightTable := by
  refine ⟨fun s s' hv hq h => ?_, fun s s' hd _ h => ?_⟩
  · obtain rfl | ⟨c, cs, -, h⟩ := step_cases h
    · exact State.viewExact_of_view (b := s) rfl hv
    · exact exec_viewExact (s := { s with pending := cs }) hv hq h
  · obtain rfl | ⟨c, cs, -, h⟩ := step_cases h
    · exact State.disabledStill_of_view (b := s) rfl hd
    · exact exec_disabledStill (s := { s with pending := cs }) hd h

end Sys2Proof.Machine
end

section
/-! The settle timer, the full reset, the reset state, and the bytes of take records and calibration records. -/

namespace Sys2Proof.Machine

/-! ### The settle timer (R8) -/

/-- A timer that has run out by time `t` is due then. -/
theorem Timer.after_due {x : Timer} {n dt : Nat} (h : x = some n) (hn : n ≤ dt) : (Timer.after dt x).due = true := by
  subst h
  have : n - dt = 0 := by omega
  simp [Timer.after, Timer.due, this]

/-- Settles O22: the timer is due, and the rail's state names the mode. -/
theorem theSettleTimerGivesTheRailsMode : Obligations.TheSettleTimerGivesTheRailsMode := by
  intro s t n hn hle
  have hdue : (s.upTo t).scanner.settle.due = true := Timer.after_due hn hle
  have hexec : exec (.settleTimer t) s = .next (s.upTo t).settleExpires.arbitrate := by
    change Host.Outcome.next (if (s.upTo t).scanner.settle.due then (s.upTo t).settleExpires else s.upTo t).arbitrate = _
    rw [if_pos hdue]
  constructor <;> (intro hr; rw [hexec, State.settleExpires, State.upTo_rail_state, hr])

/-! ### The full reset (R191, R193) -/

/-- R26: a key after a full reset. -/
theorem Scanner.reset_key {k : Key} (h : k ∈ Scanner.reset.keys) : k = Key.fresh defaultCal defaultThr :=
  List.eq_of_mem_replicate h

/-- R144: after a full reset every block of the store is in the pool. -/
theorem Store.reset_pool : Store.reset.pool = List.range 2048 := by simp only [Store.reset]

/-- Settles O48, field by field from the reset value of each block. -/
theorem fullResetPutsEveryBlockInItsResetState : Obligations.FullResetPutsEveryBlockInItsResetState := by
  intro s strap
  have pedals (p : Pedal) : ∃ m, Pedals.reset.unit p = PedalUnit.fresh m := by
    cases p
    · exact ⟨.level, rfl⟩
    · exact ⟨.switch, rfl⟩
    · exact ⟨.level, rfl⟩
  refine ⟨s.fullReset strap, rfl, ⟨List.length_replicate, fun k hk => ?_⟩, rfl, rfl, rfl, fun p => ?_, rfl, rfl, rfl, rfl, rfl,
    rfl, rfl, rfl, rfl, rfl, rfl, rfl, rfl, rfl, rfl, rfl, rfl, List.length_replicate, fun b hb => ?_, rfl, rfl, rfl, rfl, rfl,
    rfl, rfl, rfl, rfl, rfl, Store.reset_pool, ?_⟩
  · rw [Scanner.reset_key hk]
    and_intros <;> rfl
  · obtain ⟨m, hm⟩ := pedals p
    change (Pedals.reset.unit p).faulted = false ∧ (Pedals.reset.unit p).faults = 0 ∧ (Pedals.reset.unit p).good = none
      ∧ (Pedals.reset.unit p).depth = 0 ∧ (Pedals.reset.unit p).switchDown = false ∧ (Pedals.reset.unit p).last = 0
    rw [hm]
    and_intros <;> rfl
  · rw [List.eq_of_mem_replicate hb]
    and_intros <;> rfl
  · and_intros <;> rfl

/-! ### The invariants right after reset -/

theorem Voices.reset_lawful : State.reset.voicesLawful := by
  refine ⟨List.length_replicate, by decide, by decide, ?_, fun src key => ?_⟩
  · change (List.replicate 80 none).countP _ ≤ 64
    simp
  · change (List.replicate 80 none).countP _ ≤ 1
    simp

theorem Store.reset_partitioned : State.reset.blocksPartitioned := by
  have hnone : State.reset.store.takenBlocks = [] := by
    unfold Store.takenBlocks
    rw [List.flatMap_eq_nil_iff]
    intro x hx
    rw [List.eq_of_mem_replicate hx]
    rfl
  have hpool : State.reset.store.pool = List.range 2048 := Store.reset_pool
  refine ⟨List.length_replicate, ?_, hpool ▸ List.pairwise_lt_range⟩
  rw [hnone, List.append_nil, hpool]

/-- Every row of the reset table has the lengths of its request. -/
theorem kindRows_lengths (n : Nat) (rs : List Request) : ∀ row ∈ kindRows n rs, row.lengths = row.request.lengths := by
  induction rs generalizing n with
  | nil => simp [kindRows]
  | cons r rs ih =>
    rw [kindRows, List.forall_mem_cons]
    exact ⟨rfl, ih (n + 1)⟩

theorem State.reset_kindsLawful : State.reset.kindsLawful := by
  intro row hrow n hn
  rw [kindRows_lengths 0 allRequests row hrow, Request.lengths, hn]

/-- Settles O60: the reset state is a closed term, so each invariant is read off it. -/
theorem theResetStateHasTheInvariants : Obligations.TheResetStateHasTheInvariants := by
  have keys : ∀ k ∈ State.reset.scanner.keys, k.flight = none := fun k hk => by rw [Scanner.reset_key hk]; rfl
  have flights := State.invariants_of_noFlight (s := State.reset) keys rfl
  refine ⟨State.reset_memories_wf, ?_, ?_, ?_, flights.1, Voices.reset_lawful, Store.reset_partitioned, ?_, ⟨rfl, fun _ => ⟨rfl, rfl⟩⟩,
    State.reset_kindsLawful, flights.2⟩
  · refine ⟨?_, ?_, ?_, ?_, ?_, ?_⟩ <;> exact Nat.zero_le _
  · exact ⟨by decide, by decide⟩
  · exact ⟨fun _ => ⟨rfl, rfl⟩, fun _ => rfl, fun _ => ⟨keys, fun v hv => List.eq_of_mem_replicate hv, rfl⟩⟩
  · exact ⟨rfl, rfl, rfl, rfl, fun _ => rfl, fun _ => rfl⟩

/-! ### The bytes of records (R4, R128; 11, Formats) -/

/-- A byte holds a number below 256. -/
theorem byte_toNat {n : Nat} (h : n < 256) : (BitVec.ofNat 8 n).toNat = n := by
  rw [BitVec.toNat_ofNat, Nat.mod_eq_of_lt h]

/-- R128: what the kind code of a record and its bytes 2 and 3 say. -/
def bodyOf (kind b2 b3 : Nat) : RecordBody :=
  match kind with
  | 0 => .fill
  | 1 => .noteOn b2 b3
  | 2 => .noteOff b2
  | 3 => .pedal b2 b3
  | 4 => .mark b2
  | 5 => .gap (b2 + 256 * b3)
  | 6 => .endTake
  | k => .unknown k

theorem recordOf_eq (b0 b1 b2 b3 : Byte) :
    recordOf b0 b1 b2 b3 = { body := bodyOf (b0.toNat / 16) b2.toNat b3.toNat, hand := b0.toNat / 4 % 4, delta := b1.toNat } := by
  unfold recordOf bodyOf
  rfl

/-- Four bytes written from numbers in their ranges are read as those numbers. -/
theorem recordOf_ofNat {kind hand delta x y : Nat} (hk : kind < 16) (hh : hand < 4) (hd : delta < 256) (hx : x < 256)
    (hy : y < 256) :
    recordOf (BitVec.ofNat 8 (16 * kind + 4 * hand)) (BitVec.ofNat 8 delta) (BitVec.ofNat 8 x) (BitVec.ofNat 8 y)
      = { body := bodyOf kind x y, hand, delta } := by
  have h1 : (16 * kind + 4 * hand) / 16 = kind := by omega
  have h2 : (16 * kind + 4 * hand) / 4 % 4 = hand := by omega
  rw [recordOf_eq, byte_toNat (show 16 * kind + 4 * hand < 256 by omega), byte_toNat hd, byte_toNat hx, byte_toNat hy, h1, h2]

theorem takeRecordsRoundTrip : Claims.TakeRecordsRoundTrip := by
  rintro ⟨body, hand, delta⟩ h
  have reads {kind x y : Nat} (hf : body.fields = (kind, x, y)) (hb : bodyOf kind x y = body) (hk : kind < 16) (hh : hand < 4)
      (hd : delta < 256) (hx : x < 256) (hy : y < 256) :
      ∃ b0 b1 b2 b3, TakeRecord.bytes { body, hand, delta } = [b0, b1, b2, b3]
        ∧ recordOf b0 b1 b2 b3 = { body, hand, delta } := by
    refine ⟨_, _, _, _, rfl, ?_⟩
    rw [hf, recordOf_ofNat hk hh hd hx hy, hb]
  cases body <;> simp only [TakeRecord.inRanges, inRange, Bool.and_eq_true, decide_eq_true_eq, beq_iff_eq, Bool.false_eq_true, and_false] at h
  case fill => exact reads rfl rfl (by omega) (by omega) (by omega) (by omega) (by omega)
  case noteOn k v => exact reads rfl rfl (by omega) (by omega) (by omega) (by omega) (by omega)
  case noteOff k => exact reads rfl rfl (by omega) (by omega) (by omega) (by omega) (by omega)
  case pedal p l => exact reads rfl rfl (by omega) (by omega) (by omega) (by omega) (by omega)
  case mark n => exact reads rfl rfl (by omega) (by omega) (by omega) (by omega) (by omega)
  case gap a =>
    exact reads rfl (congrArg RecordBody.gap (by omega)) (by omega) (by omega) (by omega) (by omega) (by omega)
  case endTake => exact reads rfl rfl (by omega) (by omega) (by omega) (by omega) (by omega)

theorem takeRecordsHaveTheirBytes : Claims.TakeRecordsHaveTheirBytes := by
  intro h d
  simp [TakeRecord.bytes, RecordBody.fields]

/-- Two bytes written from a number below 65536 are read as that number. -/
theorem leNat_leBytes_two {n : Nat} (h : n < 65536) : leNat (leBytes 2 n) = n := by
  simp only [leBytes, leNat, BitVec.toNat_ofNat]
  omega

theorem calibrationRecordsRoundTrip : Claims.CalibrationRecordsRoundTrip := by
  intro c h
  simp only [calOk, Bool.and_eq_true, decide_eq_true_eq] at h
  obtain ⟨⟨⟨⟨⟨⟨⟨⟨⟨hkr, hkb⟩, hhr⟩, hht⟩, hst⟩, -⟩, -⟩, -⟩, hlo⟩, hhi⟩ := h
  refine ⟨rfl, ?_⟩
  have stopped : (if leNat (leBytes 2 (c.hammerStopped.getD 0xFFFF)) = 0xFFFF then none
      else some (leNat (leBytes 2 (c.hammerStopped.getD 0xFFFF)))) = c.hammerStopped := by
    cases hs : c.hammerStopped with
    | none => rfl
    | some x =>
      have hx : x ≤ 4095 := by simpa [hs] using hst
      rw [Option.getD_some, leNat_leBytes_two (by omega), if_neg (by omega)]
  have trim : (BitVec.ofInt 8 c.trim).toInt = c.trim := by
    rw [BitVec.toInt_ofInt, Int.bmod_eq_of_le (by omega) (by omega)]
  have enabled : (leNat [if c.enabled then 1 else 0] % 2 == 1) = c.enabled := by cases c.enabled <;> rfl
  change ({ keyRest := leNat (leBytes 2 c.keyRest), keyBottom := leNat (leBytes 2 c.keyBottom)
            hammerRest := leNat (leBytes 2 c.hammerRest), hammerTop := leNat (leBytes 2 c.hammerTop)
            hammerStopped := if leNat (leBytes 2 (c.hammerStopped.getD 0xFFFF)) = 0xFFFF then none
              else some (leNat (leBytes 2 (c.hammerStopped.getD 0xFFFF)))
            trim := (BitVec.ofInt 8 c.trim).toInt, enabled := leNat [if c.enabled then 1 else 0] % 2 == 1 } : CalRecord) = c
  rw [leNat_leBytes_two (by omega), leNat_leBytes_two (by omega), leNat_leBytes_two (by omega), leNat_leBytes_two (by omega),
    stopped, trim, enabled]

/-- Settles O52: the bytes of a record, the record of its bytes, and the record of a calibration record's bytes. -/
theorem recordEncodingsRoundTrip : Obligations.RecordEncodingsRoundTrip :=
  ⟨takeRecordsRoundTrip, takeRecordsHaveTheirBytes, calibrationRecordsRoundTrip⟩

end Sys2Proof.Machine
end

section
/-! The queries (R25, R38, R50, R71, R91, R108, R122, R137, R155, R159, R180, R189). -/

namespace Sys2Proof.Machine

/-! ### What the reports are made of, written out -/

/-- A request that only reads is answered with what it reads. -/
theorem reading_answers {s : State} {q : Request} {f : Frame} {rest : List Frame} {t : Time} {run : State → Status × Content}
    {x : Status} {c : Content} (h : s.offers q f rest) (e : run (s.upTo t).popRequest = (x, c)) :
    (Host.Outcome.next (s.takeRequest q t (reading run)) : Host.Outcome State Fault Refusal)
      = .next ((s.upTo t).answering f rest x c) := by
  rw [State.takeRequest_reading t run h, e]

/-- `numbered` is the library's numbering with the pairs turned round. -/
theorem numbered_eq_zipIdx {α : Type} (i : Nat) (xs : List α) : numbered i xs = (xs.zipIdx i).map fun x => (x.2, x.1) := by
  induction xs generalizing i with
  | nil => rfl
  | cons x xs ih => rw [numbered, ih, List.zipIdx_cons, List.map_cons]

/-- R52: the motor is driven in FORWARD and REVERSE. -/
theorem Rail.driven_iff (r : Rail) : r.driven = true ↔ r.drive = .forward ∨ r.drive = .reverse := by
  simp [Rail.driven]

theorem Scanner.flights_eq (sc : Scanner) :
    sc.flights = sc.keys.zipIdx.filterMap fun x => x.1.flight.map fun y => (x.2, y) := by
  rw [Scanner.flights, numbered_eq_zipIdx, List.filterMap_map]
  rfl

/-- R75: the counted number under any description of the counted states. -/
theorem Voices.counted_eq (v : Voices) {counted : Voice → Bool} (hc : ∀ w, counted w = w.counted) :
    v.counted = v.table.countP fun x => x.any counted := by
  rw [show counted = Voice.counted from funext hc]
  rfl

/-- R91: VOICE_QUERY's content under any description of the counted states. -/
theorem Voices.summary_eq (v : Voices) {counted : Voice → Bool} (hc : ∀ w, counted w = w.counted) :
    let voices (q : Voice → Bool) : Nat := v.table.countP fun x => x.any q
    let phases (src : Source) : PhaseCounts :=
      { starting := voices fun w => w.source == src && w.phase == .starting
        sounding := voices fun w => w.source == src && w.phase == .sounding
        damped := voices fun w => w.source == src && w.isDamped
        fading := voices fun w => w.source == src && !counted w }
    v.summary =
      { limit := v.limit, priority := v.priority, counter := v.counter, counted := voices counted
        live := phases .live, playback := phases .playback, free := v.table.countP (· == none) } := by
  have free : (fun x : Option Voice => x == none) = Option.isNone := funext fun x => by cases x <;> rfl
  rw [show counted = Voice.counted from funext hc, free]
  rfl

/-- What REC_QUERY reads of the take being recorded. -/
theorem State.recTake_elim (s : State) (g : Take → Nat) :
    s.recTake?.elim 0 (fun x => g x.2) = (s.recorder.take.bind s.store.take?).elim 0 g := by
  unfold State.recTake?
  cases s.recorder.take with
  | none => rfl
  | some id =>
    change ((s.store.take? id).map fun tk => (id, tk)).elim 0 (fun x => g x.2) = (s.store.take? id).elim 0 g
    cases s.store.take? id <;> rfl

/-- R189: STATUS's content as it stands once the request's frame is taken. -/
theorem State.statusReport_of_offers {s : State} {q : Request} {f : Frame} {rest : List Frame} (t : Time)
    (h : s.offers q f rest) :
    (s.upTo t).popRequest.statusReport = { s.statusReport with ready := true, requests := rest.length } := by
  obtain ⟨hready, -, -, -, hreq⟩ := State.offers_popRequest t h
  rw [State.statusReport, hready, hreq]
  rfl

theorem queriesReportAndChangeNothing : Claims.QueriesReportAndChangeNothing := by
  intro s t f rest dt left ok live p driven muted voices counted phases taken held
  have hc : ∀ w, counted w = w.counted := fun w => by
    change (match w.phase with | .fading _ _ _ => false | _ => true) = w.counted
    unfold Voice.counted
    cases w.phase <;> rfl
  refine ⟨fun h => ?scan, fun h => reading_answers h rfl, fun h => reading_answers h rfl, fun h => ?rail,
    fun h => reading_answers h (congrArg (fun r => (Status.ok, Content.voices r)) (Voices.summary_eq s.voices hc)),
    fun h => ?set, fun h => reading_answers h rfl, fun h => ?takes, fun h => ?recorder, fun h => reading_answers h rfl,
    fun h => reading_answers h rfl, fun h => ?status, fun h => reading_answers h rfl⟩
  case scan =>
    refine reading_answers h ?_
    rw [← Scanner.flights_eq]
    rfl
  case rail =>
    refine reading_answers h ?_
    simp only [driven, ← Rail.driven_iff]
    rfl
  case set =>
    refine reading_answers h ?_
    change (Status.ok, Content.soundSet s.fetch.setReport) = _
    unfold Fetch.setReport Fetch.inFlight
    cases s.fetch.port with
    | none => rfl
    | some r => cases r <;> rfl
  case takes =>
    exact reading_answers h (congrArg
      (fun g => (Status.ok, Content.takeList (s.store.takes.map g) s.store.pool.length s.store.transfer))
      (funext fun x => by cases x <;> rfl))
  case recorder =>
    refine reading_answers h ?_
    have hrec : (s.upTo t).popRequest.recReport =
        { state := s.recorder.state, take := s.recorder.take, clock := s.recorder.clock, last := s.recorder.last
          writePos := s.recTake?.elim 0 (·.2.count), reserve := s.recTake?.elim 0 (·.2.reserve), opens := s.recorder.opens } :=
      rfl
    rw [hrec, State.recTake_elim s Take.count, State.recTake_elim s Take.reserve]
    rfl
  case status =>
    refine reading_answers h ?_
    rw [State.statusReport_of_offers t h, State.statusReport, Voices.counted_eq s.voices hc]
    rfl

/-! ### The queries that name what they read -/

/-- R91: one record of VOICE_READ, by the voice of the entry. -/
theorem State.voiceReport_of_some {s : State} {i : Nat} {w : Voice} (h : (s.voices.table[i]?).join = some w) :
    s.voiceReport i =
      { state := w.phase.state, source := some w.source, key := some w.key, velocity := some w.velocity, zone := some w.zone
        gain := some w.gain, released := some w.released, seq := some w.seq, releaseTime := w.phase.release
        attSteps := w.phase.steps, fadeBlocks := w.phase.fadeBlocks
        held := if w.phase = .sounding ∧ w.released = true then some ((s.context w.source).holds w.key) else none } := by
  unfold State.voiceReport Voices.voice?
  rw [h]
  rfl

theorem State.voiceReport_of_none {s : State} {i : Nat} (h : (s.voices.table[i]?).join = none) :
    s.voiceReport i =
      { state := .free, source := none, key := none, velocity := none, zone := none, gain := none, released := none
        seq := none, releaseTime := none, attSteps := none, fadeBlocks := none, held := none } := by
  unfold State.voiceReport Voices.voice?
  rw [h]
  rfl

/-- R82: a whole 0.5 dB step is half a dB. -/
theorem attHalfDb_two : attDb = 2 * attHalfDb := rfl

theorem div_attHalfDb (a : Nat) : a / attHalfDb = 2 * a / attDb := by
  rw [attHalfDb_two, Nat.mul_div_mul_left _ _ (by decide)]

/-- The first place whose element satisfies `p`: none when no element does. -/
theorem placeOf_eq_none {α : Type} {p : α → Bool} {xs : List α} (h : ∀ x ∈ xs, p x = false) : placeOf p xs = none := by
  induction xs with
  | nil => rfl
  | cons x xs ih =>
    obtain ⟨hx, hxs⟩ := List.forall_mem_cons.mp h
    simp [placeOf, hx, ih hxs]

theorem placeOf_eq_some {α : Type} {p : α → Bool} {xs : List α} {i : Nat} {x : α} (hx : xs[i]? = some x) (hp : p x = true)
    (h : ∀ j y, j < i → xs[j]? = some y → p y = false) : placeOf p xs = some i := by
  induction xs generalizing i with
  | nil => simp at hx
  | cons y ys ih =>
    cases i with
    | zero =>
      obtain rfl : y = x := by simpa using hx
      simp [placeOf, hp]
    | succ i =>
      have hy : p y = false := h 0 y (Nat.succ_pos i) rfl
      rw [placeOf, hy, ih (by simpa using hx) fun j z hj hz => h (j + 1) z (Nat.succ_lt_succ hj) (by simpa using hz)]
      rfl

theorem Key.hammer_eq (k : Key) : k.hammer = if k.flight = none then .atRest else .inFlight := by
  unfold Key.hammer
  cases k.flight <;> rfl

theorem keyOk_of_le {n : Nat} (h : n ≤ 87) : keyOk n = true := by simp only [keyOk, decide_eq_true_eq]; omega

theorem keyOk_of_gt {n : Nat} (h : 87 < n) : keyOk n = false := by simp only [keyOk, decide_eq_false_iff_not]; omega

theorem State.keyQuery_of_key {s : State} {i : Nat} {k : Key} (hi : i ≤ 87) (hk : s.key? i = some k) :
    s.keyQuery i = (.ok, .key (s.scanner.keyReport k)) := by
  simp [State.keyQuery, keyOk_of_le hi, hk]

theorem State.keyQuery_of_gt (s : State) {i : Nat} (hi : 87 < i) : s.keyQuery i = (.badArgument, .nothing) := by
  simp [State.keyQuery, keyOk_of_gt hi]

theorem inRange_iff (lo hi n : Nat) : inRange lo hi n = true ↔ lo ≤ n ∧ n ≤ hi := by simp [inRange]

/-- R137: TAKE_INFO by the directory entry of the id. -/
theorem Store.takeInfo_eq (st : Store) (id : Nat) :
    st.takeInfo id =
      if id = 0 ∨ 32 < id then (.badArgument, .nothing)
      else ((st.takes[id - 1]?).join).elim (.notFound, .nothing) fun tk => (.ok, .take (st.info tk)) := by
  unfold Store.takeInfo Store.take?
  by_cases hid : id = 0 ∨ 32 < id
  · have hbad : takeIdOk id = false := by
      rw [Bool.eq_false_iff, takeIdOk, Ne, inRange_iff]
      omega
    rw [if_pos hid, hbad]
    rfl
  · have hok : takeIdOk id = true := by
      rw [takeIdOk, inRange_iff]
      omega
    rw [if_neg hid, hok, if_neg (show ¬id = 0 by omega)]
    cases (st.takes[id - 1]?).join <;> rfl

/-- R108: the buffer serves an allocation of the sequence number. -/
theorem serves_seq (x : Option Serves) (n : BitVec 32) :
    (x.any fun y => y.seq == n) = decide (x.map (·.seq) = some n) := by
  cases x with
  | none => rfl
  | some y => simp [Bool.beq_eq_decide_eq]

theorem namedQueriesReportOrAreRefused : Claims.NamedQueriesReportOrAreRefused := by
  intro s t f rest n m answer voice half b
  refine ⟨fun k hk hn h => ?key, fun hn h => reading_answers h (State.keyQuery_of_gt _ hn), fun h => ?voices,
    fun h => ?zones, fun hn h => ?noStream, fun hn h => ?stream, fun h => ?take⟩
  case key =>
    refine reading_answers h ((State.keyQuery_of_key (s := (s.upTo t).popRequest) hn hk).trans ?_)
    rw [← Key.hammer_eq]
    rfl
  case voices =>
    have hv (i : Nat) : s.voiceReport i = voice i := by
      simp only [voice]
      cases hw : (s.voices.table[i]?).join with
      | none => exact State.voiceReport_of_none hw
      | some w =>
        rw [State.voiceReport_of_some hw]
        cases w with
        | mk phase source => cases phase <;> cases source <;> simp only [VoicePhase.steps, div_attHalfDb] <;> rfl
    have hg : (decide (n ≤ 79) && inRange 1 16 m && decide (n + m ≤ 80)) = true ↔ n ≤ 79 ∧ 1 ≤ m ∧ m ≤ 16 ∧ n + m ≤ 80 := by
      simp only [Bool.and_eq_true, decide_eq_true_eq, inRange_iff]
      tauto
    split
    next hr =>
      refine reading_answers h ?_
      rw [if_pos (hg.mpr hr), show voice = s.voiceReport from funext fun i => (hv i).symm]
      rfl
    next hr => exact reading_answers h (if_neg (mt hg.mp hr))
  case zones =>
    have hg : (inRange 1 8 m && decide (n + m ≤ s.fetch.zones.length)) = true
        ↔ 1 ≤ m ∧ m ≤ 8 ∧ n + m ≤ s.fetch.zones.length := by
      simp only [Bool.and_eq_true, decide_eq_true_eq, inRange_iff, and_assoc]
    split
    next hs => exact reading_answers h (if_pos hs)
    next hs =>
      split
      next hr => exact reading_answers h ((if_neg hs).trans (if_pos (hg.mpr hr)))
      next hr => exact reading_answers h ((if_neg hs).trans (if_neg (mt hg.mp hr)))
  case noStream => exact reading_answers h (if_neg (by omega))
  case stream =>
    refine ⟨(placeOf (·.voice == n) s.fetch.queue).bind fun i => s.fetch.queue[i]?.map fun e => (e.cls, i), ?_, ?_, ?_⟩
    · refine reading_answers h ((if_pos hn).trans ?_)
      change (Status.ok, Content.stream (s.fetch.streamReport n)) = _
      unfold Fetch.streamReport Fetch.inFlight
      simp only [b, half]
      cases s.fetch.port with
      | none => rfl
      | some r =>
        cases r with
        | load | setup => rfl
        | segment e =>
          simp only [serves_seq]
          rfl
    · intro hq
      rw [placeOf_eq_none fun e he => by simpa using hq e he]
      rfl
    · intro i e he hv hj
      have hp := placeOf_eq_some (p := fun e : FetchEntry => e.voice == n) he (by simpa using hv)
        fun j e' hlt he' => by simpa using hj j e' hlt he'
      rw [hp]
      simp [he]
  case take =>
    split
    next hid => exact reading_answers h ((Store.takeInfo_eq _ _).trans (if_pos hid))
    next hid =>
      have he := (Store.takeInfo_eq s.store n).trans (if_neg hid)
      cases ht : (s.store.takes[n - 1]?).join with
      | none => exact reading_answers h (by rw [ht] at he; exact he)
      | some tk =>
        refine reading_answers h ?_
        rw [ht] at he
        exact he

/-- Settles O9: a query only reads, so its reply is its report and the link alone changes. -/
theorem queriesAnswerWithoutChange : Obligations.QueriesAnswerWithoutChange :=
  ⟨queriesReportAndChangeNothing, namedQueriesReportOrAreRefused⟩

end Sys2Proof.Machine
end

section
/-! CAL_SET, THRESH_SET, CURVE_SET, FAULT_CLEAR and the captures (R2, R4, R5, R7, R16, R17, R21 to R24, R37). -/

namespace Sys2Proof.Machine

/-! ### A request does not see the request queue -/

theorem State.reportRail_withRequests (rest : List Frame) (why : RailReason) (s : State) :
    (s.withRequests rest).reportRail why = (s.reportRail why).withRequests rest :=
  State.withRequests_notify rest _ { s with
    scanner := s.scanner.railReport s.rail.state s.rail.config.settle
    router := { s.router with railState := s.rail.state } }

theorem State.enterRail_withRequests (rest : List Frame) (st : RailState) (why : RailReason) (s : State) :
    (s.withRequests rest).enterRail st why = (s.enterRail st why).withRequests rest := by
  unfold State.enterRail
  simp only
  change (if s.rail.state = st then _ else _) = State.withRequests rest (if s.rail.state = st then _ else _)
  split
  · rfl
  · exact State.reportRail_withRequests rest why { s with
      rail := if st = .moving ∨ st = .homing then { s.rail with state := st }
        else { s.rail with state := st, drive := .brake, duty := 0 } }

theorem State.arrive_withRequests (rest : List Frame) (why : RailReason) (s : State) :
    (s.withRequests rest).arrive why = (s.arrive why).withRequests rest := by
  have hr : (s.withRequests rest).rail.motion = s.rail.motion := rfl
  unfold State.arrive
  rw [hr]
  cases s.rail.motion with
  | none => rfl
  | some m =>
    exact State.enterRail_withRequests rest m.arrivalState why
      (({ s with rail := { s.rail with motion := none, phase := none } } : State).tally .railMoves)

theorem State.driveMove_withRequests (rest : List Frame) (why arrival : RailReason) (start : Bool) (s : State) :
    (s.withRequests rest).driveMove why arrival start = (s.driveMove why arrival start).withRequests rest := by
  have hr : (s.withRequests rest).rail = s.rail := rfl
  unfold State.driveMove
  rw [hr]
  cases s.rail.motion with
  | none => rfl
  | some m =>
    simp only
    split
    · exact s.arrive_withRequests rest arrival
    · exact State.enterRail_withRequests rest .moving why { s with
        rail := { s.rail with
          motion := some (if start then { m with lastChange := s.clock } else m)
          drive := s.rail.toward (m.targetPos.getD 0), duty := s.rail.config.moveDuty } }

theorem State.driveHome_withRequests (rest : List Frame) (why : RailReason) (s : State) :
    (s.withRequests rest).driveHome why = (s.driveHome why).withRequests rest :=
  State.enterRail_withRequests rest .homing why { s with
    rail := { s.rail.homingDrive with motion := s.rail.homingDrive.motion.map fun m => { m with lastChange := s.clock } } }

theorem State.flightEmptied_withRequests (rest : List Frame) (s : State) :
    (s.withRequests rest).flightEmptied = s.flightEmptied.withRequests rest := by
  let s' : State := { s with rail := { s.rail with occupied := false } }
  have hh := State.driveHome_withRequests rest .resumed s'
  have hm := State.driveMove_withRequests rest .resumed s'.rail.resumed.arrivalReason true { s' with rail := s'.rail.resumed }
  unfold State.flightEmptied
  change (if s.rail.state = .held then _ else _) = State.withRequests rest (if s.rail.state = .held then _ else _)
  split
  · generalize hmo : s.rail.motion = mo
    change (match s.rail.motion with | none => _ | some m => _) = _
    rw [hmo]
    cases mo with
    | none => rfl
    | some m =>
      cases hk : m.kind with
      | home => 
        simp only [hk]
        exact hh
      | move => 
        simp only [hk]
        exact hm
  · rfl

theorem State.flightEmptied_taking {s : State} (h : s.link.taking) : s.flightEmptied.link.taking := by
  obtain ⟨ns, x, m, tm, rs, r, hs⟩ := s.flightEmptied_frame
  rw [hs]
  exact h

/-- A request whose status is settled with nothing but it in the reply. -/
theorem plainly_answers {s : State} {q : Request} {f : Frame} {rest : List Frame} {t : Time} {run : State → State × Status}
    {v : State} {x : Status} (h : s.offers q f rest) (e : run ((s.upTo t).withRequests rest) = (v.withRequests rest, x))
    (l : v.link.taking) :
    (Host.Outcome.next (s.takeRequest q t (plainly run)) : Host.Outcome State Fault Refusal)
      = .next (v.answering f rest x .nothing) := by
  rw [State.takeRequest_answers (x := x) (c := .nothing) h (by simp only [plainly, e]) l]

/-- A request with content in its reply. -/
theorem request_answers {s : State} {q : Request} {f : Frame} {rest : List Frame} {t : Time}
    {run : State → State × Status × Content} {v : State} {x : Status} {c : Content} (h : s.offers q f rest)
    (e : run ((s.upTo t).withRequests rest) = (v.withRequests rest, x, c)) (l : v.link.taking) :
    (Host.Outcome.next (s.takeRequest q t run) : Host.Outcome State Fault Refusal) = .next (v.answering f rest x c) := by
  rw [State.takeRequest_answers h e l]

/-! ### CAL_SET (R2, R4, R5, R22) -/

theorem stoppedOk_iff (rest top : Nat) (x : Option Nat) :
    stoppedOk rest top x = true ↔ ∀ n, x = some n → rest < top ∧ rest < n ∨ top < rest ∧ n < rest := by
  cases x <;> simp [stoppedOk]

/-- R4: the checks of a calibration record. -/
theorem calOk_iff (c : CalRecord) :
    calOk c = true ↔
      c.keyRest ≤ 4095 ∧ c.keyBottom ≤ 4095 ∧ c.hammerRest ≤ 4095 ∧ c.hammerTop ≤ 4095
        ∧ c.keyRest ≠ c.keyBottom ∧ c.hammerRest ≠ c.hammerTop ∧ -16 ≤ c.trim ∧ c.trim ≤ 15
        ∧ ∀ x, c.hammerStopped = some x →
            x ≤ 4095 ∧ (c.hammerRest < c.hammerTop ∧ c.hammerRest < x ∨ c.hammerTop < c.hammerRest ∧ x < c.hammerRest) := by
  simp only [calOk, Bool.and_eq_true, decide_eq_true_eq, bne_iff_ne, Option.all_eq_true, stoppedOk_iff, and_assoc]
  constructor
  · rintro ⟨h1, h2, h3, h4, h5, h6, h7, h8, h9, h10⟩
    exact ⟨h1, h2, h3, h4, h6, h7, h9, h10, fun x hx => ⟨h5 x hx, h8 x hx⟩⟩
  · rintro ⟨h1, h2, h3, h4, h6, h7, h9, h10, h⟩
    exact ⟨h1, h2, h3, h4, fun x hx => (h x hx).1, h6, h7, fun x hx => (h x hx).2, h9, h10⟩

theorem State.setKey_eq (i : Nat) (k : Key) (s : State) :
    s.setKey i k = { s with scanner := { s.scanner with keys := s.scanner.keys.set i k } } := by
  unfold State.setKey
  rw [updateAt_const]

/-- The key a record comes into force for, the depths of R2 written out. -/
theorem Key.withCal_eq (c : CalRecord) (k : Key) :
    k.withCal c = { k with
      cal := c, staged := none
      keyDepth := match k.keyGood with | some g => depthOf c.keyRest c.keyBottom g.raw | none => k.keyDepth
      hammerDepth := match k.hammerGood with
        | some g => depthOf c.hammerRest (hammerTopOf c k.scale) g.raw | none => k.hammerDepth } := by
  unfold Key.withCal
  cases k.keyGood <;> cases k.hammerGood <;> rfl

theorem State.calSet_refused (s : State) {i : Nat} {c : CalRecord} (h : 87 < i ∨ calOk c = false) :
    s.calSet i c = (s, .badArgument) := by
  have hb : (!(keyOk i && calOk c)) = true := by
    obtain h | h := h
    · simp [keyOk_of_gt h]
    · simp [h]
  rw [State.calSet, if_pos hb]

theorem State.calSet_settles (s : State) {i : Nat} {c : CalRecord} (hi : i ≤ 87) (hc : calOk c = true) :
    s.calSet i c = ((s.settleCal i c).1, if (s.settleCal i c).2 then .applied else .staged) := by
  simp [State.calSet, keyOk_of_le hi, hc]

theorem State.settleCal_staged {s : State} {i : Nat} {k : Key} (c : CalRecord) (hk : s.key? i = some k) (hr : k.state ≠ .rest) :
    s.settleCal i c = (s.setKey i { k with staged := some c }, false) := by
  simp [State.settleCal, hk, hr]

theorem State.settleCal_applied {s : State} {i : Nat} {k : Key} (c : CalRecord) (hk : s.key? i = some k) (hr : k.state = .rest) :
    s.settleCal i c = ((k.applyCal c).2.foldl (State.perform s.clock) (s.setKey i (k.applyCal c).1), true) := by
  simp [State.settleCal, hk, hr]

/-- R5: a record under which a key stays enabled, or becomes so. -/
theorem Key.applyCal_enabled {c : CalRecord} (hc : c.enabled = true) (k : Key) :
    k.applyCal c = (if k.cal.enabled then k.withCal c else { k.withCal c with keyGood := none, hammerGood := none }, []) := by
  simp only [Key.applyCal, hc, Bool.not_true, Bool.false_eq_true, if_false]
  split <;> rfl

/-- R22: a record that disables a key. -/
theorem Key.applyCal_disabled {c : CalRecord} (hc : c.enabled = false) (k : Key) : k.applyCal c = (k.withCal c).disable := by
  simp [Key.applyCal, hc]

theorem calSetIsAppliedOrStaged : Claims.CalSetIsAppliedOrStaged := by
  intro s t f rest i k c h hi hk hc u put new
  have hl := State.offers_taking t h
  have hnew : k.withCal c = new := k.withCal_eq c
  have answers {k' : Key} {b : Bool}
      (e : ((s.upTo t).withRequests rest).settleCal i c = (((s.upTo t).withRequests rest).setKey i k', b)) :
      exec (.calSet t i c) s = put k' (if b then .applied else .staged) := by
    refine plainly_answers h ?_ hl
    rw [State.calSet_settles _ hi hc, e, State.setKey_eq]
    rfl
  have hk' : ((s.upTo t).withRequests rest).key? i = some k := hk
  refine ⟨fun hr => answers (State.settleCal_staged c hk' hr), fun hr he hce => ?_, fun hr he hce => ?_⟩
  · have ha := State.settleCal_applied c hk' hr
    rw [Key.applyCal_enabled hce, if_pos he, hnew] at ha
    exact answers ha
  · have ha := State.settleCal_applied c hk' hr
    rw [Key.applyCal_enabled hce, he, hnew] at ha
    exact answers ha

theorem calSetChecksTheRecord : Claims.CalSetChecksTheRecord := by
  refine ⟨calOk_iff, fun s t f rest i c h hbad => ?_⟩
  exact plainly_answers h (State.calSet_refused _ hbad) (State.offers_taking t h)

theorem disablingAKeyEndsItsFlight : Claims.DisablingAKeyEndsItsFlight := by
  intro s t f rest i k c h hi hk hc hce hr u off v
  have hl := State.offers_taking t h
  have hoff : (k.withCal c).disable = (off, if k.flight.isSome then [.flightRemoved] else []) := by
    have hoffAtRest : off = { off with state := .rest } := by
      rw [← hr]
    rw [Key.withCal_eq, hoffAtRest]
    rfl
  have hset : ((s.upTo t).withRequests rest).setKey i off = v.withRequests rest := by rw [State.setKey_eq]; rfl
  have hno : v.scanner.noFlight = true ↔ ∀ x ∈ s.scanner.keys.set i off, x.flight = none := by
    change (s.scanner.keys.set i off).all (fun k => k.flight.isNone) = true ↔ _
    simp
  have hsettle := State.settleCal_applied (s := (s.upTo t).withRequests rest) c hk hr
  rw [Key.applyCal_disabled hce, hoff, hset] at hsettle
  refine plainly_answers h ?_ ?_
  · rw [State.calSet_settles _ hi hc, hsettle]
    refine Prod.ext ?_ rfl
    cases hf : k.flight with
    | none => simp
    | some fl =>
      change (if v.scanner.noFlight then (v.withRequests rest).flightEmptied else v.withRequests rest) = _
      rw [State.flightEmptied_withRequests]
      simp only [Option.isSome_some, true_and, ← hno]
      exact (apply_ite (State.withRequests rest) _ _ _).symm
  · split
    · exact State.flightEmptied_taking hl
    · exact hl

/-- Settles O17, by the key's state and whether the record enables it. -/
theorem calSetIsSettledByTheKey : Obligations.CalSetIsSettledByTheKey :=
  ⟨calSetIsAppliedOrStaged, calSetChecksTheRecord, disablingAKeyEndsItsFlight⟩

/-! ### THRESH_SET (R7) and CURVE_SET (R16, R17) -/

/-- R7: the orderings of a threshold set. -/
theorem thrOk_iff (x : Thresholds) :
    thrOk x = true ↔ 0 < x.rest ∧ x.rest < x.start ∧ x.start < x.damper ∧ x.damper < x.rearm ∧ x.rearm ≤ x.kA ∧ x.kA < x.kB
      ∧ x.kB ≤ 1000 ∧ x.hRest < x.freeA ∧ x.freeA < x.freeB ∧ x.freeB ≤ 1000 ∧ x.hRest < x.stoppedA
      ∧ x.stoppedA < x.stoppedB ∧ x.stoppedB ≤ 1000 := by
  simp only [thrOk, Bool.and_eq_true, decide_eq_true_eq, and_assoc]

theorem State.threshSet_refused {x : Thresholds} (h : thrOk x = false) (s : State) :
    s.threshSet x = (s, .badArgument, .nothing) := by
  simp [State.threshSet, h]

/-- R7: the state with a new threshold set, the keys at REST having adopted it. -/
def State.withThresholds (x : Thresholds) (s : State) : State :=
  { s with scanner := { s.scanner with
      thr := x, keys := s.scanner.keys.map fun k => if k.state = .rest then { k with thr := x } else k } }

theorem State.threshSet_ok {x : Thresholds} (h : thrOk x = true) (s : State) :
    s.threshSet x = (s.withThresholds x, .ok, .count (s.withThresholds x).scanner.waiting) := by
  simp [State.threshSet, State.withThresholds, h]

theorem threshSetIsAdoptedAtRest : Claims.ThreshSetIsAdoptedAtRest := by
  intro s t f rest x h u ok keys
  have hl := State.offers_taking t h
  constructor
  · intro hno
    have hx : thrOk x = false := by rw [Bool.eq_false_iff, ne_eq, thrOk_iff]; exact hno
    exact request_answers h (State.threshSet_refused hx _) hl
  · intro hok
    refine request_answers (v := u.withThresholds x) h ?_ hl
    rw [State.threshSet_ok ((thrOk_iff x).2 hok)]
    rfl

theorem risingTimes_iff (ps : List CurvePoint) : risingTimes ps = true ↔ (ps.map (·.time)).Pairwise (· < ·) := by
  rw [← List.isChain_iff_pairwise]
  induction ps with
  | nil => simp [risingTimes]
  | cons p ps ih =>
    cases ps with
    | nil => simp [risingTimes]
    | cons q qs => simpa [risingTimes] using fun _ => ih

/-- R17: the points of a curve. -/
theorem curveOk_iff (ps : List CurvePoint) :
    curveOk ps = true ↔ (∀ p ∈ ps, 1 ≤ p.time ∧ p.time ≤ 1000000 ∧ 1 ≤ p.velocity ∧ p.velocity ≤ 127)
      ∧ (ps.map (·.time)).Pairwise (· < ·) := by
  simp only [curveOk, Bool.and_eq_true, List.all_eq_true, inRange_iff, risingTimes_iff, and_assoc]

theorem State.curveSet_refused {ps : List CurvePoint} (h : curveOk ps = false) (c : Curve) (s : State) :
    s.curveSet c ps = (s, .badArgument) := by
  simp [State.curveSet, h]

theorem curveSetReplacesTheCurve : Claims.CurveSetReplacesTheCurve := by
  intro s t f rest ps h u answer ok
  have hl := State.offers_taking t h
  have hnone : exec (.curveSet t none ps) s = answer u .badArgument := plainly_answers h rfl hl
  refine ⟨hnone, fun hno c => ?_, fun hok => ?_⟩
  · cases c with
    | none => exact hnone
    | some c =>
      have hps : curveOk ps = false := by rw [Bool.eq_false_iff, ne_eq, curveOk_iff]; exact hno
      exact plainly_answers h (State.curveSet_refused hps c _) hl
  · have hps : curveOk ps = true := (curveOk_iff ps).2 hok
    exact ⟨plainly_answers h (by simp only [State.curveSet, hps]; rfl) hl,
      plainly_answers h (by simp only [State.curveSet, hps]; rfl) hl⟩

/-- Settles O18: each request checks its operand and then replaces what it names. -/
theorem thresholdsAndCurvesAreSet : Obligations.ThresholdsAndCurvesAreSet :=
  ⟨threshSetIsAdoptedAtRest, curveSetReplacesTheCurve⟩

end Sys2Proof.Machine
end

section
/-! FAULT_CLEAR and the captures (R21, R23, R24, R37). -/

namespace Sys2Proof.Machine

/-! ### FAULT_CLEAR (R21, R37) -/

theorem State.faultClear_key (s : State) {i : Nat} {k : Key} (hi : i ≤ 87) (hk : s.scanner.keys[i]? = some k) :
    s.faultClear (.key i) = if k.state = .faulted then (s.setKey i k.clearFault, .ok) else (s, .refusedState) := by
  simp [State.faultClear, keyOk_of_le hi, State.key?, hk]

theorem State.faultClear_noKey (s : State) {i : Nat} (hi : 87 < i) : s.faultClear (.key i) = (s, .badArgument) := by
  simp [State.faultClear, keyOk_of_gt hi]

theorem faultClearEndsAFault : Claims.FaultClearEndsAFault := by
  intro s t f rest h u answer
  have hl := State.offers_taking t h
  refine ⟨fun i k hi hk => ?_, fun i hi => ?_, ?_, fun p => ?_⟩
  · intro k'
    have hc := State.faultClear_key ((s.upTo t).withRequests rest) hi hk
    split
    next hf =>
      refine plainly_answers h ?_ hl
      rw [hc, if_pos hf, State.setKey_eq]
      rfl
    next hf =>
      refine plainly_answers h ?_ hl
      rw [hc, if_neg hf]
  · exact plainly_answers h (State.faultClear_noKey _ hi) hl
  · exact plainly_answers h rfl hl
  · intro x
    split
    next hf => exact plainly_answers h (if_pos hf) hl
    next hf => exact plainly_answers h (if_neg hf) hl

/-! ### The samples of a capture (R23) -/

theorem faultRaw_iff (raw : Nat) : faultRaw raw = true ↔ ¬(16 ≤ raw ∧ raw ≤ 4079) := by
  simp only [faultRaw, Bool.or_eq_true, decide_eq_true_eq]
  omega

theorem faultRaw_of_good {raw : Nat} (h : 16 ≤ raw ∧ raw ≤ 4079) : faultRaw raw = false := by
  rw [Bool.eq_false_iff, ne_eq, faultRaw_iff, not_not]
  exact h

theorem faultRaw_of_bad {raw : Nat} (h : ¬(16 ≤ raw ∧ raw ≤ 4079)) : faultRaw raw = true := (faultRaw_iff raw).2 h

theorem capturesKeepTheFarthestRaw : Claims.CapturesKeepTheFarthestRaw := by
  intro raw a b x y gap good
  refine ⟨fun h => ?_, fun h => ?_, fun h => ?_⟩
  · simp [captureRaw, faultRaw_of_bad h]
  · simp [captureRaw, faultRaw_of_good h]
  · simp only [captureRaw, faultRaw_of_good h, Bool.false_eq_true, if_false, apply_ite some]
    rfl

/-! ### The records of a capture (R24) -/

theorem stoppedIf_eq_filter (hs hf : Nat) (x : Option Nat) :
    (if stoppedOk hs hf x then x else none) = x.filter fun n => decide (hs < hf ∧ hs < n) || decide (hf < hs ∧ n < hs) := by
  cases x with
  | none => rfl
  | some n => simp [stoppedOk, Option.filter]

/-- A key whose capture record has been discarded. -/
def Key.discard (k : Key) : Key := { k with capture := none }

/-- R5: a key after a record has been settled for it. -/
def Key.settled (c : CalRecord) (k : Key) : Key := if k.state = .rest then (k.applyCal c).1 else { k with staged := some c }

theorem Key.settled_atRest (c : CalRecord) {k : Key} (h : k.state = .rest) : k.settled c = (k.applyCal c).1 := if_pos h

theorem Key.settled_elsewhere (c : CalRecord) {k : Key} (h : k.state ≠ .rest) : k.settled c = { k with staged := some c } :=
  if_neg h

/-- R24: a key at the end of a capture. -/
def Key.endCapture (k : Key) : Key := k.captured.elim k.discard fun c => k.discard.settled c

theorem Key.captured_enabled {k : Key} {c : CalRecord} (h : k.captured = some c) : c.enabled = k.cal.enabled := by
  obtain ⟨x, -, hx⟩ := Option.bind_eq_some_iff.1 h
  split at hx
  · split at hx
    · cases hx; rfl
    · cases hx
  · cases hx

/-- R22: a record that leaves a disabled key disabled finds no flight record to remove. -/
theorem Key.applyCal_noActs {k : Key} {c : CalRecord} (h : c.enabled = false → k.flight = none) : (k.applyCal c).2 = [] := by
  cases hc : c.enabled with
  | true =>
    rw [Key.applyCal_enabled hc]
  | false =>
    have hf : (k.withCal c).flight = none := h hc
    simp [Key.applyCal_disabled hc, Key.disable, hf]

theorem State.settleCal_quiet {s : State} {i : Nat} {k : Key} {c : CalRecord} (hk : s.key? i = some k)
    (h : c.enabled = false → k.flight = none) : s.settleCal i c = (s.setKey i (k.settled c), k.state == .rest) := by
  by_cases hr : k.state = .rest
  · rw [State.settleCal_applied c hk hr, Key.applyCal_noActs h, Key.settled_atRest c hr, hr]
    rfl
  · rw [State.settleCal_staged c hk hr, Key.settled_elsewhere c hr, beq_eq_false_iff_ne.2 hr]

/-- A state with its keys replaced. -/
def State.withKeys (keys : List Key) (s : State) : State := { s with scanner := { s.scanner with keys } }

theorem State.setKey_withKeys (i : Nat) (k : Key) (keys : List Key) (s : State) :
    (s.withKeys keys).setKey i k = s.withKeys (keys.set i k) := State.setKey_eq i k (s.withKeys keys)

/-- R24: the records of the keys after `pre`, settled one after another. -/
theorem State.settleAll_captured (s : State) (ks pre : List Key) (h : ∀ k ∈ ks, k.cal.enabled = false → k.flight = none) :
    ((s.withKeys (pre ++ ks.map Key.discard)).settleAll
        ((numbered pre.length ks).filterMap fun x => x.2.captured.map fun c => (x.1, c)))
      = (s.withKeys (pre ++ ks.map Key.endCapture), ks.countP (fun k => k.captured.isSome && k.state == .rest),
          ks.countP fun k => k.captured.isSome && k.state != .rest) := by
  induction ks generalizing pre with
  | nil => rfl
  | cons k ks ih =>
    have hk := h k List.mem_cons_self
    have ih' := ih (pre ++ [k.endCapture]) fun k' hk' => h k' (List.mem_cons_of_mem _ hk')
    simp only [List.length_append, List.length_cons, List.length_nil, List.append_assoc, List.singleton_append,
      zero_add] at ih'
    cases hc : k.captured with
    | none =>
      have he : k.endCapture = k.discard := by simp [Key.endCapture, hc]
      rw [he] at ih'
      simp [numbered, hc, ih', he]
    | some c =>
      have he : k.endCapture = k.discard.settled c := by simp [Key.endCapture, hc]
      have hget : (s.withKeys (pre ++ k.discard :: ks.map Key.discard)).key? pre.length = some k.discard := by
        simp [State.withKeys, State.key?]
      have hq : c.enabled = false → k.discard.flight = none := fun hce => hk ((Key.captured_enabled hc).symm.trans hce)
      have hstep : (s.withKeys (pre ++ k.discard :: ks.map Key.discard)).settleCal pre.length c
          = (s.withKeys (pre ++ k.endCapture :: ks.map Key.discard), k.state == .rest) := by
        rw [State.settleCal_quiet hget hq, State.setKey_withKeys, he]
        simp [Key.discard]
      simp only [numbered, List.filterMap_cons, hc, Option.map_some, List.map_cons, State.settleAll, hstep, ih']
      cases hr : k.state == .rest <;> simp [hc, bne, hr]

theorem Scanner.capturedRecords_length (sc : Scanner) :
    sc.capturedRecords.length = sc.keys.countP fun k => k.captured.isSome := by
  have h (i : Nat) (ks : List Key) :
      ((numbered i ks).filterMap fun x => x.2.captured.map fun c => (x.1, c)).length = ks.countP (·.captured.isSome) := by
    induction ks generalizing i with
    | nil => rfl
    | cons k ks ih => cases hc : k.captured <;> simp [numbered, hc, ih]
  exact h 0 sc.keys

/-- R24: CAPTURE_END while a capture runs. -/
theorem State.captureEnd_running {s : State} (hc : s.scanner.capturing = true) (hd : s.disabledStill) :
    s.captureEnd = ({ s with scanner := { s.scanner with capturing := false, keys := s.scanner.keys.map Key.endCapture } }, .ok,
      .captureCounts (s.scanner.keys.countP fun k => k.captured.isSome)
        (s.scanner.keys.countP fun k => k.captured.isSome && k.state == .rest)
        (s.scanner.keys.countP fun k => k.captured.isSome && k.state != .rest)) := by
  have hall := State.settleAll_captured { s with scanner := { s.scanner with capturing := false } } s.scanner.keys [] hd
  have hrun : ({ s with scanner := s.scanner.endCapture } : State).settleAll s.scanner.capturedRecords = _ := hall
  simp only [State.captureEnd, hc, hrun, Scanner.capturedRecords_length, Bool.not_true, Bool.false_eq_true, if_false]
  rfl

/-- The key a captured record is applied to, written out. -/
theorem Key.applyCal_captured {k : Key} {c : CalRecord} (h : c.enabled = k.cal.enabled) :
    (k.applyCal c).1 = if k.cal.enabled then k.withCal c else ((k.withCal c).disable).1 := by
  cases he : k.cal.enabled with
  | true => rw [Key.applyCal_enabled (h.trans he), he]; rfl
  | false => rw [Key.applyCal_disabled (h.trans he)]; rfl

theorem capturesBeginAndEnd : Claims.CapturesBeginAndEnd := by
  intro s t f rest u answer with1 gap record applied ended number
  have hrecord (k : Key) : record k = k.captured := by
    simp only [record, Key.captured]
    rcases k.capture with - | ⟨- | ks, - | kf, - | hs, - | hf⟩ <;> try rfl
    simp only [Option.bind_some, stoppedIf_eq_filter]
    rfl
  have hended (k : Key) : ended k = k.endCapture := by
    simp only [ended, hrecord, Key.endCapture]
    cases hc : k.captured with
    | none => rfl
    | some c =>
      by_cases hr : k.state = .rest
      · have hd : k.discard.state = .rest := hr
        simp only [hr, if_true, Option.elim_some, Key.settled_atRest c hd]
        rw [Key.applyCal_captured (k := k.discard) (show c.enabled = k.cal.enabled from Key.captured_enabled hc), Key.withCal_eq]
        simp only [applied, Key.disable, hr, hd]
        rfl
      · have hd : k.discard.state ≠ .rest := hr
        simp only [hr, if_false, Option.elim_some, Key.settled_elsewhere c hd]
        rfl
  have hnumber (p : Key → Bool) : number p = s.scanner.keys.countP fun k => k.captured.isSome && p k := by
    simp only [number, hrecord]
  refine ⟨fun hc h => ?_, fun hc h => ?_, fun hc h => ?_, fun hc h => ?_, fun hc h => ?_, fun hc hd h => ?_⟩
  · exact plainly_answers h (if_pos hc) (State.offers_taking t h)
  · exact plainly_answers h (if_neg (Bool.eq_false_iff.1 hc)) (State.offers_taking t h)
  · exact plainly_answers h (if_pos hc) (State.offers_taking t h)
  · exact plainly_answers h (if_neg (Bool.eq_false_iff.1 hc)) (State.offers_taking t h)
  · exact request_answers h (if_pos (by rw [Bool.not_eq_true']; exact hc)) (State.offers_taking t h)
  · refine request_answers h ?_ (State.offers_taking t h)
    refine (State.captureEnd_running (s := (s.upTo t).withRequests rest) hc hd).trans ?_
    simp only [hnumber, Bool.and_true, funext hended]
    rfl

/-- Settles O19; CAPTURE_END by induction over the keys still to be settled. -/
theorem faultsAreClearedAndCapturesRun : Obligations.FaultsAreClearedAndCapturesRun :=
  ⟨faultClearEndsAFault, capturesBeginAndEnd, capturesKeepTheFarthestRaw⟩

end Sys2Proof.Machine
end

section
/-! What a scan frame makes of each key and pedal (R1 to R3, R5, R6, R9, R10, R20 to R23, R28, R31 to R37). -/

namespace Sys2Proof.Machine

/-! ### Samples and depths (R1, R2) -/

/-- R1: the fault samples. -/
theorem faultRaw_eq (raw : Nat) : faultRaw raw = decide (raw < 16 ∨ 4079 < raw) := by
  simp [faultRaw]

/-- A quotient of a difference, clamped to 0 to 1000, in `Int` and in `Nat`. -/
theorem clamp_scaled (a b c d : Nat) (h : d < c) :
    (min 1000 (max 0 (((a : Int) - b) * 1000 / ((c : Int) - d)))).toNat = min 1000 ((a - b) * 1000 / (c - d)) := by
  obtain ⟨e, rfl⟩ := Nat.exists_eq_add_of_lt h
  have hden : ((d + e + 1 : Nat) : Int) - d = ((e + 1 : Nat) : Int) := by push_cast; ring
  rw [hden, show d + e + 1 - d = e + 1 by omega]
  obtain hab | hab := Nat.le_total b a
  · obtain ⟨n, rfl⟩ := Nat.exists_eq_add_of_le hab
    have hnum : (((b + n : Nat) : Int) - b) * 1000 = ((n * 1000 : Nat) : Int) := by push_cast; ring
    rw [hnum, ← Int.natCast_ediv, Nat.add_sub_cancel_left]
    generalize n * 1000 / (e + 1) = q
    omega
  · have hneg : ((a : Int) - b) * 1000 / ((e + 1 : Nat) : Int) ≤ 0 :=
      Int.ediv_nonpos_of_nonpos_of_neg (by omega) (by omega)
    rw [Nat.sub_eq_zero_of_le hab, Nat.zero_mul, Nat.zero_div]
    omega

theorem depthsAreLinearClampedAndRoundedDown : Claims.DepthsAreLinearClampedAndRoundedDown := by
  intro rest full raw clamp
  refine ⟨fun h => ?_, fun h => ?_⟩
  · rw [depthOf, if_pos h]
    exact (clamp_scaled raw rest full rest h).symm
  · rw [depthOf, if_neg h.not_gt]
    exact (clamp_scaled rest raw rest full h).symm

/-! ### The beginning of a key's frame (R5, R6, R21 to R23) -/

/-- R6, R23: a key in a frame, its capture record and its adoptions taken. -/
def Key.begun (x : FrameSet) (kr hr : Nat) (k : Key) : Key := (k.capture1 x kr hr).adopt x

theorem Key.frame_faulted_key (x : FrameSet) (kr hr : Nat) {k : Key} (h : k.state = .faulted) :
    k.frame x kr hr = (k.begun x kr hr, []) :=
  if_pos ((k.begun_flight x kr hr).2.1.trans h)

theorem Key.frame_working_key (x : FrameSet) (kr hr : Nat) {k : Key} (h : k.state ≠ .faulted) :
    k.frame x kr hr =
      if (k.begun x kr hr).cal.enabled then (k.begun x kr hr).sense x kr hr else (k.begun x kr hr).disable :=
  if_neg fun h' => h ((k.begun_flight x kr hr).2.1.symm.trans h')

theorem Key.capture1_eq (x : FrameSet) (kr hr : Nat) (k : Key) :
    k.capture1 x kr hr = { k with
      capture := if x.capturing then k.capture.map (·.frame kr hr) else k.capture } := by
  unfold Key.capture1
  split <;> rfl

/-- R6: a key that is not at REST adopts nothing. -/
theorem Key.begun_elsewhere (x : FrameSet) (kr hr : Nat) {k : Key} (h : k.state ≠ .rest) :
    k.begun x kr hr = k.capture1 x kr hr := by
  rw [Key.begun, Key.capture1_eq]
  exact if_neg h

/-- R6: a key at REST adopts its staged record, the thresholds and the target mode with its scale. -/
theorem Key.begun_atRest (x : FrameSet) (kr hr : Nat) {k : Key} (h : k.state = .rest) :
    k.begun x kr hr = { k.staged.elim (k.capture1 x kr hr) (k.capture1 x kr hr).withCal with
      thr := x.thr, mode := x.target, scale := x.target.scale } := by
  rw [Key.begun, Key.capture1_eq]
  exact if_pos h

/-- R5, R6: the record in force in a key's frame. -/
theorem Key.begun_cal (x : FrameSet) (kr hr : Nat) (k : Key) :
    (k.begun x kr hr).cal = if k.state = .rest then k.staged.getD k.cal else k.cal := by
  split
  next h =>
    rw [Key.begun_atRest x kr hr h, Key.capture1_eq]
    cases k.staged <;> rfl
  next h => rw [Key.begun_elsewhere x kr hr h, Key.capture1_eq]

theorem keysAdoptAtRest : Claims.KeysAdoptAtRest := by
  intro x kr hr k k1 settled k2
  have hk1 : k.capture1 x kr hr = k1 := k.capture1_eq x kr hr
  have hsettled : k.staged.elim k1 k1.withCal = settled := by
    cases hc : k.staged with
    | none => simp only [settled, hc, Option.elim_none]
    | some c => simp only [settled, hc, Option.elim_some, Key.withCal_eq]; rfl
  have hk2 : k.begun x kr hr = k2 := by
    by_cases h : k.state = .rest
    · rw [Key.begun_atRest x kr hr h, hk1, hsettled]
      simp only [k2, if_pos h]
      cases x.target <;> rfl
    · rw [Key.begun_elsewhere x kr hr h, hk1]
      simp only [k2, if_neg h]
  refine ⟨fun h => ?_, fun h he => ?_, fun h he => ?_⟩
  · rw [Key.frame_faulted_key x kr hr h, Key.begun_elsewhere x kr hr (by simp [h]), hk1]
  · have hf : k2.flight = k.flight := hk2 ▸ (k.begun_flight x kr hr).1
    rw [Key.frame_working_key x kr hr h, hk2, he, Key.disable, hf]
    cases k.flight <;> rfl
  · rw [Key.frame_working_key x kr hr h, hk2, he]
    rfl

/-! ### A key's samples (R1 to R3, R9, R10, R20) -/

theorem Key.sense_faults (x : FrameSet) (kr hr : Nat) {k : Key} (h : (k.countFaults kr hr).fails = true) :
    k.sense x kr hr = (k.countFaults kr hr).fault x kr hr := if_pos h

/-- R10: the key moves, is demoted, and takes its transitions. -/
def Key.runs (x : FrameSet) (km hm : Motion1) (k : Key) : Key × List KeyAct :=
  let r := k.moves x km hm
  let r' := (r.1.demote x).chain x km hm 8 []
  (r'.1, r.2 ++ r'.2)

theorem Key.sense_works (x : FrameSet) (kr hr : Nat) {k : Key} (h : (k.countFaults kr hr).fails = false) :
    k.sense x kr hr =
      let r := (k.countFaults kr hr).runs x (motionOf (keyDepthOf k.cal) k.keyGood kr)
        (motionOf (hammerDepthOf k.cal k.scale) k.hammerGood hr)
      (r.1.keepGood x kr hr, r.2) := if_neg (by rw [h]; decide)

theorem keysAreSensed : Claims.KeysAreSensed := by
  intro x kr hr k bad n m counted km top hm moved demoted chained
  have hn : faultCount k.keyFaults kr = n := by simp only [faultCount, faultRaw_eq, decide_eq_true_eq]; rfl
  have hm' : faultCount k.hammerFaults hr = m := by simp only [faultCount, faultRaw_eq, decide_eq_true_eq]; rfl
  have hcounted : k.countFaults kr hr = counted := by rw [Key.countFaults, hn, hm']
  have hfails : (k.countFaults kr hr).fails = true ↔ 8 ≤ n ∨ 8 ≤ m := by
    rw [hcounted]
    simp [Key.fails, counted]
  have hcur (raw d : Nat) : (if faultRaw raw then none else some d) = if bad raw then none else some d := by
    simp only [faultRaw_eq, decide_eq_true_eq]
    rfl
  have hkm : motionOf (keyDepthOf k.cal) k.keyGood kr = km := by
    rw [motionOf, hcur]
    simp only [km]
    cases k.keyGood <;> rfl
  have hhm : motionOf (hammerDepthOf k.cal k.scale) k.hammerGood hr = hm := by
    rw [motionOf, hcur]
    simp only [hm]
    cases k.hammerGood <;> rfl
  refine ⟨fun h => ?_, fun h1 h2 => ?_⟩
  · rw [Key.sense_faults x kr hr (hfails.2 h), hcounted, Key.fault]
    cases k.flight <;> simp [counted]
  · have hw : (k.countFaults kr hr).fails = false := by
      rw [Bool.eq_false_iff, ne_eq, hfails]
      omega
    rw [Key.sense_works x kr hr hw, hcounted, hkm, hhm]
    simp only [Key.keepGood, faultRaw_eq, decide_eq_true_eq]
    rfl

/-! ### What a frame's transitions leave as it is -/

/-- What moving and the transitions do not touch. -/
structure Key.sameSensing (k' k : Key) : Prop where
  cal : k'.cal = k.cal
  scale : k'.scale = k.scale
  keyDepth : k'.keyDepth = k.keyDepth
  hammerDepth : k'.hammerDepth = k.hammerDepth
  keyFaults : k'.keyFaults = k.keyFaults
  hammerFaults : k'.hammerFaults = k.hammerFaults

theorem Key.sameSensing.trans {a b c : Key} (h : a.sameSensing b) (h' : b.sameSensing c) : a.sameSensing c :=
  ⟨h.cal.trans h'.cal, h.scale.trans h'.scale, h.keyDepth.trans h'.keyDepth, h.hammerDepth.trans h'.hammerDepth,
    h.keyFaults.trans h'.keyFaults, h.hammerFaults.trans h'.hammerFaults⟩

/-- An update of the fields that `sameSensing` leaves open. -/
theorem Key.sameSensing_update (k : Key) (st : KeyState) (m : Mode) (a b : Option Time) (r : Nat) (f : Option Flight)
    (q : Quality) :
    ({ k with state := st, mode := m, aTimeKey := a, aTimeHammer := b, returns := r, flight := f, quality := q } : Key).sameSensing
      k := by
  constructor <;> rfl

theorem Key.sameSensing_refl (k : Key) : k.sameSensing k := by constructor <;> rfl

theorem Key.strikes_sameSensing (x : FrameSet) (km hm : Motion1) (again : Bool) (k : Key) :
    (k.strikes x km hm again).1.sameSensing k := by
  unfold Key.strikes
  split
  · exact k.sameSensing_refl
  · exact k.sameSensing_update ..

theorem Key.takes_sameSensing (x : FrameSet) (km hm : Motion1) (k : Key) (t : Trans) : (k.takes x km hm t).1.sameSensing k := by
  cases t with
  | strike => exact k.strikes_sameSensing x km hm false
  | restrike => exact k.strikes_sameSensing x km hm true
  | press | silent | lift | release | toRest | repress => exact k.sameSensing_update ..

theorem Key.demote_sameSensing (x : FrameSet) (k : Key) : (k.demote x).sameSensing k := by
  unfold Key.demote
  split
  · exact k.sameSensing_update ..
  · exact k.sameSensing_refl

theorem Key.chain_sameSensing (x : FrameSet) (km hm : Motion1) (n : Nat) (taken : List Trans) (k : Key) :
    (k.chain x km hm n taken).1.sameSensing k := by
  induction n generalizing taken k with
  | zero => exact k.sameSensing_refl
  | succ n ih =>
    unfold Key.chain
    split
    · exact k.sameSensing_refl
    next t _ => exact (ih _ _).trans ((Key.demote_sameSensing ..).trans (k.takes_sameSensing x km hm t))

theorem Key.hammerMoves_sameSensing (x : FrameSet) (m : Motion1) (d : Nat) (k : Key) :
    (k.hammerMoves x m d).1.sameSensing k := by
  unfold Key.hammerMoves
  split
  · split
    · exact k.sameSensing_update ..
    · exact k.sameSensing_refl
  · simp only
    split_ifs <;> exact k.sameSensing_update ..

/-- R10: after the frame the key stands at the depths of its sensors. -/
theorem Key.runs_sameSensing (x : FrameSet) (km hm : Motion1) (k : Key) :
    (k.runs x km hm).1.sameSensing { k with keyDepth := km.depth k.keyDepth, hammerDepth := hm.depth k.hammerDepth } := by
  refine (Key.chain_sameSensing ..).trans ((Key.demote_sameSensing ..).trans ?_)
  unfold Key.moves
  simp only
  split
  · constructor <;> rfl
  · exact (Key.hammerMoves_sameSensing ..).trans (by constructor <;> rfl)

/-- R1, R2: an enabled, working key after a frame of good samples. -/
theorem Key.frame_goodSamples (x : FrameSet) {kr hr : Nat} {k : Key} (h : k.state ≠ .faulted)
    (hk : 16 ≤ kr ∧ kr ≤ 4079) (hh : 16 ≤ hr ∧ hr ≤ 4079) {c : CalRecord} (hc : (k.begun x kr hr).cal = c)
    (he : c.enabled = true) :
    let k' := (k.frame x kr hr).1
    k'.cal = c ∧ k'.keyGood = some { raw := kr, time := x.now } ∧ k'.hammerGood = some { raw := hr, time := x.now }
      ∧ k'.keyDepth = depthOf c.keyRest c.keyBottom kr ∧ k'.hammerDepth = depthOf c.hammerRest (hammerTopOf c k'.scale) hr
      ∧ k'.keyFaults = 0 ∧ k'.hammerFaults = 0 := by
  have hfk := faultRaw_of_good hk
  have hfh := faultRaw_of_good hh
  have hw : ((k.begun x kr hr).countFaults kr hr).fails = false := by simp [Key.countFaults, Key.fails, faultCount, hfk, hfh]
  rw [Key.frame_working_key x kr hr h, hc, he, if_pos rfl, Key.sense_works x kr hr hw, hc]
  obtain ⟨hcal, hscale, hkd, hhd, hkf, hhf⟩ := Key.runs_sameSensing x (motionOf (keyDepthOf c) (k.begun x kr hr).keyGood kr)
    (motionOf (hammerDepthOf c (k.begun x kr hr).scale) (k.begun x kr hr).hammerGood hr) ((k.begun x kr hr).countFaults kr hr)
  refine ⟨hcal.trans hc, ?_, ?_, hkd.trans ?_, hhd.trans ?_, hkf.trans ?_, hhf.trans ?_⟩
  · simp [Key.keepGood, hfk]
  · simp [Key.keepGood, hfh]
  · simp [motionOf, hfk, Motion1.depth, keyDepthOf]
  · simp only [Key.keepGood, hscale]
    simp [motionOf, hfh, Motion1.depth, hammerDepthOf, Key.countFaults]
  · simp [Key.countFaults, faultCount, hfk]
  · simp [Key.countFaults, faultCount, hfh]

/-- R20: the eighth fault sample of the key sensor, away from REST. -/
theorem Key.frame_eighthFault (x : FrameSet) {kr : Nat} (hr : Nat) {k : Key} (h : k.state ≠ .faulted) (h' : k.state ≠ .rest)
    (he : k.cal.enabled = true) (hf : k.keyFaults = 7) (hk : kr < 16 ∨ 4079 < kr) :
    let k' := (k.frame x kr hr).1
    k'.state = .faulted ∧ k'.aTimeKey = none ∧ k'.aTimeHammer = none ∧ k'.flight = none := by
  have hb : k.begun x kr hr = _ := (Key.begun_elsewhere x kr hr h').trans (k.capture1_eq x kr hr)
  have hw : ((k.begun x kr hr).countFaults kr hr).fails = true := by
    rw [hb]
    simp [Key.countFaults, Key.fails, faultCount, faultRaw_eq, hk, hf]
  rw [Key.frame_working_key x kr hr h, Key.sense_faults x kr hr hw, if_pos (by rw [hb]; exact he)]
  exact ⟨rfl, rfl, rfl, rfl⟩

/-! ### The keys of a scan frame (R10) -/

@[simp] theorem State.perform_clock (t : Time) (s : State) (a : KeyAct) : (s.perform t a).clock = s.clock := by
  have hr : s.flightEmptied.clock = s.clock := by
    obtain ⟨ns, x, m, tm, rs, r, h⟩ := s.flightEmptied_frame
    rw [h]
  cases a with
  | flightAdded =>
    obtain ⟨ns, x, m, tm, rs, r, h⟩ := s.flightAdded_frame
    change s.flightAdded.clock = s.clock
    rw [h]
  | flightRemoved =>
    change s.flightRemoved.clock = s.clock
    unfold State.flightRemoved
    split
    · exact hr
    · rfl
  | event b => exact (s.route_sameControl b t).clock
  | count c => rfl
  | notice n => exact (s.notify_sameControl n).clock

theorem State.foldl_perform_clock (t : Time) (acts : List KeyAct) (s : State) :
    (acts.foldl (State.perform t) s).clock = s.clock := by
  induction acts generalizing s with
  | nil => rfl
  | cons a acts ih => rw [List.foldl_cons, ih, State.perform_clock]

/-- R10: one key of the frame, as its key's frame and what that asks for. -/
theorem State.scanKey_eq (ks hs : List Nat) {s : State} {i : Nat} {k : Key} (hk : s.scanner.keys[i]? = some k) :
    s.scanKey ks hs i = (k.frame (s.frameSet i) (ks.getD i 0) (hs.getD i 0)).2.foldl (State.perform s.clock)
      (s.setKey i (k.frame (s.frameSet i) (ks.getD i 0) (hs.getD i 0)).1) := by
  have hk' : s.key? i = some k := hk
  rw [State.scanKey, hk']

theorem State.scanKey_clock (ks hs : List Nat) (s : State) (i : Nat) : (s.scanKey ks hs i).clock = s.clock := by
  cases hk : s.scanner.keys[i]? with
  | none => rw [State.scanKey, show s.key? i = none from hk]
  | some k => rw [State.scanKey_eq ks hs hk, State.foldl_perform_clock, State.setKey_eq]

/-- R10: a key's frame replaces that key only. -/
theorem State.scanKey_keys (ks hs : List Nat) {s : State} {i : Nat} {k : Key} (hk : s.scanner.keys[i]? = some k) :
    (s.scanKey ks hs i).scanner.keys = s.scanner.keys.set i (k.frame (s.frameSet i) (ks.getD i 0) (hs.getD i 0)).1 := by
  rw [State.scanKey_eq ks hs hk, State.foldl_perform_keys, State.setKey_eq]

theorem State.scanKey_other (ks hs : List Nat) (s : State) {i j : Nat} (h : j ≠ i) :
    (s.scanKey ks hs j).scanner.keys[i]? = s.scanner.keys[i]? := by
  cases hk : s.scanner.keys[j]? with
  | none => rw [State.scanKey, show s.key? j = none from hk]
  | some k => rw [State.scanKey_keys ks hs hk, List.getElem?_set_ne h]

theorem State.foldl_scanKey_other (ks hs : List Nat) {is : List Nat} {i : Nat} (h : i ∉ is) (s : State) :
    (is.foldl (State.scanKey ks hs) s).scanner.keys[i]? = s.scanner.keys[i]? := by
  induction is generalizing s with
  | nil => rfl
  | cons j is ih =>
    obtain ⟨hj, his⟩ := not_or.1 (mt List.mem_cons.2 h)
    rw [List.foldl_cons, ih his, State.scanKey_other ks hs s (Ne.symm hj)]

/-- R10: a frame of keys takes each key once, by its own frame at the frame's time. -/
theorem State.foldl_scanKey_key (ks hs : List Nat) {is : List Nat} {i : Nat} {k : Key} (hn : is.Nodup) (hi : i ∈ is) (s : State)
    (hk : s.scanner.keys[i]? = some k) :
    ∃ x : FrameSet, x.now = s.clock
      ∧ (is.foldl (State.scanKey ks hs) s).scanner.keys[i]? = some (k.frame x (ks.getD i 0) (hs.getD i 0)).1 := by
  induction is generalizing s with
  | nil => cases hi
  | cons j is ih =>
    obtain ⟨hj, hnis⟩ := List.nodup_cons.1 hn
    by_cases hji : j = i
    · subst hji
      refine ⟨s.frameSet j, rfl, ?_⟩
      rw [List.foldl_cons, State.foldl_scanKey_other ks hs hj, State.scanKey_keys ks hs hk, List.getElem?_set_self']
      simp [hk]
    · obtain ⟨x, hx, he⟩ := ih hnis ((List.mem_cons.1 hi).resolve_left (Ne.symm hji)) (s.scanKey ks hs j)
        ((State.scanKey_other ks hs s hji).trans hk)
      exact ⟨x, hx.trans (s.scanKey_clock ks hs j), he⟩

theorem State.keys_of_view {a b : State} (h : a.view = b.view) : a.scanner.keys = b.scanner.keys := congrArg Prod.fst h

theorem State.scanning_iff (s : State) : s.scanning = true ↔ s.link.start ≠ .loading true ∧ s.link.start ≠ .setup := by
  simp [State.scanning]

/-- R10: a scan frame takes each key by its own frame at the frame's time. -/
theorem exec_scanFrame_key (t : Time) (ks hs : List Nat) (p : PedalRaws) {s : State} {i : Nat} {k : Key}
    (h : s.link.start ≠ .loading true) (h' : s.link.start ≠ .setup) (hi : i ≤ 87) (hk : s.scanner.keys[i]? = some k) :
    ∃ x : FrameSet, ∃ s', x.now = t ∧ exec (.scanFrame t ks hs p) s = .next s'
      ∧ s'.scanner.keys[i]? = some (k.frame x (ks.getD i 0) (hs.getD i 0)).1 := by
  have hs' : (s.upTo t).scanning = true := (State.scanning_iff _).2 ⟨h, h'⟩
  obtain ⟨x, hx, he⟩ := State.foldl_scanKey_key ks hs (is := keyIndices) List.nodup_range
    (List.mem_range.2 (Nat.lt_succ_of_le hi)) (s.upTo t) hk
  have hv : ((s.upTo t).scanFrame ks hs p).view = (keyIndices.foldl (State.scanKey ks hs) (s.upTo t)).view := by
    rw [State.scanFrame, if_pos hs', State.scanPedal_view, State.scanPedal_view, State.scanPedal_view]
  have hkeys := State.keys_of_view ((State.arbitrate_view _).trans hv)
  exact ⟨x, ((s.upTo t).scanFrame ks hs p).arbitrate, hx.trans (State.upTo_clock t s), rfl, by rw [hkeys, he]⟩

theorem goodSamplesSetTheDepths : Claims.GoodSamplesSetTheDepths := by
  intro s t ks hs p i k x y h h' hi hk hf hx hy hx1 hx2 hy1 hy2 c hc
  obtain ⟨fs, s', hnow, he, hk'⟩ := exec_scanFrame_key t ks hs p h h' hi hk
  rw [List.getD_eq_getElem?_getD, List.getD_eq_getElem?_getD, hx, hy] at hk'
  exact ⟨s', _, he, hk', hnow ▸ Key.frame_goodSamples fs hf ⟨hx1, hx2⟩ ⟨hy1, hy2⟩ (k.begun_cal fs x y) hc⟩

theorem eightFaultSamplesFaultTheKey : Claims.EightFaultSamplesFaultTheKey := by
  intro s t ks hs p i k x h h' hi hk hf hr he h7 hx hbad
  obtain ⟨fs, s', -, hs', hk'⟩ := exec_scanFrame_key t ks hs p h h' hi hk
  rw [List.getD_eq_getElem?_getD, hx] at hk'
  exact ⟨s', _, hs', hk', Key.frame_eighthFault fs _ hf hr he h7 hbad⟩

theorem aScanFrameTakesTheKeysThenThePedals : Claims.AScanFrameTakesTheKeysThenThePedals := by
  intro s t ks hs p u one
  have hone : State.scanKey ks hs = one := by
    funext v i
    cases hk : v.scanner.keys[i]? with
    | none => rw [State.scanKey, show v.key? i = none from hk]; simp only [one, hk]
    | some k =>
      rw [State.scanKey_eq ks hs hk, State.setKey_eq]
      simp only [one, hk]
      rfl
  have hrun : exec (.scanFrame t ks hs p) s = .next (u.scanFrame ks hs p).arbitrate := rfl
  have hscanning : u.scanning = s.scanning := rfl
  rw [hrun, State.scanFrame, hone, hscanning]
  refine ⟨fun h => ?_, fun h h' => ?_⟩
  · rw [if_neg]
    rw [State.scanning_iff]
    tauto
  · rw [if_pos ((State.scanning_iff s).2 ⟨h, h'⟩)]
    rfl

theorem whatAKeyAsksForIsDone : Claims.WhatAKeyAsksForIsDone := by
  intro s t
  have hno : s.scanner.noFlight = true ↔ ∀ k ∈ s.scanner.keys, k.flight = none := by simp [Scanner.noFlight]
  refine ⟨rfl, fun h => if_pos (hno.2 h), fun ⟨k, hk, hf⟩ => if_neg fun h => hf (hno.1 h k hk), fun _ => rfl, fun _ => rfl,
    fun _ => rfl⟩

/-! ### The pedals (R28, R31 to R37) -/

theorem Scanner.heldKeys_eq (sc : Scanner) :
    sc.heldKeys = sc.keys.zipIdx.filterMap fun x => if x.1.state = .down ∨ x.1.state = .lifting then some x.2 else none := by
  rw [Scanner.heldKeys, numbered_eq_zipIdx, List.filterMap_map]
  rfl

theorem pedalEventsChangeTheContext : Claims.PedalEventsChangeTheContext := by
  intro s l c held gives
  have hheld : s.scanner.heldKeys = held := s.scanner.heldKeys_eq
  refine ⟨rfl, rfl, ?_⟩
  simp only [gives, State.pedalEvent, PedalContext.live, hheld]
  rfl

theorem PedalUnit.levelReport_eq (u : PedalUnit) (d : Nat) :
    u.levelReport d =
      if u.deadBand ≤ (d * 127 / 1000 - u.last) + (u.last - d * 127 / 1000)
          ∨ ((d * 127 / 1000 = 0 ∨ d * 127 / 1000 = 127) ∧ d * 127 / 1000 ≠ u.last) then some (d * 127 / 1000) else none := by
  simp only [PedalUnit.levelReport, Bool.or_eq_true, Bool.and_eq_true, decide_eq_true_eq, beq_iff_eq, bne_iff_ne]
  rfl

theorem switchAfter_eq (down : Bool) (d : Nat) :
    switchAfter down d = if down = true then decide (400 ≤ d) else decide (600 ≤ d) := by
  cases down <;> rfl

/-- R28: a pedal with a good sample. -/
theorem State.scanPedal_good {s : State} {p : Pedal} {raw : Nat} (h : (s.pedals.unit p).faulted = false)
    (hg : ¬(raw < 16 ∨ 4079 < raw)) :
    let r := (s.pedals.unit p).good1 raw
    let s' : State := { s with pedals := s.pedals.setUnit p r.1 }
    s.scanPedal p raw = r.2.elim s' fun l => s'.pedalEvent p l := by
  have hg' : faultRaw raw = false := by rw [faultRaw_eq]; exact decide_eq_false hg
  simp only [State.scanPedal, h, hg']
  cases ((s.pedals.unit p).good1 raw).2 <;> rfl

theorem pedalsAreSampled : Claims.PedalsAreSampled := by
  intro s p raw u bad put d good l report down value
  refine ⟨fun h => if_pos h, fun h hb h7 => ?_, fun h hb h7 => ?_, fun h hg hm => ?_, fun h hg hm => ?_⟩
  · have hb' : faultRaw raw = true := by rw [faultRaw_eq]; exact decide_eq_true hb
    have h8 : ¬8 ≤ u.faults + 1 := by omega
    simp only [State.scanPedal, hb', if_true]
    rw [if_neg (by rw [h]; decide)]
    exact if_neg h8
  · have hb' : faultRaw raw = true := by rw [faultRaw_eq]; exact decide_eq_true hb
    have h8 : 8 ≤ u.faults + 1 := by omega
    simp only [State.scanPedal, hb', if_true]
    rw [if_neg (by rw [h]; decide)]
    exact if_pos h8
  · have hgood : u.good1 raw = if report then ({ good with last := l }, some l) else (good, none) := by
      simp only [PedalUnit.good1, hm, PedalUnit.levelReport_eq]
      change (match if report then some l else none with | some l => _ | none => _) = _
      split_ifs <;> simp only [good, hm] <;> rfl
    rw [State.scanPedal_good h hg, hgood]
    exact ⟨fun hr => by rw [if_pos hr]; rfl, fun hr => by rw [if_neg hr]; rfl⟩
  · have hgood : u.good1 raw = if value ≠ u.last then ({ good with switchDown := down, last := value }, some value)
        else ({ good with switchDown := down }, none) := by
      simp only [PedalUnit.good1, hm, switchAfter_eq, switchLevel]
      simp only [good, hm]
      rfl
    rw [State.scanPedal_good h hg, hgood]
    exact ⟨fun hr => by rw [if_pos hr]; rfl, fun hr => by rw [if_neg (not_not.2 hr)]; rfl⟩

/-- Settles O20: a scan frame takes each key once, so a key's frame says what becomes of it. -/
theorem scanFramesSenseTheKeys : Obligations.ScanFramesSenseTheKeys :=
  ⟨goodSamplesSetTheDepths, depthsAreLinearClampedAndRoundedDown, eightFaultSamplesFaultTheKey,
    aScanFrameTakesTheKeysThenThePedals, whatAKeyAsksForIsDone, keysAdoptAtRest, keysAreSensed, pedalsAreSampled,
    pedalEventsChangeTheContext⟩

end Sys2Proof.Machine
end

section
/-! Crossings, hammer flights, strikes and velocities (R3, R9 to R16, R18, R19). -/

namespace Sys2Proof.Machine

/-! ### Crossings (R3) -/

theorem Motion1.rises_iff (m : Motion1) (th : Nat) : m.rises th = true ↔ ∃ c, m.cur = some c ∧ m.prev < th ∧ th ≤ c := by
  simp [Motion1.rises, Option.any_eq_true]

theorem Motion1.falls_iff (m : Motion1) (th : Nat) : m.falls th = true ↔ ∃ c, m.cur = some c ∧ th ≤ m.prev ∧ c < th := by
  simp [Motion1.falls, Option.any_eq_true]

theorem crossingsAreInterpolated : Claims.CrossingsAreInterpolated := by
  intro m th now
  refine ⟨m.rises_iff th, m.falls_iff th, fun h => ?_, fun t0 c h hc _ _ => ?_⟩
  · simp [Motion1.crossTime, h]
  · simp only [Motion1.crossTime, h, hc]
    rfl

/-! ### The hammer (R18, R19) -/

/-- R10: a key at its new depths, its stroke times set and removed. -/
def Key.stroked (x : FrameSet) (km hm : Motion1) (k : Key) : Key :=
  { k with
    keyDepth := km.depth k.keyDepth, hammerDepth := hm.depth k.hammerDepth
    aTimeKey := strokeTime km k.thr.kA x.now k.aTimeKey
    aTimeHammer := strokeTime hm (thresholdHA k.thr k.scale) x.now k.aTimeHammer }

theorem Key.moves_of_fault (x : FrameSet) (km : Motion1) {hm : Motion1} (k : Key) (h : hm.cur = none) :
    k.moves x km hm = (k.stroked x km hm, []) := by
  simp only [Key.moves, h]
  rfl

theorem Key.moves_of_good (x : FrameSet) (km : Motion1) {hm : Motion1} {d : Nat} (k : Key) (h : hm.cur = some d) :
    k.moves x km hm = (k.stroked x km hm).hammerMoves x hm d := by
  simp only [Key.moves, h]
  rfl

theorem Motion1.depth_eq (m : Motion1) (held : Nat) :
    m.depth held = match m.cur with | some c => c | none => if m.prevTime = none then held else m.prev := by
  unfold Motion1.depth
  cases m.cur <;> cases m.prevTime <;> rfl

theorem leftRest_eq (x : FrameSet) {m : Motion1} {d h : Nat} (hd : m.cur = some d) (hh : h ≤ d) :
    leftRest x m h = if m.prev < h then m.crossTime h x.now else Config.leftRestTime x.index x.now := by
  have hr : m.rises h = true ↔ m.prev < h := by
    rw [Motion1.rises_iff]
    exact ⟨fun ⟨_, _, hp, _⟩ => hp, fun hp => ⟨d, hd, hp, hh⟩⟩
  simp only [leftRest, hr]

theorem hammersLeaveAndReturn : Claims.HammersLeaveAndReturn := by
  intro x km hm k stroke shown k'
  have hk' : k.stroked x km hm = k' := by
    simp only [Key.stroked, Motion1.depth_eq]
    cases hs : k.scale <;> simp only [k', hs] <;> rfl
  refine ⟨fun h => ?_, fun d hd => ⟨fun hf hlt => ?_, fun hf hle => ?_, fun f hf => ?_⟩⟩
  · rw [Key.moves_of_fault x km k h, hk']
  all_goals
    rw [Key.moves_of_good x km k hd, hk']
    have hf' : k'.flight = k.flight := rfl
    have hthr : k'.thr = k.thr := rfl
    have hret : k'.returns = k.returns := rfl
    simp only [Key.hammerMoves, hf', hf, hthr]
  · rw [if_neg (by omega)]
  · rw [if_pos hle, leftRest_eq x hd hle]
  · simp only [hret]
    refine ⟨fun h => ?_, fun h hr => ?_, fun h hr => ?_⟩
    · rw [if_pos h]
    · rw [if_neg (by omega), if_neg (by omega)]
    · rw [if_neg (by omega), if_pos (by omega)]

/-! ### Strikes (R12, R13) -/

theorem strikesAreTimedByTheActiveMode : Claims.StrikesAreTimedByTheActiveMode := by
  intro x km hm k timed
  have hammer (m : Motion1) (b : Nat) (a : Option Time) (q : Quality) :
      (if m.rises b then a.map fun t => (since t (m.crossTime b x.now), q) else none) = timed m b a q := by
    cases a with
    | none => simp [timed]
    | some t => rfl
  unfold Key.strikeNow
  cases k.mode with
  | free => exact hammer hm k.thr.freeB k.aTimeHammer .hammer
  | stopped => exact hammer hm k.thr.stoppedB k.aTimeHammer .hammer
  | keyOnly => exact hammer km k.thr.kB k.aTimeKey .keyOnly

/-! ### Velocities (R15, R16) -/

theorem strikesCountTheirBand : Claims.StrikesCountTheirBand := by
  intro v h1 h2
  exact ⟨_, rfl, by simp only; omega, by simp only; omega⟩

theorem curveVelocity_of_le {p : CurvePoint} {ps : List CurvePoint} {t : Nat} (h : p.time ≤ t) :
    curveVelocity (p :: ps) t = curveFrom t (p :: ps) := if_neg (by omega)

/-- The points of a rising curve lie above its first. -/
theorem head_time_le {p r : CurvePoint} {ps : List CurvePoint} (h : ((p :: ps).map (·.time)).Pairwise (· < ·))
    (hr : r ∈ p :: ps) : p.time ≤ r.time := by
  rw [List.map_cons, List.pairwise_cons] at h
  obtain rfl | hr := List.mem_cons.1 hr
  · exact le_refl _
  · exact (h.1 _ (List.mem_map_of_mem hr)).le

theorem curveFrom_above {ps : List CurvePoint} {t : Nat} (h : ∀ p ∈ ps, p.time < t) : curveFrom t ps = 1 := by
  induction ps with
  | nil => rfl
  | cons p ps ih =>
    have hp := h p List.mem_cons_self
    cases ps with
    | nil => exact if_neg (by omega)
    | cons q qs =>
      have hq := h q (by simp)
      rw [curveFrom, if_neg (by omega), if_neg (by omega)]
      exact ih fun r hr => h r (List.mem_cons_of_mem _ hr)

/-- R16: after the first point of the curve, and at or above the second, the first does not matter. -/
theorem curveFrom_cons {p q : CurvePoint} {ps : List CurvePoint} {t : Nat} (h : p.time < t) (h' : q.time ≤ t) :
    curveFrom t (p :: q :: ps) = curveFrom t (q :: ps) := by
  rw [curveFrom, if_neg (by omega), if_neg (by omega)]

theorem curveFrom_at {ps : List CurvePoint} (hs : (ps.map (·.time)).Pairwise (· < ·)) {r : CurvePoint} (hr : r ∈ ps) :
    curveFrom r.time ps = r.velocity := by
  induction ps with
  | nil => cases hr
  | cons p ps ih =>
    have hs' := (List.pairwise_cons.1 hs)
    cases ps with
    | nil =>
      obtain rfl := List.mem_singleton.1 hr
      exact if_pos rfl
    | cons q qs =>
      obtain rfl | hr := List.mem_cons.1 hr
      · rw [curveFrom, if_pos rfl]
      · rw [curveFrom_cons (hs'.1 _ (List.mem_map_of_mem hr)) (head_time_le hs'.2 hr), ih hs'.2 hr]

theorem curveFrom_between {p q : CurvePoint} {t : Nat} (hp : p.time < t) (hq : t < q.time) (l r : List CurvePoint)
    (hs : ((l ++ p :: q :: r).map (·.time)).Pairwise (· < ·)) :
    curveFrom t (l ++ p :: q :: r) = lineVelocity p q t := by
  induction l with
  | nil => rw [List.nil_append, curveFrom, if_neg (by omega), if_pos hq]
  | cons a l ih =>
    have ha : a.time < t := lt_of_le_of_lt (head_time_le hs (r := p) (by simp)) hp
    have hs' := (List.pairwise_cons.1 hs).2
    have ih' := ih hs'
    cases l with
    | nil => exact (curveFrom_cons ha hp.le).trans ih'
    | cons b l => exact (curveFrom_cons ha ((head_time_le hs' (r := p) (by simp)).trans hp.le)).trans ih'

theorem velocityFollowsTheCurve : Claims.VelocityFollowsTheCurve := by
  intro ps t hs hne
  obtain ⟨p0, ps, rfl⟩ := List.exists_cons_of_ne_nil hne
  refine ⟨fun h => ?_, fun h => ?_, fun p hp ht => ?_, fun l p q r he hp hq => ?_, fun v trim => ?_⟩
  · exact if_pos (h p0 List.mem_cons_self)
  · rw [curveVelocity_of_le (h p0 List.mem_cons_self).le, curveFrom_above h]
  · subst ht
    rw [curveVelocity_of_le (head_time_le hs hp), curveFrom_at hs hp]
  · have hle := head_time_le hs (r := p) (by rw [he]; simp)
    rw [curveVelocity_of_le (hle.trans hp.le), he, curveFrom_between hp hq l r (he ▸ hs)]
    rfl
  · simp only [trimmed]
    split_ifs <;> omega

end Sys2Proof.Machine
end

section
/-! The chain of a key's transitions in one frame (R9 to R15). -/

namespace Sys2Proof.Machine

/-! ### One transition of the chain -/

theorem Key.chain_stays {x : FrameSet} {km hm : Motion1} {taken : List Trans} {k : Key} (n : Nat)
    (h : k.wants x km hm taken = none) : k.chain x km hm n taken = (k, []) := by
  cases n with
  | zero => rfl
  | succ n => simp only [Key.chain, h]

theorem Key.chain_takes {x : FrameSet} {km hm : Motion1} {taken : List Trans} {k k' : Key} {t : Trans} {acts : List KeyAct}
    (n : Nat) (h : k.wants x km hm taken = some t) (h' : k.takes x km hm t = (k', acts)) :
    k.chain x km hm (n + 1) taken =
      (((k'.demote x).chain x km hm n (t :: taken)).1, acts ++ ((k'.demote x).chain x km hm n (t :: taken)).2) := by
  simp only [Key.chain, h, h']

theorem Key.demote_of_state {x : FrameSet} {k : Key} (h : k.state ≠ .down) (h' : k.state ≠ .released) : k.demote x = k := by
  simp [Key.demote, h, h']

/-- R9: the mode of a key DOWN or RELEASED. -/
def Key.demotedMode (x : FrameSet) (k : Key) : Mode := if k.mode = x.target then k.mode else .keyOnly

theorem Key.demote_eq {x : FrameSet} {k : Key} (h : k.state = .down ∨ k.state = .released) :
    k.demote x = { k with mode := k.demotedMode x } := by
  unfold Key.demote Key.demotedMode
  by_cases hm : k.mode = x.target
  · rw [if_neg (fun h' => h'.2 hm), if_pos hm]
  · rw [if_pos ⟨h, hm⟩, if_neg hm]

/-- The new key depth lies below `n`. -/
def Motion1.below (m : Motion1) (n : Nat) : Bool := m.cur.any (· < n)

/-- The new key depth lies at or above `n`. -/
def Motion1.atLeast (m : Motion1) (n : Nat) : Bool := m.cur.any (n ≤ ·)

theorem Motion1.below_iff {m : Motion1} {n : Nat} : m.below n = true ↔ ∃ d, m.cur = some d ∧ d < n := by
  simp [Motion1.below, Option.any_eq_true]

theorem Motion1.atLeast_iff {m : Motion1} {n : Nat} : m.atLeast n = true ↔ ∃ d, m.cur = some d ∧ n ≤ d := by
  simp [Motion1.atLeast, Option.any_eq_true]

theorem Motion1.below_eq {m : Motion1} {d : Nat} (h : m.cur = some d) (n : Nat) : m.below n = decide (d < n) := by
  simp [Motion1.below, h]

theorem Motion1.atLeast_eq {m : Motion1} {d : Nat} (h : m.cur = some d) (n : Nat) : m.atLeast n = decide (n ≤ d) := by
  simp [Motion1.atLeast, h]

/-- R10: a fault sample is at no depth. -/
theorem Motion1.below_of_fault {m : Motion1} (h : m.cur = none) (n : Nat) : m.below n = false := by simp [Motion1.below, h]

theorem Motion1.atLeast_of_fault {m : Motion1} (h : m.cur = none) (n : Nat) : m.atLeast n = false := by
  simp [Motion1.atLeast, h]

/-- R11 to R14: what each state calls for. -/
theorem Key.wants_eq (x : FrameSet) (km hm : Motion1) (taken : List Trans) (k : Key) :
    k.wants x km hm taken = match k.state with
      | .rest => if km.atLeast k.thr.start = true ∧ .press ∉ taken then some .press else none
      | .pressing =>
        if km.below k.thr.rest = true ∧ .silent ∉ taken then some .silent
        else if (k.strikeNow x km hm).isSome = true ∧ .strike ∉ taken then some .strike else none
      | .down =>
        if km.below k.thr.rearm = true ∧ .lift ∉ taken then some .lift
        else if km.below k.thr.damper = true ∧ .release ∉ taken then some .release else none
      | .lifting =>
        if (k.strikeNow x km hm).isSome = true ∧ .restrike ∉ taken then some .restrike
        else if km.below k.thr.damper = true ∧ .release ∉ taken then some .release else none
      | .released =>
        if km.below k.thr.rest = true ∧ .toRest ∉ taken then some .toRest
        else if km.atLeast k.thr.damper = true ∧ .repress ∉ taken then some .repress else none
      | .faulted => none := by
  have free (b : Bool) (t : Trans) :
      (if b && !taken.contains t then some t else none) = if b = true ∧ t ∉ taken then some t else none := by
    simp
  have orElse (p : Prop) [Decidable p] (t : Trans) (o : Option Trans) :
      ((if p then some t else none) <|> o) = if p then some t else o := by
    split <;> rfl
  unfold Key.wants
  simp only [free, orElse]
  cases k.state <;> rfl

/-! ### Where the chain ends -/

section
variable {x : FrameSet} {km hm : Motion1} {taken : List Trans} {k : Key}

theorem Key.chain_rest_stays (n : Nat) (hs : k.state = .rest) (h : km.atLeast k.thr.start = false) :
    k.chain x km hm n taken = (k, []) :=
  Key.chain_stays n (by simp [Key.wants_eq, hs, h])

theorem Key.chain_pressing_stays (n : Nat) (hs : k.state = .pressing) (h : km.below k.thr.rest = false)
    (hno : k.strikeNow x km hm = none) : k.chain x km hm n taken = (k, []) :=
  Key.chain_stays n (by simp [Key.wants_eq, hs, h, hno])

theorem Key.chain_down_stays (n : Nat) (hs : k.state = .down) (h : km.below k.thr.rearm = false)
    (h' : km.below k.thr.damper = false) : k.chain x km hm n taken = (k, []) :=
  Key.chain_stays n (by simp [Key.wants_eq, hs, h, h'])

theorem Key.chain_lifting_stays (n : Nat) (hs : k.state = .lifting) (hno : k.strikeNow x km hm = none)
    (h : km.below k.thr.damper = false) : k.chain x km hm n taken = (k, []) :=
  Key.chain_stays n (by simp [Key.wants_eq, hs, h, hno])

theorem Key.chain_released_stays (n : Nat) (hs : k.state = .released) (h : km.below k.thr.rest = false)
    (h' : km.atLeast k.thr.damper = false) : k.chain x km hm n taken = (k, []) :=
  Key.chain_stays n (by simp [Key.wants_eq, hs, h, h'])

theorem Key.chain_faulted_stays (n : Nat) (hs : k.state = .faulted) : k.chain x km hm n taken = (k, []) :=
  Key.chain_stays n (by simp [Key.wants_eq, hs])

/-! ### What each transition makes of the key -/

/-- R9, R12, R15: a key right after a strike of quality `q`. -/
def Key.struck (x : FrameSet) (q : Quality) (k : Key) : Key :=
  { k with
    state := .down, aTimeKey := none, aTimeHammer := none, quality := q, mode := k.demotedMode x
    flight := k.flight.map fun f => { f with struck := true } }

/-- R13, R15: what a strike asks for. -/
def Key.sounds (x : FrameSet) (again : Bool) (travel : Nat) (q : Quality) (k : Key) : List KeyAct :=
  [.event (.noteOn x.index (k.velocity x travel q) again q),
    .count (if q = .keyOnly then .keyOnlyStrikes else bandOf (k.velocity x travel q))]
    ++ (if again then [.count .repetitions] else [])

theorem Key.strikes_eq {travel : Nat} {q : Quality} (again : Bool) (h : k.strikeNow x km hm = some (travel, q)) :
    k.strikes x km hm again =
      ({ k with
          state := .down, aTimeKey := none, aTimeHammer := none, quality := q
          flight := k.flight.map fun f => { f with struck := true } }, k.sounds x again travel q) := by
  simp only [Key.strikes, h]
  rfl

/-- R12: without stroke times there is no strike. -/
theorem Key.strikeNow_of_noTimes (x : FrameSet) (km hm : Motion1) (hk : k.aTimeKey = none) (hh : k.aTimeHammer = none) :
    k.strikeNow x km hm = none := by
  unfold Key.strikeNow
  cases k.mode <;> simp [hk, hh]

theorem Key.chain_press (n : Nat) (hs : k.state = .rest) (h : km.atLeast k.thr.start = true) (ht : .press ∉ taken) :
    k.chain x km hm (n + 1) taken = ({ k with state := .pressing } : Key).chain x km hm n (.press :: taken) := by
  rw [Key.chain_takes n (t := .press) (by simp [Key.wants_eq, hs, h, ht]) rfl,
    Key.demote_of_state (by simp) (by simp)]
  rfl

theorem Key.chain_silent (n : Nat) (hs : k.state = .pressing) (h : km.below k.thr.rest = true)
    (h' : km.atLeast k.thr.start = false) (ht : .silent ∉ taken) :
    k.chain x km hm (n + 1) taken = ({ k with state := .rest }, [.count .silentPresses]) := by
  rw [Key.chain_takes n (t := .silent) (by simp [Key.wants_eq, hs, h, ht]) rfl,
    Key.demote_of_state (by simp) (by simp), Key.chain_rest_stays (k := { k with state := .rest }) n rfl h']
  rfl

theorem Key.chain_strike (n : Nat) {travel : Nat} {q : Quality} (hs : k.state = .pressing) (h : km.below k.thr.rest = false)
    (hq : k.strikeNow x km hm = some (travel, q)) (ht : .strike ∉ taken) :
    k.chain x km hm (n + 1) taken =
      let c := (k.struck x q).chain x km hm n (.strike :: taken)
      (c.1, k.sounds x false travel q ++ c.2) := by
  rw [Key.chain_takes n (t := .strike) (by simp [Key.wants_eq, hs, h, hq, ht]) (Key.strikes_eq false hq),
    Key.demote_eq (.inl rfl)]
  rfl

theorem Key.chain_restrike (n : Nat) {travel : Nat} {q : Quality} (hs : k.state = .lifting)
    (hq : k.strikeNow x km hm = some (travel, q)) (ht : .restrike ∉ taken) :
    k.chain x km hm (n + 1) taken =
      let c := (k.struck x q).chain x km hm n (.restrike :: taken)
      (c.1, k.sounds x true travel q ++ c.2) := by
  rw [Key.chain_takes n (t := .restrike) (by simp [Key.wants_eq, hs, hq, ht]) (Key.strikes_eq true hq),
    Key.demote_eq (.inl rfl)]
  rfl

theorem Key.chain_lift (n : Nat) (hs : k.state = .down) (h : km.below k.thr.rearm = true) (ht : .lift ∉ taken) :
    k.chain x km hm (n + 1) taken = ({ k with state := .lifting } : Key).chain x km hm n (.lift :: taken) := by
  rw [Key.chain_takes n (t := .lift) (by simp [Key.wants_eq, hs, h, ht]) rfl,
    Key.demote_of_state (by simp) (by simp)]
  rfl

theorem Key.chain_release (n : Nat) (hs : k.state = .lifting) (hno : k.strikeNow x km hm = none)
    (h : km.below k.thr.damper = true) (ht : .release ∉ taken) :
    k.chain x km hm (n + 1) taken =
      let c := ({ k with state := .released, mode := k.demotedMode x } : Key).chain x km hm n (.release :: taken)
      (c.1, .event (.noteOff x.index k.quality) :: c.2) := by
  rw [Key.chain_takes n (t := .release) (by simp [Key.wants_eq, hs, hno, h, ht]) rfl, Key.demote_eq (.inr rfl)]
  rfl

theorem Key.chain_toRest (n : Nat) (hs : k.state = .released) (h : km.below k.thr.rest = true)
    (h' : km.atLeast k.thr.start = false) (ht : .toRest ∉ taken) :
    k.chain x km hm (n + 1) taken = ({ k with state := .rest }, []) := by
  rw [Key.chain_takes n (t := .toRest) (by simp [Key.wants_eq, hs, h, ht]) rfl,
    Key.demote_of_state (by simp) (by simp), Key.chain_rest_stays (k := { k with state := .rest }) n rfl h']
  rfl

theorem Key.chain_repress (n : Nat) (hs : k.state = .released) (h : km.below k.thr.rest = false)
    (h' : km.atLeast k.thr.damper = true) (ht : .repress ∉ taken) :
    k.chain x km hm (n + 1) taken = ({ k with state := .pressing } : Key).chain x km hm n (.repress :: taken) := by
  rw [Key.chain_takes n (t := .repress) (by simp [Key.wants_eq, hs, h, h', ht]) rfl,
    Key.demote_of_state (by simp) (by simp)]
  rfl

/-! ### A sounding key goes up (R13, R14) -/

/-- R7: the orderings of the thresholds that the key's transitions rest on. -/
def Key.ordered (k : Key) : Prop := k.thr.rest < k.thr.start ∧ k.thr.start < k.thr.damper ∧ k.thr.damper < k.thr.rearm

/-- The state that a sounding key below T_damper comes to in the frame. -/
def Key.landing (d : Nat) (k : Key) : KeyState := if d < k.thr.rest then .rest else .released

/-- R14: a key LIFTING, not struck again, below T_damper. -/
theorem Key.chain_falls_from_lifting {d : Nat} (n : Nat) (hd : km.cur = some d) (ho : k.ordered) (hlt : d < k.thr.damper)
    (hs : k.state = .lifting) (hno : k.strikeNow x km hm = none) (hr : .release ∉ taken) (ht : .toRest ∉ taken) :
    k.chain x km hm (n + 2) taken = ({ k with state := k.landing d, mode := k.demotedMode x },
      [.event (.noteOff x.index k.quality)]) := by
  obtain ⟨h1, h2, h3⟩ := ho
  rw [Key.chain_release (n + 1) hs hno (by rw [Motion1.below_eq hd, decide_eq_true hlt]) hr]
  unfold Key.landing
  split
  next hlow =>
    rw [Key.chain_toRest n rfl (by rw [Motion1.below_eq hd]; exact decide_eq_true hlow)
      (by rw [Motion1.atLeast_eq hd]; exact decide_eq_false (by simp only; omega)) (by simp [ht])]
  next hhigh =>
    rw [Key.chain_released_stays (n + 1) rfl (by rw [Motion1.below_eq hd]; exact decide_eq_false hhigh)
      (by rw [Motion1.atLeast_eq hd]; exact decide_eq_false (by simp only; omega))]

/-- R13, R14: a key DOWN, without stroke times or not struck again, below T_damper. -/
theorem Key.chain_falls_from_down {d : Nat} (n : Nat) (hd : km.cur = some d) (ho : k.ordered) (hlt : d < k.thr.damper)
    (hs : k.state = .down) (hno : k.strikeNow x km hm = none) (hl : .lift ∉ taken) (hr : .release ∉ taken)
    (ht : .toRest ∉ taken) :
    k.chain x km hm (n + 3) taken = ({ k with state := k.landing d, mode := k.demotedMode x },
      [.event (.noteOff x.index k.quality)]) := by
  have hrearm := ho.2.2
  rw [Key.chain_lift (n + 2) hs (by rw [Motion1.below_eq hd]; exact decide_eq_true (by omega)) hl]
  exact Key.chain_falls_from_lifting n hd ho hlt rfl hno (by simp [hr]) (by simp [ht])

/-- R13: a key DOWN that is raised above T_damper but below T_rearm. -/
theorem Key.chain_lifts {d : Nat} (n : Nat) (hd : km.cur = some d) (hle : k.thr.damper ≤ d) (hlt : d < k.thr.rearm)
    (hs : k.state = .down) (hno : k.strikeNow x km hm = none) (hl : .lift ∉ taken) :
    k.chain x km hm (n + 1) taken = ({ k with state := .lifting }, []) := by
  rw [Key.chain_lift n hs (by rw [Motion1.below_eq hd]; exact decide_eq_true hlt) hl]
  exact Key.chain_lifting_stays n rfl hno (by rw [Motion1.below_eq hd]; exact decide_eq_false (by simp only; omega))

end

/-! ### A frame without a strike (R9 to R11, R13, R14) -/

theorem keysTakeTheirTransitions : Claims.KeysTakeTheirTransitions := by
  intro x km hm k hno
  refine ⟨fun hc => ?_, fun hs => Key.chain_faulted_stays 8 hs, fun d hd h1 h2 h3 => ?_⟩
  · have hb := Motion1.below_of_fault hc
    have ha := Motion1.atLeast_of_fault hc
    cases hs : k.state with
    | rest => exact Key.chain_rest_stays 8 hs (ha _)
    | pressing => exact Key.chain_pressing_stays 8 hs (hb _) hno
    | down => exact Key.chain_down_stays 8 hs (hb _) (hb _)
    | lifting => exact Key.chain_lifting_stays 8 hs hno (hb _)
    | released => exact Key.chain_released_stays 8 hs (hb _) (ha _)
    | faulted => exact Key.chain_faulted_stays 8 hs
  · intro stays goes ends
    have below {m : Nat} (h : d < m) : km.below m = true := by rw [Motion1.below_eq hd, decide_eq_true h]
    have notBelow {m : Nat} (h : m ≤ d) : km.below m = false := by rw [Motion1.below_eq hd, decide_eq_false h.not_gt]
    have atLeast {m : Nat} (h : m ≤ d) : km.atLeast m = true := by rw [Motion1.atLeast_eq hd, decide_eq_true h]
    have notAtLeast {m : Nat} (h : d < m) : km.atLeast m = false := by rw [Motion1.atLeast_eq hd, decide_eq_false h.not_ge]
    have falls (hs : k.state = .down ∨ k.state = .lifting) (hlt : d < k.thr.damper) : ends (k.landing d) := by
      obtain hs | hs := hs
      · exact Key.chain_falls_from_down 5 hd ⟨h1, h2, h3⟩ hlt hs hno (by simp) (by simp) (by simp)
      · exact Key.chain_falls_from_lifting 6 hd ⟨h1, h2, h3⟩ hlt hs hno (by simp) (by simp)
    refine ⟨fun hs h => ?_, fun hs h => ?_, fun hs h => ?_, fun hs h => ?_, fun hs h => ?_, fun hs h h' => ?_, fun hs h => ?_,
      fun hs h h' => ?_, fun hs h => ?_, fun hs h h' => ?_, fun hs h => ?_, fun hs h => ?_⟩
    · exact Key.chain_rest_stays 8 hs (notAtLeast h)
    · exact (Key.chain_press 7 hs (atLeast h) (by simp)).trans
        (Key.chain_pressing_stays 7 rfl (notBelow (h1.le.trans h)) hno)
    · exact Key.chain_pressing_stays 8 hs (notBelow h) hno
    · exact Key.chain_silent 7 hs (below h) (notAtLeast (h.trans h1)) (by simp)
    · exact Key.chain_down_stays 8 hs (notBelow h) (notBelow (h3.le.trans h))
    · exact Key.chain_lifts 7 hd h' h hs hno (by simp)
    · exact Key.chain_lifting_stays 8 hs hno (notBelow h)
    · have hf := falls hs h
      rwa [Key.landing, if_neg h'.not_gt] at hf
    · have hf := falls hs (h.trans (h1.trans h2))
      rwa [Key.landing, if_pos h] at hf
    · exact Key.chain_released_stays 8 hs (notBelow h) (notAtLeast h')
    · exact Key.chain_toRest 7 hs (below h) (notAtLeast (h.trans h1)) (by simp)
    · exact (Key.chain_repress 7 hs (notBelow ((h1.trans h2).le.trans h)) (atLeast h) (by simp)).trans
        (Key.chain_pressing_stays 7 rfl (notBelow ((h1.trans h2).le.trans h)) hno)

/-! ### A frame with a strike (R9, R12, R13, R15) -/

section
variable {x : FrameSet} {km hm : Motion1} {k : Key} {travel : Nat} {q : Quality}

/-- R9: a key that has been demoted is not demoted again. -/
theorem Key.struck_demotedMode (x : FrameSet) (q : Quality) (k : Key) : (k.struck x q).demotedMode x = k.demotedMode x := by
  simp only [Key.demotedMode, Key.struck]
  split_ifs <;> simp_all

theorem Key.struck_strikeNow (km hm : Motion1) : (k.struck x q).strikeNow x km hm = none :=
  Key.strikeNow_of_noTimes x km hm rfl rfl

/-- A key that has been struck comes to state `st` in the rest of the frame and asks for `more`. -/
def Key.comesTo (x : FrameSet) (km hm : Motion1) (st : KeyState) (more : List KeyAct) (k : Key) : Prop :=
  ∀ n taken, .lift ∉ taken → .release ∉ taken → .toRest ∉ taken →
    k.chain x km hm (n + 3) taken = ({ k with state := st }, more)

theorem Key.struck_stays (h : km.below k.thr.rearm = false) (h' : km.below k.thr.damper = false) :
    (k.struck x q).comesTo x km hm .down [] := fun n _ _ _ _ => Key.chain_down_stays (n + 3) rfl h h'

theorem Key.struck_lifts {d : Nat} (hd : km.cur = some d) (hle : k.thr.damper ≤ d) (hlt : d < k.thr.rearm) :
    (k.struck x q).comesTo x km hm .lifting [] :=
  fun n _ hl _ _ => Key.chain_lifts (n + 2) hd hle hlt rfl (Key.struck_strikeNow km hm) hl

theorem Key.struck_falls {d : Nat} (hd : km.cur = some d) (ho : k.ordered) (hlt : d < k.thr.damper) :
    (k.struck x q).comesTo x km hm (k.landing d) [.event (.noteOff x.index q)] := by
  intro n taken hl hr ht
  rw [Key.chain_falls_from_down (k := k.struck x q) n hd ho hlt rfl (Key.struck_strikeNow km hm) hl hr ht,
    Key.struck_demotedMode]
  rfl

variable {st : KeyState} {more : List KeyAct}

theorem Key.chain_strike_comesTo (n : Nat) (taken : List Trans) (hs : k.state = .pressing)
    (hq : k.strikeNow x km hm = some (travel, q)) (hb : km.below k.thr.rest = false)
    (hc : (k.struck x q).comesTo x km hm st more) (ht : ∀ t ∈ taken, t = .press ∨ t = .repress) :
    k.chain x km hm (n + 4) taken = ({ k.struck x q with state := st }, k.sounds x false travel q ++ more) := by
  have free (t : Trans) (h : t ≠ .press) (h' : t ≠ .repress) : t ∉ taken := fun hm => by
    obtain he | he := ht t hm
    · exact h he
    · exact h' he
  rw [Key.chain_strike (n + 3) hs hb hq (free _ (by decide) (by decide)),
    hc n _ (by simp [free]) (by simp [free]) (by simp [free])]

theorem Key.chain_restrike_comesTo (hs : k.state = .lifting) (hq : k.strikeNow x km hm = some (travel, q))
    (hc : (k.struck x q).comesTo x km hm st more) :
    k.chain x km hm 8 [] = ({ k.struck x q with state := st }, k.sounds x true travel q ++ more) := by
  rw [Key.chain_restrike 7 hs hq (by simp), hc 4 _ (by simp) (by simp) (by simp)]

/-- The key is in PRESSING, or comes to it in the frame. -/
def Key.pressed (km : Motion1) (k : Key) : Prop :=
  k.state = .pressing ∨ (k.state = .rest ∧ km.atLeast k.thr.start = true)
    ∨ (k.state = .released ∧ km.atLeast k.thr.damper = true)

theorem Key.chain_pressed_comesTo (hp : k.pressed km) (hq : k.strikeNow x km hm = some (travel, q))
    (hb : km.below k.thr.rest = false) (hc : (k.struck x q).comesTo x km hm st more) :
    k.chain x km hm 8 [] = ({ k.struck x q with state := st }, k.sounds x false travel q ++ more) := by
  obtain hs | ⟨hs, hd⟩ | ⟨hs, hd⟩ := hp
  · exact Key.chain_strike_comesTo 4 [] hs hq hb hc (by simp)
  · exact (Key.chain_press 7 hs hd (by simp)).trans
      (Key.chain_strike_comesTo (k := { k with state := .pressing }) 3 [.press] rfl hq hb hc (by simp))
  · exact (Key.chain_repress 7 hs hb hd (by simp)).trans
      (Key.chain_strike_comesTo (k := { k with state := .pressing }) 3 [.repress] rfl hq hb hc (by simp))

end

theorem strikesSoundTheirKey : Claims.StrikesSoundTheirKey := by
  intro x km hm k travel q hq h1 h2 h3 v struck sounds off pressed gives
  have ho : k.ordered := ⟨h1, h2, h3⟩
  have hsounds (again : Bool) : k.sounds x again travel q = sounds again := by
    cases q <;> rfl
  have hpressed : pressed → k.pressed km := by
    rintro (hs | ⟨hs, hd⟩ | ⟨hs, hd⟩)
    · exact .inl hs
    · exact .inr (.inl ⟨hs, Motion1.atLeast_iff.2 hd⟩)
    · exact .inr (.inr ⟨hs, Motion1.atLeast_iff.2 hd⟩)
  have press {st more} (hb : km.below k.thr.rest = false) (hc : (k.struck x q).comesTo x km hm st more) (hp : pressed) :
      gives false st more := by
    simp only [gives, ← hsounds]
    exact Key.chain_pressed_comesTo (hpressed hp) hq hb hc
  have lift {st more} (hc : (k.struck x q).comesTo x km hm st more) (hs : k.state = .lifting) : gives true st more := by
    simp only [gives, ← hsounds]
    exact Key.chain_restrike_comesTo hs hq hc
  have notBelow {m : Nat} (h : ∀ d, km.cur = some d → m ≤ d) : km.below m = false := by
    rw [Bool.eq_false_iff, ne_eq, Motion1.below_iff]
    rintro ⟨d, hd, hlt⟩
    exact absurd (h d hd) (by omega)
  have at1 {d m : Nat} (hd : km.cur = some d) (h : m ≤ d) : km.below m = false := by
    rw [Motion1.below_eq hd, decide_eq_false h.not_gt]
  refine ⟨fun h => ?_, fun d hd h h' => ?_, fun d hd h h' => ?_, fun d hd h => ⟨fun hs => ?_, ?_⟩⟩
  · have hstays : (k.struck x q).comesTo x km hm .down [] :=
      Key.struck_stays (notBelow h) (notBelow fun d hd => h3.le.trans (h d hd))
    exact ⟨press (notBelow fun d hd => (h1.trans (h2.trans h3)).le.trans (h d hd)) hstays, lift hstays⟩
  · have hlifts : (k.struck x q).comesTo x km hm .lifting [] := Key.struck_lifts hd h h'
    exact ⟨press (at1 hd ((h1.trans h2).le.trans h)) hlifts, lift hlifts⟩
  · have hfalls : (k.struck x q).comesTo x km hm .released off := by
      have hf := Key.struck_falls (x := x) (hm := hm) (q := q) hd ho h'
      rwa [Key.landing, if_neg h.not_gt] at hf
    exact ⟨press (at1 hd h) hfalls, lift hfalls⟩
  · exact Key.chain_silent 7 hs (by rw [Motion1.below_eq hd, decide_eq_true h])
      (by rw [Motion1.atLeast_eq hd]; exact decide_eq_false (h.trans h1).not_ge) (by simp)
  · have hf := Key.struck_falls (x := x) (hm := hm) (q := q) hd ho (h.trans (h1.trans h2))
    rw [Key.landing, if_pos h] at hf
    exact lift hf

/-- R12: a strike under FREE timing. -/
theorem Key.strikeNow_free {x : FrameSet} {km hm : Motion1} {k : Key} {ta : Time} (hmode : k.mode = .free)
    (ha : k.aTimeHammer = some ta) (hr : hm.rises k.thr.freeB = true) :
    k.strikeNow x km hm = some (since ta (hm.crossTime k.thr.freeB x.now), .hammer) := by
  simp only [Key.strikeNow, hmode, ha, hr]
  rfl

theorem aStrikeIsRecognisedAtHB : Claims.AStrikeIsRecognisedAtHB := by
  intro x km hm k a d ta hs hmode htarget hta hd h1 h2 h3 ha hp hle v
  have hq := Key.strikeNow_free (x := x) (km := km) hmode hta ((Motion1.rises_iff ..).2 ⟨a, ha, hp, hle⟩)
  have at1 {m : Nat} (h : m ≤ d) : km.below m = false := by rw [Motion1.below_eq hd, decide_eq_false h.not_gt]
  rw [Key.chain_pressed_comesTo (.inl hs) hq (at1 h1) (Key.struck_stays (at1 h2) (at1 h3))]
  simp only [Key.struck, Key.demotedMode, hmode, htarget]
  rfl

/-- Settles O21; the chain of a frame is followed transition by transition to where it stops. -/
theorem strikesAndTheirVelocities : Obligations.StrikesAndTheirVelocities :=
  ⟨aStrikeIsRecognisedAtHB, crossingsAreInterpolated, hammersLeaveAndReturn, strikesAreTimedByTheActiveMode,
    keysTakeTheirTransitions, strikesSoundTheirKey, strikesCountTheirBand, velocityFollowsTheCurve⟩

end Sys2Proof.Machine
end

section
/-! The setup of a full start-up: the built-in defaults, the setup area and its checks (R4, R7, R17, R26, R29, R30, R39, R51, R56,
R92, R191, R192). -/

namespace Sys2Proof.Machine

theorem theBuiltInDefaultsAreTheirTables : Claims.TheBuiltInDefaultsAreTheirTables :=
  ⟨rfl, rfl, rfl, rfl, rfl, rfl⟩

theorem keysAndPedalsStartAfresh : Claims.KeysAndPedalsStartAfresh := ⟨fun _ _ => rfl, fun _ => rfl⟩

/-! ### What a setup area holds (R191) -/

theorem codeOf_eq {α : Type} (zero one : α) (n : Nat) :
    codeOf zero one n = if n ≤ 1 then some (if n = 0 then zero else one) else none := by
  rcases n with - | - | n
  · rfl
  · rfl
  · exact (if_neg (by omega)).symm

theorem codeOf_bool (n : Nat) : codeOf false true n = if n ≤ 1 then some (n == 1) else none := by
  rcases n with - | - | n
  · rfl
  · rfl
  · exact (if_neg (by omega)).symm

theorem pedalAt_eq (bs : List Byte) (a : Nat) :
    pedalAt bs a = if numAt bs (a + 4) 1 ≤ 1 then some
      { rest := numAt bs a 2, full := numAt bs (a + 2) 2, deadBand := numAt bs (a + 5) 1
        mode := if numAt bs (a + 4) 1 = 0 then .level else .switch } else none := by
  rw [pedalAt, codeOf_eq]
  split <;> rfl

theorem railAt_eq (bs : List Byte) (a : Nat) :
    railAt bs a = if numAt bs (a + 10) 1 ≤ 1 then some
      { acoustic := numAt bs a 2, silent := numAt bs (a + 2) 2, moveDuty := numAt bs (a + 4) 1
        homingDuty := numAt bs (a + 5) 1, travelLimit := numAt bs (a + 6) 2, settle := numAt bs (a + 8) 2
        autoHome := numAt bs (a + 10) 1 == 1 } else none := by
  rw [railAt, codeOf_bool]
  split <;> rfl

/-- R191: the checks of the values of a setup. -/
theorem Setup_ok_iff (x : Setup) :
    x.ok = true ↔
      (∀ c ∈ x.cals, calOk c = true) ∧ thrOk x.thr = true ∧ curveOk x.hammerCurve = true ∧ curveOk x.keyCurve = true
        ∧ (pedalCalOk x.damper.rest x.damper.full = true ∧ pedalModeOk .damper x.damper.mode x.damper.deadBand = true)
        ∧ (pedalCalOk x.sostenuto.rest x.sostenuto.full = true
            ∧ pedalModeOk .sostenuto x.sostenuto.mode x.sostenuto.deadBand = true)
        ∧ (pedalCalOk x.soft.rest x.soft.full = true ∧ pedalModeOk .soft x.soft.mode x.soft.deadBand = true)
        ∧ railConfigOk x.rail = true ∧ 8 ≤ x.limit ∧ x.limit ≤ 64 ∧ x.split ≤ 88 := by
  simp only [Setup.ok, PedalItems.ok, limitOk, splitOk, inRange_iff, Bool.and_eq_true, List.all_eq_true, decide_eq_true_eq,
    and_assoc]

theorem theSetupAreaHasItsLayout : Claims.TheSetupAreaHasItsLayout := by
  refine ⟨fun bs => ?_, Setup_ok_iff⟩
  intro n mode pedal curve coded
  have hpedal (a : Nat) : pedalAt bs a = if n (a + 4) 1 ≤ 1 then some (pedal a) else none := pedalAt_eq bs a
  have hrail := railAt_eq bs 1256
  have hmonitor := codeOf_bool (numAt bs 1268 1)
  change _ = if n 1266 1 ≤ 1 then _ else _ at hrail
  change _ = if n 1268 1 ≤ 1 then _ else _ at hmonitor
  constructor
  · intro hno
    unfold setupOf
    rw [hpedal, hpedal, hpedal, hrail, hmonitor]
    split
    next e1 e2 e3 e4 e5 =>
      exact absurd ⟨(Option.ite_none_right_eq_some.1 e1).1, (Option.ite_none_right_eq_some.1 e2).1,
        (Option.ite_none_right_eq_some.1 e3).1, (Option.ite_none_right_eq_some.1 e4).1,
        (Option.ite_none_right_eq_some.1 e5).1⟩ hno
    next => rfl
  · rintro ⟨h1, h2, h3, h4, h5⟩
    unfold setupOf
    rw [hpedal, hpedal, hpedal, hrail, hmonitor, if_pos h1, if_pos h2, if_pos h3, if_pos h4, if_pos h5]
    rfl

/-! ### The setup is taken (R191, R192) -/

/-- R188, R192: a READY notice in its place is the first frame the free line takes. -/
theorem State.arbitrate_ready {s : State} {n : ReadyNotice} (h : s.link.tx = none) (h' : s.link.restart ≠ .replied)
    (hp : s.link.readyPlace = some n) : s.arbitrate = s.beginReady n := by
  have hr : (s.link.restart == .replied) = false := beq_eq_false_iff_ne.2 h'
  simp [State.arbitrate, h, hr, hp]

theorem State.chooseSetup_strap {s : State} (h : s.pins.strap = true) : s.chooseSetup = (.strap, defaultSetup) := if_pos h

theorem State.setupOffset_eq {s : State} (h : s.pins.strap = false) {x : SetHeader} (hx : s.fetch.header = some x) :
    s.setupOffset = if x.setupOffset = 0 then none else some x.setupOffset := by
  simp [State.setupOffset, h, hx, Option.filter]

theorem State.chooseSetup_noArea {s : State} (h : s.pins.strap = false) (ho : s.setupOffset = none) :
    s.chooseSetup = (.fallback .noArea, defaultSetup) := by
  simp [State.chooseSetup, h, ho]

theorem State.chooseSetup_failed {s : State} (h : s.pins.strap = false) {a : Nat} (ho : s.setupOffset = some a)
    {e : FallbackReason} (he : s.readSetup a = .error e) : s.chooseSetup = (.fallback e, defaultSetup) := by
  simp [State.chooseSetup, h, ho, he]

theorem State.chooseSetup_stored {s : State} (h : s.pins.strap = false) {a : Nat} (ho : s.setupOffset = some a)
    {x : Setup} (hx : s.readSetup a = .ok x) : s.chooseSetup = (.stored, x) := by
  simp [State.chooseSetup, h, ho, hx]

section
variable {s : State} {a : Nat} (h1 : Memory.readAll flashByte s.soundMem a 4 = [0x4D, 0x42, 0x53, 0x55])
  (h2 : s.flashNat (a + 4) 2 = setupLength)
  (h3 : s.flashNat (a + 6) 2 = (crc16 (Memory.readAll flashByte s.soundMem (a + 8) setupLength)).toNat)
include h1 h2 h3

/-- R191: a setup area whose signature, length and CRC pass is read for its content. -/
theorem State.readSetup_sound :
    s.readSetup a = ((setupOf (Memory.readAll flashByte s.soundMem (a + 8) setupLength)).filter Setup.ok).elim (.error .content)
      .ok := by
  unfold State.readSetup
  rw [if_neg (not_not.2 h1), if_neg (not_not.2 h2), if_neg (not_not.2 h3)]
  cases setupOf (Memory.readAll flashByte s.soundMem (a + 8) setupLength) with
  | none => rfl
  | some x => cases hx : x.ok <;> simp [Option.filter, hx]

theorem State.readSetup_content
    (h4 : ∀ x, setupOf (Memory.readAll flashByte s.soundMem (a + 8) setupLength) = some x → x.ok = false) :
    s.readSetup a = .error .content := by
  rw [State.readSetup_sound h1 h2 h3, Option.filter_eq_none_iff.2 fun x hx => Bool.eq_false_iff.1 (h4 x hx)]
  rfl

theorem State.readSetup_ok {x : Setup} (hx : setupOf (Memory.readAll flashByte s.soundMem (a + 8) setupLength) = some x)
    (hok : x.ok = true) : s.readSetup a = .ok x := by
  rw [State.readSetup_sound h1 h2 h3, Option.filter_eq_some_iff.2 ⟨hx, hok⟩]
  rfl

end

theorem theSetupAreaIsCheckedAndTaken : Claims.TheSetupAreaIsCheckedAndTaken := by
  intro s t u unit begun runs bytes
  refine ⟨fun h => ?_, fun hs htx hr => ?_⟩
  · have he : (s.upTo t).setupDone = s.upTo t := if_pos h
    exact congrArg (fun v => Host.Outcome.next v.arbitrate) he
  · have taken {src : SetupSource} {x : Setup} (hc : u.chooseSetup = (src, x)) : runs src x := by
      have hd : u.setupDone = _ := if_neg (not_not.2 hs)
      rw [hc] at hd
      have hrun : exec (.setupAreaReadDone t) s = .next u.setupDone.arbitrate := rfl
      have ha := State.arbitrate_ready (s := u.setupDone) (n := _) (by rw [hd]; exact htx)
        (by rw [hd]; change s.link.restart ≠ _; rw [hr]; decide) (by rw [hd]; rfl)
      simp only [runs, hrun, ha]
      rw [hd]
      rfl
    refine ⟨fun hp => taken (State.chooseSetup_strap (s := u) hp), fun hp => ⟨fun hh => ?_, fun h hh => ?_⟩⟩
    · have hu : u.fetch.header = none := hh
      exact taken (State.chooseSetup_noArea (s := u) hp (by simp [State.setupOffset, hu]))
    · intro a signed long sound
      have ho : u.setupOffset = if a = 0 then none else some a := State.setupOffset_eq (s := u) hp hh
      have failed {e : FallbackReason} (ha : a ≠ 0) (he : u.readSetup a = .error e) : runs (.fallback e) defaultSetup :=
        taken (State.chooseSetup_failed (s := u) hp (ho.trans (if_neg ha)) he)
      refine ⟨fun ha => ?_, fun ha h1 => ?_, fun ha h1 h2 => ?_, fun ha h1 h2 h3 => ?_, fun ha h1 h2 h3 h4 => ?_,
        fun x ha h1 h2 h3 hx hok => ?_⟩
      · exact taken (State.chooseSetup_noArea (s := u) hp (ho.trans (if_pos ha)))
      · exact failed ha (if_pos h1)
      · exact failed ha ((if_neg (not_not.2 h1)).trans (if_pos h2))
      · exact failed ha ((if_neg (not_not.2 h1)).trans ((if_neg (not_not.2 h2)).trans (if_pos h3)))
      · exact failed ha (State.readSetup_content (s := u) (a := a) h1 h2 h3 h4)
      · exact taken (State.chooseSetup_stored (s := u) hp (ho.trans (if_neg ha))
          (State.readSetup_ok (s := u) (a := a) h1 h2 h3 hx hok))

/-- R116: following the silence conditions changes the mixer only. -/
theorem State.followSilence_eq (s : State) : s.followSilence = { s with mixer := s.followSilence.mixer } := by
  obtain ⟨f, o, r, h⟩ := s.followSilence_frame
  rw [h]

theorem aStrapGivesTheDefaults : Claims.TheStrapGivesTheDefaultSetup := by
  intro s t hs hp htx hr
  have hrun := ((theSetupAreaIsCheckedAndTaken s t).2 hs htx hr).1 hp
  beta_reduce at hrun
  rw [State.followSilence_eq] at hrun
  refine ⟨_, _, hrun, ?_, rfl, rfl, rfl, rfl, rfl, rfl, rfl, rfl, rfl, rfl, rfl, rfl, rfl, rfl, rfl, rfl, rfl, rfl, rfl, rfl, rfl,
    rfl⟩
  exact List.map_replicate

/-- Settles O49: the setup chosen is taken whole, and READY goes out on the free line. -/
theorem theStrapGivesTheDefaultSetup : Obligations.TheStrapGivesTheDefaultSetup :=
  ⟨theBuiltInDefaultsAreTheirTables, keysAndPedalsStartAfresh, aStrapGivesTheDefaults, theSetupAreaHasItsLayout,
    theSetupAreaIsCheckedAndTaken⟩

end Sys2Proof.Machine
end

section
/-! RESTART and the warm reset (R27, R40, R51, R73, R93, R110, R124, R145, R155, R160, R182, R193). -/

namespace Sys2Proof.Machine

/-! ### RESTART is answered first (R193) -/

theorem State.restartLeaves_iff (s : State) :
    s.restartLeaves = true ↔ s.link.restart = .replying ∧ s.link.reply = none ∧ ∃ r a b, s.link.tx = some (.reply r a b) := by
  have hreply (x : TxFrame) : x.isReply = true ↔ ∃ r a b, x = .reply r a b := by
    cases x <;> simp [TxFrame.isReply]
  simp only [State.restartLeaves, Bool.and_eq_true, beq_iff_eq, Option.isNone_iff_eq_none, Option.any_eq_true, hreply, and_assoc]
  constructor
  · rintro ⟨h1, h2, x, hx, r, a, b, rfl⟩
    exact ⟨h1, h2, r, a, b, hx⟩
  · rintro ⟨h1, h2, r, a, b, hx⟩
    exact ⟨h1, h2, _, hx, r, a, b, rfl⟩

theorem State.warmResetDue_iff (s : State) :
    s.warmResetDue = true ↔ s.link.restart = .replied
      ∨ s.link.restart = .replying ∧ s.link.reply = none ∧ ∃ r a b, s.link.tx = some (.reply r a b) := by
  simp only [State.warmResetDue, Bool.or_eq_true, beq_iff_eq, State.restartLeaves_iff]

/-- R193: once the RESTART reply has gone nothing is sent. -/
theorem State.arbitrate_replied {s : State} (h : s.link.restart = .replied) : s.arbitrate = s := by
  simp [State.arbitrate, h]

theorem exec_warmReset_due {s : State} (t : Time) (h : (s.upTo t).warmResetDue = true) :
    exec (.warmReset t) s = .next (s.upTo t).warmReset.arbitrate :=
  congrArg (fun v => Host.Outcome.next (State.arbitrate v)) (if_pos h)

theorem exec_warmReset_early {s : State} (t : Time) (h : (s.upTo t).warmResetDue = false) :
    exec (.warmReset t) s = .next (s.upTo t).arbitrate :=
  congrArg (fun v => Host.Outcome.next (State.arbitrate v)) (if_neg (Bool.eq_false_iff.1 h))

theorem restartIsAnsweredFirst : Claims.RestartIsAnsweredFirst := by
  refine ⟨fun s t f rest h => ?_, fun s t r a b hr hre htx => ?_, fun s t hr hno => ?_⟩
  · obtain ⟨h1, h2, h3, -⟩ := State.offers_taking t h
    exact plainly_answers (v := { s.upTo t with link := { s.link with restart := .replying } }) h rfl
      ⟨h1, h2, h3, by simp⟩
  · have hl : (s.upTo t).restartLeaves = true := (State.restartLeaves_iff _).2 ⟨hr, hre, r, a, b, htx⟩
    have hd : (s.upTo t).txDone = { s.upTo t with link := { s.link with tx := none, restart := .replied } } := if_pos hl
    change Host.Outcome.next (s.upTo t).txDone.arbitrate = _
    rw [hd, State.arbitrate_replied rfl]
  · refine exec_warmReset_early t ?_
    rw [Bool.eq_false_iff, ne_eq, State.warmResetDue_iff]
    rintro (h | ⟨h, hre, r, a, b, htx⟩)
    · exact hr h
    · obtain hn | hn := hno h
      · exact hn hre
      · exact hn r a b htx

/-! ### The blocks in their warm-reset state -/

@[simp] theorem Rail.warm_config (r : Rail) : r.warm.config = r.config := by
  unfold Rail.warm
  simp only
  split <;> rfl

/-- R72: no auto-home is due before READY. -/
theorem Rail.warm_notDue (r : Rail) : { r.warm with autoHomeDue := false } = r.warm := by
  unfold Rail.warm
  simp only
  split <;> rfl

/-- R73: the rail at rest, lost, in FAULT and UNHOMED. -/
theorem Rail.warm_still {r : Rail} (h : r.state = .acoustic ∨ r.state = .silent ∨ r.state = .parked) :
    r.warm = { r with occupied := false, autoHomeDue := false, motion := none, drive := .brake, duty := 0, phase := none } := by
  unfold Rail.warm
  obtain h | h | h := h <;> simp only [h]

theorem Rail.warm_lost {r : Rail} (h : r.state = .moving ∨ r.state = .held ∨ r.state = .homing) :
    r.warm = { r with
      occupied := false, autoHomeDue := false, state := .unhomed, position := none, motion := none, drive := .brake, duty := 0
      phase := none } := by
  unfold Rail.warm
  obtain h | h | h := h <;> simp only [h]

theorem Rail.warm_fault {r : Rail} (h : r.state = .fault) :
    r.warm = { r with occupied := false, autoHomeDue := false, drive := .brake, duty := 0 } := by
  unfold Rail.warm
  simp only [h]

theorem Rail.warm_unhomed {r : Rail} (h : r.state = .unhomed) :
    r.warm = { r with occupied := false, autoHomeDue := false, motion := none, position := none, phase := none } := by
  unfold Rail.warm
  simp only [h]

/-- R8: the scanner takes the report of a rail at a target, and of one elsewhere. -/
theorem Scanner.railReport_ofTarget (g : RailTarget) (settleMs : Nat) (sc : Scanner) :
    sc.railReport (RailState.ofTarget g) settleMs = sc.settling g settleMs := by
  unfold Scanner.railReport Scanner.settling
  cases g with
  | acoustic | silent =>
    simp only [RailState.ofTarget]
    split
    · rfl
    next h => rw [Timer.ofMs, if_neg h]

theorem Scanner.railReport_elsewhere {st : RailState} (h : ∀ g, st ≠ RailState.ofTarget g) (settleMs : Nat) (sc : Scanner) :
    sc.railReport st settleMs = { sc with target := .keyOnly, settle := none } := by
  cases st with
  | acoustic => exact absurd rfl (h .acoustic)
  | silent => exact absurd rfl (h .silent)
  | unhomed | parked | moving | held | homing | fault => rfl

theorem Fetch.warm_bufs (f : Fetch) : f.warm.bufs = f.bufs.map StreamBuf.cancelled := by
  unfold Fetch.warm
  simp only
  split <;> rfl

theorem Take.warm_eq (tk : Take) :
    tk.warm = if tk.phase = .loading then none else
      some { tk with holders := { player := false, slotA := false, slotB := false, download := false } } := by
  unfold Take.warm
  cases tk.phase <;> rfl

/-- R155: the state the Recorder's close leaves, when a take was open. -/
def State.closedTake (s : State) : State := if s.recorder.state = .idle then s else s.closeRecording true

theorem State.warmRecorder_eq (s : State) :
    s.warmRecorder = { s with store := s.closedTake.store, recorder := Recorder.reset } := by
  unfold State.warmRecorder State.closedTake
  simp only
  split
  · rfl
  · obtain ⟨st, r, h⟩ := s.closeRecording_frame true
    rw [h]

/-- R193: a state with the warm-reset state of every block of `u`, its link, its rail's auto-home mark and its mixer open. -/
def State.warmed (l : Link) (due : Bool) (m : Mixer) (u : State) : State :=
  { u with
    rail := { u.rail.warm with autoHomeDue := due }
    scanner := u.scanner.warm u.rail.warm.state u.rail.config.settle
    pedals := u.pedals.warm
    router := u.router.warm u.rail.warm.state
    voices := u.voices.warm
    fetch := u.fetch.warm
    mixer := m
    store := u.closedTake.store.warm
    recorder := Recorder.reset
    packer := u.packer.warm
    player := u.player.warm
    link := l
    stats := zeroStats }

theorem State.warmBlocks_eq (u : State) : u.warmBlocks = u.warmed u.link false u.mixer.warm := by
  unfold State.warmBlocks State.warmed
  rw [State.warmRecorder_eq, Rail.warm_notDue]
  simp only [Rail.warm_config]

theorem warmed_blocks (l : Link) (due : Bool) (m : Mixer) (u : State)
    (hm : m = { u.mixer with silenceFlag := (u.warmed l due m).silenceCondition, silentOut := true, ramp := .none }) :
    warmBlocksOf u (u.warmed l due m) := by
  unfold warmBlocksOf
  intro rail still lost target c
  refine ⟨fun h => ?_, fun h => ?_, fun h => ?_, fun h => ?_, rfl, ⟨fun g hg => ?_, fun hg => ?_⟩, fun p => ?_, rfl, rfl,
    ⟨?_, ?_⟩, hm, ?_, rfl, rfl, rfl, rfl, rfl, rfl, rfl, rfl, rfl⟩
  · exact congrArg (fun r : Rail => { r with autoHomeDue := due }) (Rail.warm_still h)
  · exact congrArg (fun r : Rail => { r with autoHomeDue := due }) (Rail.warm_lost h)
  · exact congrArg (fun r : Rail => { r with autoHomeDue := due }) (Rail.warm_fault h)
  · exact congrArg (fun r : Rail => { r with autoHomeDue := due }) (Rail.warm_unhomed h)
  · have hg' : u.rail.warm.state = RailState.ofTarget g := hg
    change u.scanner.warm u.rail.warm.state u.rail.config.settle = _
    rw [hg', Scanner.warm, Scanner.railReport_ofTarget]
    rfl
  · exact Scanner.railReport_elsewhere hg u.rail.config.settle _
  · cases p <;> rfl
  · change u.fetch.warm.bufs.length = _
    rw [Fetch.warm_bufs, List.length_map]
  · change ∀ b ∈ u.fetch.warm.bufs, _
    rw [Fetch.warm_bufs, List.forall_mem_map]
    exact fun _ _ => ⟨rfl, rfl, rfl⟩
  · have hw : Take.warm = fun tk : Take => if tk.phase = .loading then none else
        some { tk with holders := { player := false, slotA := false, slotB := false, download := false } } :=
      funext Take.warm_eq
    change c.store.warm = _
    unfold Store.warm
    rw [hw]
    rfl

/-! ### The warm reset acts (R110, R192, R193) -/

/-- R116: the mixer once the silence flag follows its conditions. -/
theorem State.followSilence_silent {s : State} (h : s.mixer.silenceFlag = true) :
    s.followSilence = { s with mixer := { s.mixer with silenceFlag := s.silenceCondition } } := by
  unfold State.followSilence
  cases hc : s.silenceCondition with
  | true => rw [if_pos rfl, if_pos h, ← h]
  | false => rfl

theorem theWarmResetActs : Claims.TheWarmResetActs := by
  intro s t hdue u link
  have hd : u.warmResetDue = true := (State.warmResetDue_iff u).2 hdue
  have hrun := exec_warmReset_due t hd
  refine ⟨fun hl => ?_, fun hl => ?_⟩
  · let n : ReadyNotice :=
      { retained := true, source := s.link.source, status := s.fetch.status
        header := s.fetch.header.map fun h => (h.version, h.zoneCount), failure := s.fetch.failure }
    let due : Bool := u.rail.warm.state == .unhomed && u.rail.warm.config.autoHome
    let ready : Link := { link with ready := true, tx := some (.ready n) }
    have hfetch : u.fetch.warm = { u.fetch with bufs := u.fetch.warm.bufs, queue := [], port := none } := by
      have h : u.fetch.warm = _ := if_neg hl
      rw [h]
    have hreset : u.warmReset = (u.warmed link false u.mixer.warm).endStartUp true := by
      have h : u.warmReset = _ := if_neg hl
      rw [h, State.warmBlocks_eq]
      rfl
    have hready : u.warmReset.arbitrate = (u.warmed ready due u.mixer.warm).followSilence := by
      have hn : (u.warmed link false u.mixer.warm).readyNotice true = n := by
        unfold State.readyNotice State.warmed
        rw [hfetch]
        rfl
      rw [hreset, State.arbitrate_ready (n := n) rfl (by change RestartPhase.none ≠ .replied; decide) (congrArg some hn)]
      rfl
    rw [hready, State.followSilence_silent rfl] at hrun
    exact ⟨_, hrun, warmed_blocks ready due _ u rfl, hfetch, rfl, rfl⟩
  · have hreset : u.warmReset = u.warmed { link with start := .loading false } false u.mixer.warm := by
      have h : u.warmReset = _ := if_pos hl
      rw [h, State.warmBlocks_eq]
      rfl
    have hfetch : u.fetch.warm = { u.fetch with
        bufs := u.fetch.warm.bufs, queue := [], status := .loading, port := some .load, header := none, failure := none
        zones := [] } := by
      have h : u.fetch.warm = _ := if_pos hl
      rw [h]
      rfl
    have hsilent : (u.warmed { link with start := .loading false } false u.mixer.warm).silenceCondition = true := by
      simp [State.silenceCondition, State.warmed, link]
    rw [hreset, State.arbitrate_starting rfl rfl] at hrun
    refine ⟨_, hrun, warmed_blocks _ _ _ _ ?_, ?_, rfl, rfl⟩
    · rw [hsilent]
      rfl
    · exact hfetch.trans (by rw [← hl]; rfl)

/-- Settles O50: the warm blocks are written out once, and READY or the load begun again completes the state. -/
theorem restartLeadsToAWarmReset : Obligations.RestartLeadsToAWarmReset := ⟨restartIsAnsweredFirst, theWarmResetActs⟩

end Sys2Proof.Machine
end

section
/-! PEDAL_CAL and PEDAL_MODE (R29, R30). -/

namespace Sys2Proof.Machine

/-! ### The checks of the two requests -/

/-- R29: the raws of a pedal. -/
theorem pedalCalOk_iff (a b : Nat) : pedalCalOk a b = true ↔ a ≤ 4095 ∧ b ≤ 4095 ∧ a ≠ b := by
  simp [pedalCalOk, and_assoc]

/-- R30: what PEDAL_MODE refuses. -/
theorem pedalModeOk_eq_false_iff (p : Pedal) (m : PedalMode) (n : Nat) :
    pedalModeOk p m n = false ↔ (p = .sostenuto ∧ m = .level) ∨ n = 0 ∨ 16 < n := by
  have hrange : inRange 1 16 n = false ↔ n = 0 ∨ 16 < n := by
    rw [Bool.eq_false_iff, ne_eq, inRange_iff]
    omega
  rw [pedalModeOk, Bool.and_eq_false_iff, hrange]
  simp

/-! ### What they make of the state -/

theorem State.pedalCal_refused {a b : Nat} (h : pedalCalOk a b = false) (p : Pedal) (s : State) :
    s.pedalCal p a b = (s, .badArgument) := by
  simp [State.pedalCal, h]

theorem State.pedalCal_taken {a b : Nat} (h : pedalCalOk a b = true) (p : Pedal) (s : State) :
    s.pedalCal p a b =
      ({ s with pedals := s.pedals.setUnit p { s.pedals.unit p with restRaw := a, fullRaw := b } }, .ok) := by
  simp [State.pedalCal, h]

theorem State.pedalMode_refused {p : Pedal} {m : PedalMode} {n : Nat} (h : pedalModeOk p m n = false) (s : State) :
    s.pedalMode p m n = (s, .badArgument) := by
  simp [State.pedalMode, h]

theorem State.pedalMode_taken {p : Pedal} {m : PedalMode} {n : Nat} (h : pedalModeOk p m n = true) (s : State) :
    s.pedalMode p m n = ({ s with pedals := s.pedals.setUnit p ((s.pedals.unit p).setMode m n) }, .ok) := by
  simp [State.pedalMode, h]

/-- Settles O23: the named pedal's request passes its check, and sets its fields, or fails it and leaves the state. -/
theorem pedalSettingsAreTaken : Obligations.PedalSettingsAreTaken := by
  intro s t f rest p a b m u old set answer
  have refused {q : Request} {run : State → State × Status} (h : s.offers q f rest)
      (e : run ((s.upTo t).withRequests rest) = ((s.upTo t).withRequests rest, .badArgument)) :
      .next (s.takeRequest q t (plainly run)) = answer u .badArgument :=
    plainly_answers h e (State.offers_taking t h)
  refine ⟨fun h => ?_, fun h => refused h rfl, fun h => ?_, fun q h => refused h rfl, fun q h => refused h ?_⟩
  · split_ifs with hok
    · exact plainly_answers h (State.pedalCal_taken ((pedalCalOk_iff a b).2 hok) p _) (State.offers_taking t h)
    · exact refused h (State.pedalCal_refused (Bool.eq_false_iff.2 (mt (pedalCalOk_iff a b).1 hok)) p _)
  · split_ifs with hbad
    · exact refused h (State.pedalMode_refused ((pedalModeOk_eq_false_iff p m a).2 hbad) _)
    · have hok : pedalModeOk p m a = true :=
        Bool.of_not_eq_false (mt (pedalModeOk_eq_false_iff p m a).1 hbad)
      exact plainly_answers h (State.pedalMode_taken hok _) (State.offers_taking t h)
  · cases q <;> rfl

end Sys2Proof.Machine
end

section
/-! The outlook: the pedals, the start-up phase, the mute line and the silence of the output. Which operations leave it alone. -/

namespace Sys2Proof.Machine

/-! ### What the invariants of the pedal context and of the silence flag look at -/

/-- What the live pedal context is measured against: the pedals and the start-up phase. -/
def State.reported (s : State) : Pedals × StartPhase := (s.pedals, s.link.start)

/-- What the silence flag is measured against: READY, the mute line, and the mixer without its timer and its output frame. -/
def State.silencing (s : State) : Bool × Bool × Mixer :=
  (s.link.ready, s.pins.mute, { s.mixer with plugTimer := none, frameInBlock := 0, port := silentFrame })

/-- Both. -/
def State.outlook (s : State) : (Pedals × StartPhase) × Bool × Bool × Mixer := (s.reported, s.silencing)

theorem State.reported_of_outlook {a b : State} (h : a.outlook = b.outlook) : a.reported = b.reported := congrArg Prod.fst h

theorem State.silencing_of_outlook {a b : State} (h : a.outlook = b.outlook) : a.silencing = b.silencing := congrArg Prod.snd h

theorem State.sameControl.outlook_eq {s' s : State} (h : s'.sameControl s) : s'.outlook = s.outlook := by
  simp only [State.outlook, State.reported, State.silencing, h.pedals, h.mixer, h.pins]
  rw [h.link]

theorem State.notify_outlook (n : Notice) (s : State) : (s.notify n).outlook = s.outlook :=
  (s.notify_sameControl n).outlook_eq

/-- A fold of operations that keep the outlook keeps it. -/
theorem State.foldl_outlook {α : Type} {op : State → α → State} (h : ∀ u a, (op u a).outlook = u.outlook) (xs : List α)
    (s : State) : (xs.foldl op s).outlook = s.outlook := by
  induction xs generalizing s with
  | nil => rfl
  | cons x xs ih => exact (ih _).trans (h s x)

/-! ### The rail -/

theorem State.enterRail_outlook (st : RailState) (why : RailReason) (s : State) : (s.enterRail st why).outlook = s.outlook := by
  obtain ⟨ns, x, m, tm, rs, r, h⟩ := s.enterRail_frame st why
  exact h ▸ rfl

theorem State.arrive_outlook (why : RailReason) (s : State) : (s.arrive why).outlook = s.outlook := by
  obtain ⟨ns, x, m, tm, rs, r, h⟩ := s.arrive_frame why
  exact h ▸ rfl

theorem State.driveMove_outlook (why arrival : RailReason) (start : Bool) (s : State) :
    (s.driveMove why arrival start).outlook = s.outlook := by
  obtain ⟨ns, x, m, tm, rs, r, h⟩ := s.driveMove_frame why arrival start
  exact h ▸ rfl

theorem State.driveHome_outlook (why : RailReason) (s : State) : (s.driveHome why).outlook = s.outlook := by
  obtain ⟨ns, x, m, tm, rs, r, h⟩ := s.driveHome_frame why
  exact h ▸ rfl

theorem State.flightAdded_outlook (s : State) : s.flightAdded.outlook = s.outlook := by
  obtain ⟨ns, x, m, tm, rs, r, h⟩ := s.flightAdded_frame
  exact h ▸ rfl

theorem State.flightRemoved_outlook (s : State) : s.flightRemoved.outlook = s.outlook := by
  obtain ⟨ns, x, m, tm, rs, r, h⟩ := s.flightEmptied_frame
  unfold State.flightRemoved
  split
  · exact h ▸ rfl
  · rfl

theorem State.faultRail_outlook (kind : RailFault) (s : State) : (s.faultRail kind).outlook = s.outlook := by
  unfold State.faultRail
  split
  · rfl
  · exact (State.enterRail_outlook ..).trans rfl

theorem State.beginHome_outlook (s : State) : s.beginHome.outlook = s.outlook := by
  unfold State.beginHome
  simp only
  split
  · exact (State.enterRail_outlook ..).trans rfl
  · exact (State.driveHome_outlook ..).trans rfl

theorem State.setUpMove_outlook (g : RailTarget) (p : Policy) (s : State) : (s.setUpMove g p).outlook = s.outlook := by
  unfold State.setUpMove
  simp only
  split
  · exact (State.enterRail_outlook ..).trans rfl
  · exact (State.driveMove_outlook ..).trans rfl

theorem State.replaceTarget_outlook (g : RailTarget) (p : Policy) (s : State) : (s.replaceTarget g p).outlook = s.outlook := by
  unfold State.replaceTarget
  split
  · rfl
  · simp only
    split
    · exact (State.driveMove_outlook ..).trans rfl
    · rfl

theorem State.railMove_outlook (g : RailTarget) (p : Policy) (s : State) : (s.railMove g p).1.outlook = s.outlook := by
  have hsetUp := s.setUpMove_outlook g p
  have hreplace := s.replaceTarget_outlook g p
  unfold State.railMove
  split
  case h_1 | h_2 | h_3 => rfl
  case h_4 => split <;> [rfl; exact hreplace]
  case h_5 => exact hreplace
  case h_6 | h_7 => split <;> [rfl; exact hsetUp]
  case h_8 => exact hsetUp

theorem State.railStop_outlook (s : State) : s.railStop.1.outlook = s.outlook := by
  unfold State.railStop
  simp only
  split
  case h_1 | h_2 | h_3 => exact (State.enterRail_outlook ..).trans rfl
  case h_4 => rfl

theorem State.railConfig_outlook (c : RailConfig) (s : State) : (s.railConfig c).1.outlook = s.outlook := by
  unfold State.railConfig
  split
  · rfl
  · split <;> rfl

theorem State.encoderStep_outlook (up : Bool) (s : State) : (s.encoderStep up).outlook = s.outlook := by
  unfold State.encoderStep
  simp only
  split
  · exact (State.driveMove_outlook ..).trans rfl
  · rfl

theorem State.encoderIllegal_outlook (s : State) : s.encoderIllegal.outlook = s.outlook := by
  unfold State.encoderIllegal
  split
  · rfl
  · exact s.faultRail_outlook _

theorem State.indexEdge_outlook (s : State) : s.indexEdge.outlook = s.outlook := by
  unfold State.indexEdge
  split
  · simp only
    split
    · exact (State.driveMove_outlook ..).trans rfl
    · split
      · exact (State.arrive_outlook ..).trans rfl
      · rfl
    · rfl
  · rfl

theorem State.switchLevelSet_outlook (sw : EndSwitch) (b : Bool) (s : State) : (s.switchLevelSet sw b).outlook = s.outlook := by
  cases sw <;> rfl

theorem State.switchCloses_outlook (sw : EndSwitch) (s : State) : (s.switchCloses sw).outlook = s.outlook := by
  have fault (kind : RailFault) := s.faultRail_outlook kind
  unfold State.switchCloses
  split
  · split <;> [rfl; exact fault _]
  · split
    · exact fault _
    · split <;> [exact fault _; rfl]
  · split
    · rfl
    · split <;> [exact fault _; rfl]
  · rfl

theorem State.switchOpens_outlook (sw : EndSwitch) (s : State) : (s.switchOpens sw).outlook = s.outlook := by
  unfold State.switchOpens
  split
  · split <;> rfl
  · rfl

theorem State.autoHome_outlook (s : State) : s.autoHome.outlook = s.outlook := by
  unfold State.autoHome
  split
  · simp only
    split
    · exact (State.beginHome_outlook _).trans rfl
    · rfl
  · rfl

/-! ### The keys -/

theorem State.perform_outlook (t : Time) (s : State) (a : KeyAct) : (s.perform t a).outlook = s.outlook := by
  cases a with
  | flightAdded => exact s.flightAdded_outlook
  | flightRemoved => exact s.flightRemoved_outlook
  | event b => exact (s.route_sameControl b t).outlook_eq
  | count c => rfl
  | notice n => exact s.notify_outlook n

/-- A key is replaced, and what it asks for is performed. -/
theorem State.settles_outlook (t : Time) (i : Nat) (r : Key × List KeyAct) (s : State) :
    (r.2.foldl (State.perform t) (s.setKey i r.1)).outlook = s.outlook :=
  (State.foldl_outlook (State.perform_outlook t) ..).trans rfl

theorem State.scanKey_outlook (ks hs : List Nat) (s : State) (i : Nat) : (s.scanKey ks hs i).outlook = s.outlook := by
  unfold State.scanKey
  split
  · rfl
  · exact s.settles_outlook ..

theorem State.settleCal_outlook (i : Nat) (c : CalRecord) (s : State) : (s.settleCal i c).1.outlook = s.outlook := by
  unfold State.settleCal
  split
  · rfl
  · simp only
    split
    · exact s.settles_outlook ..
    · rfl

theorem State.calSet_outlook (i : Nat) (c : CalRecord) (s : State) : (s.calSet i c).1.outlook = s.outlook :=
  State.calSet_keeps (P := fun u => u.outlook = s.outlook) (fun i c _ hu => (State.settleCal_outlook i c _).trans hu) i c rfl

theorem State.threshSet_outlook (x : Thresholds) (s : State) : (s.threshSet x).1.outlook = s.outlook := by
  unfold State.threshSet
  split <;> rfl

theorem State.curveSet_outlook (c : Curve) (ps : List CurvePoint) (s : State) : (s.curveSet c ps).1.outlook = s.outlook := by
  unfold State.curveSet
  split
  · rfl
  · cases c <;> rfl

theorem State.captureBegin_outlook (s : State) : s.captureBegin.1.outlook = s.outlook := by
  unfold State.captureBegin
  split <;> rfl

theorem State.captureEnd_outlook (s : State) : s.captureEnd.1.outlook = s.outlook :=
  State.captureEnd_keeps (P := fun u => u.outlook = s.outlook) (fun i c _ hu => (State.settleCal_outlook i c _).trans hu) rfl rfl

theorem State.captureCancel_outlook (s : State) : s.captureCancel.1.outlook = s.outlook :=
  State.captureCancel_keeps (P := fun u => u.outlook = s.outlook) rfl rfl

/-! ### Voices and fetch -/

theorem State.setPoly_outlook (n : Nat) (p : Priority) (s : State) : (s.setPoly n p).outlook = s.outlook := by
  obtain ⟨tb, x, h⟩ := State.stealN_frame _ { s with voices := { s.voices with limit := n, priority := p } }
  exact (congrArg State.outlook h).trans rfl

theorem State.segmentDone_outlook (e : FetchEntry) (s : State) : (s.segmentDone e).outlook = s.outlook := by
  have prime (i : Nat) (w : Voice) (u : State) : (u.primeDone i w).outlook = u.outlook := by
    unfold State.primeDone
    split <;> rfl
  have fills (w : Voice) (u : State) : (u.segmentFills e w).outlook = u.outlook := by
    unfold State.segmentFills
    simp only
    split
    · exact (prime ..).trans rfl
    · rfl
  have matched (u : State) : (u.segmentMatched e).outlook = u.outlook := by
    unfold State.segmentMatched
    split
    · split <;> [exact fills ..; rfl]
    · rfl
  exact (matched _).trans rfl

theorem State.playEntry_outlook (s : State) (i : Nat) : (s.playEntry i).outlook = s.outlook := by
  have cross (n : Nat) (w : Voice) (z : Zone) (u : State) : (u.cross i n w z).outlook = u.outlook := by
    unfold State.cross
    simp only
    split
    · split <;> rfl
    · rfl
  unfold State.playEntry
  split
  · unfold State.advance
    split
    · rfl
    · split_ifs
      · rfl
      · exact cross ..
      · rfl
  · rfl

theorem State.outputFrame_outlook (s : State) : s.outputFrame.outlook = s.outlook := by
  have send : s.sendFrame.outlook = s.outlook := by
    unfold State.sendFrame
    simp only
    split <;> rfl
  exact (State.foldl_outlook State.playEntry_outlook ..).trans send

theorem State.boundaryEntry_outlook (s : State) (i : Nat) : (s.boundaryEntry i).outlook = s.outlook := by
  unfold State.boundaryEntry
  split
  · rfl
  · split <;> rfl

/-! ### The link -/

theorem State.receive_outlook (b : RxByte) (s : State) : (s.receive b).outlook = s.outlook := by
  have offer (f : Frame) (u : State) : (u.offerFrame f).outlook = u.outlook := by
    unfold State.offerFrame
    split <;> rfl
  have ends (bs : List Byte) (u : State) : (u.endFrame bs).outlook = u.outlook := by
    unfold State.endFrame
    split
    · exact (offer ..).trans rfl
    · rfl
  have grow (bs : List Byte) (u : State) : (u.growFrame bs).outlook = u.outlook := by
    unfold State.growFrame
    split_ifs
    · rfl
    · exact ends ..
    · rfl
  unfold State.receive
  split
  · split <;> rfl
  · split
    · rfl
    · exact (grow ..).trans rfl

theorem State.rxGap_outlook (s : State) : s.rxGap.outlook = s.outlook := by
  unfold State.rxGap
  split <;> rfl

theorem State.txDone_outlook (s : State) : s.txDone.outlook = s.outlook := by
  unfold State.txDone
  split <;> rfl

theorem State.rejectFrame_outlook (s : State) : s.rejectFrame.outlook = s.outlook := by
  unfold State.rejectFrame
  split
  · rfl
  · split <;> rfl

theorem State.statsRead_outlook (n : Nat) (s : State) : (s.statsRead n).1.outlook = s.outlook := by
  unfold State.statsRead
  split_ifs <;> rfl

theorem State.routeSet_outlook (m : Bool) (n : Nat) (x : Bool) (s : State) : (s.routeSet m n x).1.outlook = s.outlook := by
  unfold State.routeSet
  split <;> rfl

/-- R188: the arbiter changes the outlook only as it begins the READY notice. -/
theorem State.arbitrate_outlook (s : State) : s.arbitrate.outlook = s.outlook ∨ ∃ n, s.arbitrate = s.beginReady n := by
  cases hp : s.link.readyPlace with
  | none =>
    obtain ⟨tx, rp, ns, p, h⟩ := s.arbitrate_frame hp
    exact .inl (h ▸ rfl)
  | some n =>
    unfold State.arbitrate
    split
    · exact .inl rfl
    · exact .inr ⟨n, by rw [hp]⟩

end Sys2Proof.Machine
end

section
/-! What holds of a state by its outlook is kept by every command but the resets, the setup, the scan frames, and what moves the
pedals' settings or the silence of the output. -/

namespace Sys2Proof.Machine

/-! ### A command's operation, its reply and the arbiter -/

/-- A property of the outlook that the arbiter keeps. -/
structure Outward (P : State → Prop) : Prop where
  of_outlook : ∀ {a b : State}, a.outlook = b.outlook → P b → P a
  arbitrate : ∀ {s : State}, P s → P s.arbitrate

section
variable {P : State → Prop} (hP : Outward P) {s s' : State}
include hP

/-- What an event's operation keeps, the event keeps. -/
theorem Outward.event {op : State → State} {t : Time} (hs : P s)
    (h : (Host.Outcome.next (s.atTime t op) : Host.Outcome State Fault Refusal) = .next s')
    (hop : ∀ u, P u → P (op u)) : P s' := by
  cases h
  exact hP.arbitrate (hop _ (hP.of_outlook (b := s) rfl hs))

/-- What a request's run keeps, the request keeps. -/
theorem Outward.request {run : State → State × Status × Content} {q : Request} {t : Time} (hs : P s)
    (h : (Host.Outcome.next (s.takeRequest q t run) : Host.Outcome State Fault Refusal) = .next s')
    (hr : ∀ u, P u → P (run u).1) : P s' := by
  have hu : P (s.upTo t) := hP.of_outlook (b := s) rfl hs
  cases h
  unfold State.takeRequest
  simp only
  split
  · exact hu
  · split
    · have hrun := hr (s.upTo t).popRequest (hP.of_outlook (b := s.upTo t) rfl hu)
      exact hP.arbitrate (hP.of_outlook (b := (run (s.upTo t).popRequest).1) rfl hrun)
    · exact hu

/-- An event whose operation leaves the outlook. -/
theorem Outward.quietEvent {op : State → State} {t : Time} (hs : P s)
    (h : (Host.Outcome.next (s.atTime t op) : Host.Outcome State Fault Refusal) = .next s')
    (hop : ∀ u, (op u).outlook = u.outlook) : P s' :=
  hP.event hs h fun u hu => hP.of_outlook (hop u) hu

/-- A request whose run leaves the outlook. -/
theorem Outward.quietRequest {run : State → State × Status × Content} {q : Request} {t : Time} (hs : P s)
    (h : (Host.Outcome.next (s.takeRequest q t run) : Host.Outcome State Fault Refusal) = .next s')
    (hr : ∀ u, (run u).1.outlook = u.outlook) : P s' :=
  hP.request hs h fun u hu => hP.of_outlook (hr u) hu

end

/-- An event that acts when it is due. -/
theorem State.due_outlook {p : Prop} [Decidable p] {s' s : State} (h : s'.outlook = s.outlook) :
    (if p then s' else s).outlook = s.outlook := by
  split
  · exact h
  · rfl

/-- A request that refuses an operand out of its named values. -/
theorem State.named_outlook {α β : Type} {x : Option α} {refusal : β} {run : α → State × β} {u : State}
    (h : ∀ a, (run a).1.outlook = u.outlook) : (x.elim (u, refusal) run).1.outlook = u.outlook := by
  cases x with
  | none => rfl
  | some a => exact h a

/-! ### The commands that leave the outlook -/

/-- The commands that can change the outlook otherwise than by the arbiter. -/
def movesOutlook : Instr → Bool
  | .fullReset _ | .setupAreaReadDone _ | .warmReset _ | .scanFrame _ _ _ _ | .soundsetLoadDone _ | .audioBlockBoundary _
  | .plugDetectChange _ _ | .plugSettleTimer _ | .muteLineChange _ _ | .faultClear _ _ | .pedalCal _ _ _ _
  | .pedalMode _ _ _ _ | .volumeSet _ _ | .mixSet _ _ _ _ _ | .hpConfig _ _ _ _ | .unmute _ => true
  | _ => false

/-- Every other command keeps what holds of a state by its outlook. -/
theorem exec_outward {P : State → Prop} (hP : Outward P) {c : Instr} {s s' : State} (hc : movesOutlook c = false) (hs : P s)
    (h : exec c s = .next s') : P s' := by
  cases c with
  | fullReset _ | setupAreaReadDone _ | warmReset _ | scanFrame _ _ _ _ | soundsetLoadDone _ | audioBlockBoundary _
  | plugDetectChange _ _ | plugSettleTimer _ | muteLineChange _ _ | faultClear _ _ | pedalCal _ _ _ _ | pedalMode _ _ _ _
  | volumeSet _ _ | mixSet _ _ _ _ _ | hpConfig _ _ _ _ | unmute _ => cases hc
  | autoHome t => exact hP.quietEvent hs h State.autoHome_outlook
  | rxFrame t b | byteReceived t b => exact hP.quietEvent hs h (State.receive_outlook b)
  | rxGapTimeout t => exact hP.quietEvent hs h State.rxGap_outlook
  | unknownKind t _ => exact hP.quietEvent hs h State.rejectFrame_outlook
  | txFrameDone t => exact hP.quietEvent hs h State.txDone_outlook
  | streamHoldTimer t => exact hP.quietEvent hs h fun _ => State.due_outlook rfl
  | settleTimer t => exact hP.quietEvent hs h fun _ => State.due_outlook rfl
  | encoderChange t x =>
    cases x with
    | step up => exact hP.quietEvent hs h (State.encoderStep_outlook up)
    | illegal => exact hP.quietEvent hs h State.encoderIllegal_outlook
  | indexEdge t b =>
    cases b with
    | false => exact hP.quietEvent hs h fun _ => rfl
    | true => exact hP.quietEvent hs h fun u => (State.indexEdge_outlook _).trans rfl
  | endSwitchClose t sw =>
    exact hP.quietEvent hs h fun u => (State.switchCloses_outlook ..).trans (u.switchLevelSet_outlook ..)
  | endSwitchOpen t sw =>
    exact hP.quietEvent hs h fun u => (State.switchOpens_outlook ..).trans (u.switchLevelSet_outlook ..)
  | railStall t | railTravelTimeout t => exact hP.quietEvent hs h fun u => State.due_outlook (u.faultRail_outlook _)
  | segmentReadDone t =>
    refine hP.quietEvent hs h fun u => ?_
    cases u.fetch.inFlight with
    | none => rfl
    | some e => exact u.segmentDone_outlook e
  | outputFrame t => exact hP.quietEvent hs h State.outputFrame_outlook
  | recTakeClockTick t => exact hP.quietEvent hs h fun _ => rfl
  | cueDone t => exact hP.quietEvent hs h fun u => State.due_outlook u.cueDone_sameControl.outlook_eq
  | playerTick t => exact hP.quietEvent hs h fun u => State.due_outlook u.playTick_sameControl.outlook_eq
  | waitTimer t => exact hP.quietEvent hs h fun u => State.due_outlook u.waitExpires_sameControl.outlook_eq
  | calSet t i c => exact hP.quietRequest hs h (State.calSet_outlook i c)
  | threshSet t x => exact hP.quietRequest hs h (State.threshSet_outlook x)
  | curveSet t x ps => exact hP.quietRequest hs h fun u => State.named_outlook fun c => u.curveSet_outlook c ps
  | captureBegin t => exact hP.quietRequest hs h State.captureBegin_outlook
  | captureEnd t => exact hP.quietRequest hs h State.captureEnd_outlook
  | captureCancel t => exact hP.quietRequest hs h State.captureCancel_outlook
  | routeSet t m n x =>
    refine hP.quietRequest hs h fun u => ?_
    cases m <;> cases x <;> [rfl; rfl; rfl; exact u.routeSet_outlook ..]
  | railMove t g p =>
    refine hP.quietRequest hs h fun u => ?_
    cases g <;> cases p <;> [rfl; rfl; rfl; exact u.railMove_outlook ..]
  | railHome t => exact hP.quietRequest hs h State.beginHome_outlook
  | railStop t => exact hP.quietRequest hs h State.railStop_outlook
  | railConfig t a b m n l x o => exact hP.quietRequest hs h fun u => State.named_outlook fun o => u.railConfig_outlook _
  | polySet t n p =>
    refine hP.quietRequest hs h fun u => ?_
    cases p with
    | none => rfl
    | some p =>
      change (if limitOk n then (u.setPoly n p, Status.ok) else (u, .badArgument)).1.outlook = u.outlook
      split <;> [exact u.setPoly_outlook n p; rfl]
  | soundOff t c => exact hP.quietRequest hs h fun u => by cases c <;> rfl
  | soundsetReload t =>
    refine hP.quietRequest hs h fun u => ?_
    unfold plainly
    simp only
    split <;> rfl
  | recStart t id a n =>
    exact hP.quietRequest hs h fun u => State.named_outlook fun a => (u.recStart_sameControl id a n).outlook_eq
  | recMark t n => exact hP.quietRequest hs h fun u => (u.recMark_sameControl n).outlook_eq
  | recPause t => exact hP.quietRequest hs h fun u => u.recPause_sameControl.outlook_eq
  | recResume t => exact hP.quietRequest hs h fun u => u.recResume_sameControl.outlook_eq
  | recStop t => exact hP.quietRequest hs h fun u => u.recStop_sameControl.outlook_eq
  | streamConfig t m a b => exact hP.quietRequest hs h fun u => by cases m <;> rfl
  | playStart t id a b l x p r =>
    exact hP.quietRequest hs h fun u => State.named_outlook fun p => (u.playStart_sameControl id a b l x p r).outlook_eq
  | playStop t w => exact hP.quietRequest hs h fun u => State.named_outlook fun w => (u.playStop_sameControl w).outlook_eq
  | playPause t w => exact hP.quietRequest hs h fun u => State.named_outlook fun w => (u.playPause_sameControl w).outlook_eq
  | playContinue t => exact hP.quietRequest hs h fun u => u.playContinue_sameControl.outlook_eq
  | playTempo t n w => exact hP.quietRequest hs h fun u => State.named_outlook fun w => (u.playTempo_sameControl n w).outlook_eq
  | playParts t p => exact hP.quietRequest hs h fun u => State.named_outlook fun p => (u.playParts_sameControl p).outlook_eq
  | waitConfig t a b => exact hP.quietRequest hs h fun u => (u.waitConfig_sameControl a b).outlook_eq
  | playSuspend t x => exact hP.quietRequest hs h fun u => State.named_outlook fun x => (u.playSuspend_sameControl x).outlook_eq
  | playResume t x => exact hP.quietRequest hs h fun u => State.named_outlook fun x => (u.playResume_sameControl x).outlook_eq
  | slotDiscard t x => exact hP.quietRequest hs h fun u => State.named_outlook fun x => (u.slotDiscard_sameControl x).outlook_eq
  | statsRead t n => exact hP.quietRequest hs h (State.statsRead_outlook n)
  | keyQuery t _ | scanQuery t | pedalQuery t | routeQuery t | railQuery t | voiceQuery t | voiceRead t _ _
  | soundsetQuery t | zoneRead t _ _ | streamRead t _ | mixQuery t | takeList t | takeInfo t _ | takeRename t _ _
  | takeDelete t _ | uploadOpen t _ _ _ | uploadBlock t _ _ | downloadOpen t _ _ _ | downloadBlock t | transferAbort t
  | recQuery t | streamQuery t | playerQuery t | status t | identify t | restart t =>
    exact hP.quietRequest hs h fun _ => rfl

end Sys2Proof.Machine
end

section
/-! The live pedal context holds what the pedals last reported (R30 to R40, R191). -/

namespace Sys2Proof.Machine

/-! ### The context agrees with the pedals -/

/-- R31, R34, R36: the context holds the levels last reported, SOSTENUTO is in SWITCH mode, and its set is empty while it is UP. -/
structure Pedals.agree (p : Pedals) : Prop where
  damper : p.context.damper = p.damper.last
  soft : p.context.soft = p.soft.last
  mode : p.sostenuto.mode = .switch
  sostenuto : p.sostenuto.last = if p.context.sostenuto then 127 else 0
  set : p.context.sostenuto = false → p.context.set = []

theorem State.contextReported_iff (s : State) :
    s.contextReported ↔ s.pedals.agree ∧ (s.link.beforeSetup → s.pedals.context = PedalContext.clear) :=
  ⟨fun ⟨damper, soft, mode, sostenuto, set, clear⟩ => ⟨⟨damper, soft, mode, sostenuto, set⟩, clear⟩,
    fun ⟨⟨damper, soft, mode, sostenuto, set⟩, clear⟩ => ⟨damper, soft, mode, sostenuto, set, clear⟩⟩

theorem State.contextReported_of_reported {a b : State} (h : a.reported = b.reported) (hb : b.contextReported) :
    a.contextReported := by
  obtain ⟨hp, hl⟩ := Prod.ext_iff.1 h
  change a.pedals = b.pedals at hp
  change a.link.start = b.link.start at hl
  rw [State.contextReported_iff, Link.beforeSetup] at hb ⊢
  rwa [hp, hl]

theorem Pedals.setUnit_context (p : Pedals) (q : Pedal) (u : PedalUnit) : (p.setUnit q u).context = p.context := by
  cases q <;> rfl

/-- A pedal changes and reports nothing. -/
theorem Pedals.agree.setUnit {p : Pedals} (h : p.agree) {q : Pedal} {u : PedalUnit} (hlast : u.last = (p.unit q).last)
    (hmode : q = .sostenuto → u.mode = .switch) : (p.setUnit q u).agree := by
  obtain ⟨damper, soft, mode, sostenuto, set⟩ := h
  cases q with
  | damper => exact ⟨damper.trans hlast.symm, soft, mode, sostenuto, set⟩
  | sostenuto => exact ⟨damper, soft, hmode rfl, hlast.trans sostenuto, set⟩
  | soft => exact ⟨damper, soft.trans hlast.symm, mode, sostenuto, set⟩

/-- R34: a pedal changes and reports its level; a switch reports 127 or 0. -/
theorem Pedals.agree.reports {p : Pedals} (h : p.agree) {q : Pedal} {u : PedalUnit} {l : Nat} (held : List Nat)
    (hlast : u.last = l) (hmode : q = .sostenuto → u.mode = .switch ∧ (l = 127 ∨ l = 0)) :
    ({ p.setUnit q u with context := p.context.live q l held } : Pedals).agree := by
  obtain ⟨damper, soft, mode, sostenuto, set⟩ := h
  cases q with
  | damper => exact ⟨hlast.symm, soft, mode, sostenuto, set⟩
  | soft => exact ⟨damper, hlast.symm, mode, sostenuto, set⟩
  | sostenuto =>
    obtain ⟨hm, rfl | rfl⟩ := hmode rfl
    · exact ⟨damper, soft, hm, hlast, nofun⟩
    · exact ⟨damper, soft, hm, hlast, fun _ => rfl⟩

theorem Pedals.agree.unit_mode {p : Pedals} (h : p.agree) {q : Pedal} (hq : q = .sostenuto) : (p.unit q).mode = .switch :=
  hq ▸ h.mode

/-! ### The pedals of a scan frame (R28, R31 to R36) -/

theorem PedalUnit.good1_mode (raw : Nat) (u : PedalUnit) : (u.good1 raw).1.mode = u.mode := by
  unfold PedalUnit.good1
  simp only
  split
  · split <;> rfl
  · split <;> rfl

/-- R31, R32: after a good sample the last reported level is the one reported, or as it was. -/
theorem PedalUnit.good1_last (raw : Nat) (u : PedalUnit) : (u.good1 raw).1.last = (u.good1 raw).2.getD u.last := by
  unfold PedalUnit.good1
  simp only
  split
  · split <;> rfl
  · split <;> rfl

/-- R32: a pedal in SWITCH mode reports 127 or 0. -/
theorem PedalUnit.good1_switch {raw : Nat} {u : PedalUnit} (h : u.mode = .switch) {l : Nat} (hl : (u.good1 raw).2 = some l) :
    l = 127 ∨ l = 0 := by
  have level (down : Bool) : switchLevel down = 127 ∨ switchLevel down = 0 := by
    cases down
    · exact .inr rfl
    · exact .inl rfl
  unfold PedalUnit.good1 at hl
  simp only [h] at hl
  split at hl
  · cases hl
    exact level _
  · cases hl

/-- The context agrees with the pedals, and the start-up stands at `l`. -/
def State.agreesAt (l : StartPhase) (s : State) : Prop := s.reported.1.agree ∧ s.reported.2 = l

theorem State.agreesAt_of_reported {l : StartPhase} {a b : State} (h : a.reported = b.reported) (hb : b.agreesAt l) :
    a.agreesAt l := by
  unfold State.agreesAt
  rwa [h]

/-- R191: once the setup is taken, that is all there is to say. -/
theorem State.agreesAt.contextReported {l : StartPhase} {s : State} (h : s.agreesAt l) (hfull : l ≠ .loading true)
    (hsetup : l ≠ .setup) : s.contextReported := by
  obtain ⟨ha, rfl⟩ := h
  refine (State.contextReported_iff s).2 ⟨ha, fun hb => ?_⟩
  obtain hb | hb := hb
  · exact absurd hb hfull
  · exact absurd hb hsetup

/-- R33: a pedal changes, and hands its level to the context and the router. -/
theorem State.pedalEvent_agreesAt {p : Pedal} {u : PedalUnit} {n : Nat} {l : StartPhase} {s : State} (h : s.agreesAt l)
    (hlast : u.last = n) (hmode : p = .sostenuto → u.mode = .switch ∧ (n = 127 ∨ n = 0)) :
    (({ s with pedals := s.pedals.setUnit p u } : State).pedalEvent p n).agreesAt l := by
  obtain ⟨ha, hl⟩ := h
  refine State.agreesAt_of_reported (State.reported_of_outlook (State.route_sameControl ..).outlook_eq) ⟨?_, hl⟩
  change Pedals.agree { s.pedals.setUnit p u with context := (s.pedals.setUnit p u).context.live p n s.scanner.heldKeys }
  rw [Pedals.setUnit_context]
  exact ha.reports _ hlast hmode

/-- R28, R36: a pedal of the frame leaves the context agreeing with the pedals. -/
theorem State.scanPedal_agreesAt (p : Pedal) (raw : Nat) {l : StartPhase} {s : State} (h : s.agreesAt l) :
    (s.scanPedal p raw).agreesAt l := by
  have hold (hq : p = .sostenuto) : (s.pedals.unit p).mode = .switch := h.1.unit_mode hq
  unfold State.scanPedal
  simp only
  split_ifs
  · exact h
  · exact State.agreesAt_of_reported (State.reported_of_outlook (State.notify_outlook ..))
      (State.pedalEvent_agreesAt h rfl fun hq => ⟨hold hq, .inr rfl⟩)
  · exact ⟨h.1.setUnit rfl hold, h.2⟩
  · have hmode (hq : p = .sostenuto) := (PedalUnit.good1_mode raw _).trans (hold hq)
    have hlast := PedalUnit.good1_last raw (s.pedals.unit p)
    split
    next n hn =>
      rw [hn] at hlast
      exact State.pedalEvent_agreesAt h hlast fun hq => ⟨hmode hq, PedalUnit.good1_switch (hold hq) hn⟩
    next hn =>
      rw [hn] at hlast
      exact ⟨h.1.setUnit hlast hmode, h.2⟩

/-- R33, R191: a scan frame; it is taken only once the setup has been. -/
theorem State.scanFrame_contextReported (ks hs : List Nat) (p : PedalRaws) {s : State} (h : s.contextReported) :
    (s.scanFrame ks hs p).contextReported := by
  unfold State.scanFrame
  split
  next hscan =>
    have hkeys := State.foldl_outlook (State.scanKey_outlook ks hs) keyIndices s
    have hagree : s.agreesAt s.link.start := ⟨((State.contextReported_iff s).1 h).1, rfl⟩
    obtain ⟨hfull, hsetup⟩ : s.link.start ≠ .loading true ∧ s.link.start ≠ .setup := by
      simpa [State.scanning] using hscan
    have hpedals := State.scanPedal_agreesAt .soft p.soft (State.scanPedal_agreesAt .sostenuto p.sostenuto
      (State.scanPedal_agreesAt .damper p.damper (State.agreesAt_of_reported (State.reported_of_outlook hkeys) hagree)))
    exact hpedals.contextReported hfull hsetup
  · exact h

/-! ### The requests (R29, R30, R37) -/

/-- A request that changes one pedal, which reports nothing. -/
theorem State.setUnit_contextReported {s : State} (h : s.contextReported) {q : Pedal} {u : PedalUnit}
    (hlast : u.last = (s.pedals.unit q).last) (hmode : s.pedals.agree → q = .sostenuto → u.mode = .switch) :
    ({ s with pedals := s.pedals.setUnit q u } : State).contextReported := by
  rw [State.contextReported_iff] at h ⊢
  obtain ⟨ha, hc⟩ := h
  exact ⟨ha.setUnit hlast (hmode ha), fun hb => (s.pedals.setUnit_context q u).trans (hc hb)⟩

theorem State.pedalCal_contextReported (p : Pedal) (a b : Nat) {s : State} (h : s.contextReported) :
    (s.pedalCal p a b).1.contextReported := by
  unfold State.pedalCal
  split
  · exact h
  · exact State.setUnit_contextReported h rfl fun ha => ha.unit_mode

/-- R30: SOSTENUTO takes no LEVEL mode. -/
theorem pedalModeOk_sostenuto {m : PedalMode} {n : Nat} (h : pedalModeOk .sostenuto m n = true) : m = .switch := by
  cases m with
  | level => cases h
  | switch => rfl

theorem State.pedalMode_contextReported (p : Pedal) (m : PedalMode) (n : Nat) {s : State} (h : s.contextReported) :
    (s.pedalMode p m n).1.contextReported := by
  cases hok : pedalModeOk p m n with
  | false => exact State.pedalMode_refused hok s ▸ h
  | true =>
    rw [State.pedalMode_taken hok]
    exact State.setUnit_contextReported h rfl fun _ hq => pedalModeOk_sostenuto (hq ▸ hok)

theorem State.faultClear_contextReported (x : FaultTarget) {s : State} (h : s.contextReported) :
    (s.faultClear x).1.contextReported := by
  cases x with
  | other => exact h
  | pedal p =>
    unfold State.faultClear
    simp only
    split
    · exact State.setUnit_contextReported h rfl fun ha => ha.unit_mode
    · exact h
  | key i =>
    unfold State.faultClear
    simp only
    split
    · exact h
    · split
      · exact h
      · split
        · exact State.contextReported_of_reported (b := s) rfl h
        · exact h

/-! ### The start-up and the resets (R39, R40, R191, R193) -/

/-- R191: a setup is the built-in one, or has passed its checks. -/
theorem State.chooseSetup_sostenuto (s : State) : s.chooseSetup.2.sostenuto.mode = .switch := by
  unfold State.chooseSetup
  split
  · rfl
  · split
    · rfl
    · split
      next x hx =>
        have hok : x.ok = true := by
          unfold State.readSetup at hx
          simp only at hx
          split_ifs at hx
          split at hx
          · cases hx
          · split_ifs at hx with hok
            cases hx
            exact hok
        obtain ⟨-, -, -, -, -, ⟨-, hmode⟩, -⟩ := (Setup_ok_iff x).1 hok
        exact pedalModeOk_sostenuto hmode
      · rfl

theorem State.setupDone_contextReported {s : State} (h : s.contextReported) : s.setupDone.contextReported := by
  unfold State.setupDone
  split
  · exact h
  next hstart =>
    have hclear : s.pedals.context = PedalContext.clear :=
      ((State.contextReported_iff s).1 h).2 (.inr (not_not.1 hstart))
    refine (State.contextReported_iff _).2 ⟨⟨?_, ?_, s.chooseSetup_sostenuto, ?_, ?_⟩, nofun⟩
    · exact congrArg PedalContext.damper hclear
    · exact congrArg PedalContext.soft hclear
    · change 0 = if s.pedals.context.sostenuto then 127 else 0
      rw [hclear]
      rfl
    · exact fun _ => congrArg PedalContext.set hclear

theorem State.loadDone_contextReported {s : State} (h : s.contextReported) : s.loadDone.contextReported := by
  unfold State.loadDone
  split
  · exact h
  · simp only
    obtain ⟨ha, hc⟩ := (State.contextReported_iff s).1 h
    split
    next hl => exact (State.contextReported_iff _).2 ⟨ha, fun _ => hc (.inl hl)⟩
    · exact (State.contextReported_iff _).2 ⟨ha, nofun⟩
    · exact State.contextReported_of_reported (State.reported_of_outlook (State.notify_outlook ..))
        (State.contextReported_of_reported (b := s) rfl h)

theorem State.warmReset_reported (s : State) :
    s.warmReset.reported = (s.pedals.warm, if s.fetch.status = .loading then .loading false else .over) := by
  have hp : s.warmBlocks.pedals = s.pedals.warm := by rw [State.warmBlocks_eq]; rfl
  rw [← hp]
  unfold State.warmReset
  simp only
  split <;> rfl

theorem State.warmReset_contextReported {s : State} (h : s.contextReported) : s.warmReset.contextReported := by
  have hp : s.warmReset.pedals = s.pedals.warm := congrArg Prod.fst s.warmReset_reported
  obtain ⟨ha, -⟩ := (State.contextReported_iff s).1 h
  refine (State.contextReported_iff _).2 ?_
  rw [hp]
  exact ⟨⟨rfl, rfl, ha.mode, rfl, fun _ => rfl⟩, fun _ => rfl⟩

/-! ### Every command -/

theorem State.followSilence_reported (s : State) : s.followSilence.reported = s.reported := by
  obtain ⟨f, o, r, h⟩ := s.followSilence_frame
  exact h ▸ rfl

theorem contextReported_outward : Outward State.contextReported where
  of_outlook h := State.contextReported_of_reported (State.reported_of_outlook h)
  arbitrate {s} hs := by
    obtain h | ⟨n, h⟩ := s.arbitrate_outlook
    · exact State.contextReported_of_reported (State.reported_of_outlook h) hs
    · rw [h]
      exact State.contextReported_of_reported (State.followSilence_reported _)
        (State.contextReported_of_reported (b := s) rfl hs)

end Sys2Proof.Machine
end

section
/-! The silence flag stands exactly while a silence condition holds, with the output silent and no ramp (R116, R117, R123, R124;
log 56). -/

namespace Sys2Proof.Machine

/-! ### What silences the output -/

/-- The silence flag, the silent output and the ramp. -/
def State.quiet (s : State) : Bool × Bool × Ramp := (s.mixer.silenceFlag, s.mixer.silentOut, s.mixer.ramp)

/-- R116: while the flag stands the output is silent and no ramp runs. -/
def State.quieted (s : State) : Prop := s.mixer.silenceFlag = true → s.mixer.silentOut = true ∧ s.mixer.ramp = .none

theorem State.quieted_of_quiet {a b : State} (h : a.quiet = b.quiet) (hb : b.quieted) : a.quieted := by
  simp only [State.quiet, Prod.mk.injEq] at h
  obtain ⟨hflag, hout, hramp⟩ := h
  unfold State.quieted
  rwa [hflag, hout, hramp]

theorem State.quiet_of_silencing {a b : State} (h : a.silencing = b.silencing) : a.quiet = b.quiet :=
  congrArg (fun x => (x.2.2.silenceFlag, x.2.2.silentOut, x.2.2.ramp)) h

theorem State.silenceCondition_of_silencing {a b : State} (h : a.silencing = b.silencing) :
    a.silenceCondition = b.silenceCondition := by
  have hready : a.link.ready = b.link.ready := congrArg (·.1) h
  have hmute : a.pins.mute = b.pins.mute := congrArg (·.2.1) h
  have hplug : a.mixer.plug = b.mixer.plug := congrArg (·.2.2.plug) h
  have hmode : a.mixer.muteMode = b.mixer.muteMode := congrArg (·.2.2.muteMode) h
  have hlatch : a.mixer.latched = b.mixer.latched := congrArg (·.2.2.latched) h
  have hset : a.mixer.settings = b.mixer.settings := congrArg (·.2.2.settings) h
  simp only [State.silenceCondition, State.muteActive, hready, hmute, hplug, hmode, hlatch, hset]

theorem State.silenceExact_of_silencing {a b : State} (h : a.silencing = b.silencing) (hb : b.silenceExact) :
    a.silenceExact := by
  have hquiet := State.quiet_of_silencing h
  have hflag : a.mixer.silenceFlag = b.mixer.silenceFlag := congrArg Prod.fst hquiet
  obtain ⟨hexact, hq⟩ := hb
  exact ⟨hflag.trans (hexact.trans (State.silenceCondition_of_silencing h).symm), State.quieted_of_quiet hquiet hq⟩

/-! ### The flag follows its conditions (R116) -/

/-- R116: a condition that begins silences the output at once, so that following the conditions makes the flag exact. -/
theorem State.followSilence_exact {s : State} (h : s.quieted) : s.followSilence.silenceExact := by
  unfold State.followSilence
  split
  next hc =>
    split
    next hf => exact ⟨hf.trans hc.symm, h⟩
    · exact ⟨hc.symm, fun _ => ⟨rfl, rfl⟩⟩
  next hc => exact ⟨(Bool.eq_false_iff.2 hc).symm, nofun⟩

theorem silenceExact_outward : Outward State.silenceExact where
  of_outlook h := State.silenceExact_of_silencing (State.silencing_of_outlook h)
  arbitrate {s} hs := by
    obtain h | ⟨n, h⟩ := s.arbitrate_outlook
    · exact State.silenceExact_of_silencing (State.silencing_of_outlook h) hs
    · rw [h]
      exact State.followSilence_exact (State.quieted_of_quiet (b := s) rfl hs.2)

/-! ### The plug monitor, the mute line and the settings (R114, R118 to R121) -/

theorem State.notify_quiet (n : Notice) (s : State) : (s.notify n).quiet = s.quiet :=
  State.quiet_of_silencing (State.silencing_of_outlook (s.notify_outlook n))

theorem State.muteFollows_quiet (was : Bool) (s : State) : (s.muteFollows was).quiet = s.quiet := by
  unfold State.muteFollows
  split
  · rfl
  · exact s.notify_quiet _

theorem State.setPlugDetect_quiet (on : Bool) (s : State) : (s.setPlugDetect on).quiet = s.quiet := by
  unfold State.setPlugDetect
  split
  · rfl
  · split
    · rfl
    · simp only
      split
      · rfl
      · exact (State.notify_quiet ..).trans rfl

theorem State.setMuteMode_quiet (m : MuteMode) (s : State) : (s.setMuteMode m).quiet = s.quiet := by
  unfold State.setMuteMode
  split
  · rfl
  · exact (State.muteFollows_quiet ..).trans rfl

theorem State.plugLine_silenceExact (b : Bool) {s : State} (h : s.silenceExact) : (s.plugLine b).silenceExact := by
  unfold State.plugLine
  split
  · exact h
  · simp only
    split
    · exact State.followSilence_exact (State.quieted_of_quiet (b := s) rfl h.2)
    · exact State.silenceExact_of_silencing (b := s) rfl h

theorem State.plugSettled_silenceExact {s : State} (h : s.silenceExact) : s.plugSettled.silenceExact :=
  State.followSilence_exact (State.quieted_of_quiet (b := s) (State.notify_quiet ..) h.2)

theorem State.muteLine_silenceExact (b : Bool) {s : State} (h : s.silenceExact) : (s.muteLine b).silenceExact := by
  unfold State.muteLine
  split
  · exact h
  · exact State.followSilence_exact (State.quieted_of_quiet (b := s) (State.muteFollows_quiet ..) h.2)

theorem State.setGainPath_silenceExact (g : GainPath) {s : State} (h : s.silenceExact) : (s.setGainPath g).silenceExact :=
  State.followSilence_exact (State.quieted_of_quiet (b := s) rfl h.2)

theorem State.setHeadphones_silenceExact (w : Nat) (p : Bool) (m : MuteMode) {s : State} (h : s.silenceExact) :
    (s.setHeadphones w p m).silenceExact :=
  State.followSilence_exact (State.quieted_of_quiet (b := s)
    ((State.setMuteMode_quiet ..).trans ((State.setPlugDetect_quiet ..).trans rfl)) h.2)

theorem State.unmute_silenceExact {s : State} (h : s.silenceExact) : s.unmute.1.silenceExact := by
  unfold State.unmute
  split
  · exact h
  · exact h
  · exact State.followSilence_exact (State.quieted_of_quiet (b := s) (State.muteFollows_quiet ..) h.2)

/-- R115, R116: a boundary sets the silent output from the flag, and starts no ramp while the flag stands. -/
theorem State.mixerBoundary_silenceExact {s : State} (h : s.silenceExact) :
    ({ s with mixer := s.mixer.boundary } : State).silenceExact :=
  ⟨h.1, fun hf => ⟨hf, if_pos hf⟩⟩

theorem State.audioBoundary_silenceExact {s : State} (h : s.silenceExact) : s.audioBoundary.silenceExact :=
  State.mixerBoundary_silenceExact
    (silenceExact_outward.of_outlook (State.foldl_outlook State.boundaryEntry_outlook voiceEntries s) h)

/-! ### The pedals' commands, the start-up and the resets -/

theorem State.scanPedal_silencing (p : Pedal) (raw : Nat) (s : State) : (s.scanPedal p raw).silencing = s.silencing := by
  have event (l : Nat) (u : State) : (u.pedalEvent p l).silencing = u.silencing :=
    (State.silencing_of_outlook (State.route_sameControl ..).outlook_eq).trans rfl
  unfold State.scanPedal
  simp only
  split_ifs
  · rfl
  · exact (State.silencing_of_outlook (State.notify_outlook ..)).trans (event ..)
  · rfl
  · split
    · exact event ..
    · rfl

theorem State.scanFrame_silencing (ks hs : List Nat) (p : PedalRaws) (s : State) :
    (s.scanFrame ks hs p).silencing = s.silencing := by
  unfold State.scanFrame
  split
  · have hkeys := State.foldl_outlook (State.scanKey_outlook ks hs) keyIndices s
    exact (State.scanPedal_silencing ..).trans ((State.scanPedal_silencing ..).trans
      ((State.scanPedal_silencing ..).trans (State.silencing_of_outlook hkeys)))
  · rfl

theorem State.pedalCal_silencing (p : Pedal) (a b : Nat) (s : State) : (s.pedalCal p a b).1.silencing = s.silencing := by
  unfold State.pedalCal
  split <;> rfl

theorem State.pedalMode_silencing (p : Pedal) (m : PedalMode) (n : Nat) (s : State) :
    (s.pedalMode p m n).1.silencing = s.silencing := by
  unfold State.pedalMode
  split <;> rfl

theorem State.faultClear_silencing (x : FaultTarget) (s : State) : (s.faultClear x).1.silencing = s.silencing := by
  unfold State.faultClear
  split
  · rfl
  · simp only
    split <;> rfl
  · split
    · rfl
    · split
      · rfl
      · split <;> rfl

theorem State.setupDone_silencing (s : State) : s.setupDone.silencing = s.silencing := by
  unfold State.setupDone
  split <;> rfl

theorem State.loadDone_silencing (s : State) : s.loadDone.silencing = s.silencing := by
  unfold State.loadDone
  split
  · rfl
  · simp only
    split
    · rfl
    · rfl
    · exact (State.silencing_of_outlook (State.notify_outlook ..)).trans rfl

/-- R123, R124: before READY a silent output with its flag standing is as it must be. -/
theorem State.silenceExact_starting {s : State} (hready : s.link.ready = false) (hflag : s.mixer.silenceFlag = true)
    (hout : s.mixer.silentOut = true) (hramp : s.mixer.ramp = .none) : s.silenceExact :=
  ⟨by simp [State.silenceCondition, hready, hflag], fun _ => ⟨hout, hramp⟩⟩

theorem State.warmReset_silenceExact (s : State) : s.warmReset.silenceExact := by
  unfold State.warmReset
  simp only
  split <;> exact State.silenceExact_starting rfl rfl rfl rfl

end Sys2Proof.Machine
end

section
/-! Every step keeps the live pedal context as reported, and the silence flag exact. -/

namespace Sys2Proof.Machine

/-! ### The output's commands leave the context -/

theorem State.muteFollows_reported (was : Bool) (s : State) : (s.muteFollows was).reported = s.reported := by
  unfold State.muteFollows
  split
  · rfl
  · exact State.reported_of_outlook (s.notify_outlook _)

theorem State.plugLine_reported (b : Bool) (s : State) : (s.plugLine b).reported = s.reported := by
  unfold State.plugLine
  split
  · rfl
  · simp only
    split
    · exact (State.followSilence_reported _).trans rfl
    · rfl

theorem State.plugSettled_reported (s : State) : s.plugSettled.reported = s.reported :=
  (State.followSilence_reported _).trans ((State.reported_of_outlook (State.notify_outlook ..)).trans rfl)

theorem State.muteLine_reported (b : Bool) (s : State) : (s.muteLine b).reported = s.reported := by
  unfold State.muteLine
  split
  · rfl
  · exact (State.followSilence_reported _).trans ((State.muteFollows_reported ..).trans rfl)

theorem State.setHeadphones_reported (w : Nat) (p : Bool) (m : MuteMode) (s : State) :
    (s.setHeadphones w p m).reported = s.reported := by
  have detect (u : State) : (u.setPlugDetect p).reported = u.reported := by
    unfold State.setPlugDetect
    split
    · rfl
    · split
      · rfl
      · simp only
        split
        · rfl
        · exact (State.reported_of_outlook (State.notify_outlook ..)).trans rfl
  have mode (u : State) : (u.setMuteMode m).reported = u.reported := by
    unfold State.setMuteMode
    split
    · rfl
    · exact (State.muteFollows_reported ..).trans rfl
  exact (State.followSilence_reported _).trans ((mode _).trans ((detect _).trans rfl))

theorem State.unmute_reported (s : State) : s.unmute.1.reported = s.reported := by
  unfold State.unmute
  split
  · rfl
  · rfl
  · exact (State.followSilence_reported _).trans ((State.muteFollows_reported ..).trans rfl)

theorem State.audioBoundary_reported (s : State) : s.audioBoundary.reported = s.reported := by
  have mixer (u : State) : ({ u with mixer := u.mixer.boundary } : State).reported = u.reported := rfl
  exact (mixer _).trans (State.reported_of_outlook (State.foldl_outlook State.boundaryEntry_outlook ..))

/-! ### Every command, and every step -/

/-- An event that acts when it is due. -/
theorem keeps_due {P : State → Prop} {p : Prop} [Decidable p] {u s : State} (hu : P u) (hs : P s) : P (if p then u else s) := by
  split
  · exact hu
  · exact hs

/-- A request that is refused unless its operand passes. -/
theorem keeps_checked {P : State → Prop} {p : Prop} [Decidable p] {u s : State} {x y : Status} (hu : P u) (hs : P s) :
    P (if p then (u, x) else (s, y)).1 := by
  split
  · exact hu
  · exact hs

theorem exec_contextReported {c : Instr} {s s' : State} (hs : s.contextReported) (h : exec c s = .next s') :
    s'.contextReported := by
  have out := contextReported_outward
  have same {a b : State} (e : a.reported = b.reported) : b.contextReported → a.contextReported :=
    State.contextReported_of_reported e
  cases hc : movesOutlook c with
  | false => exact exec_outward out hc hs h
  | true =>
    cases c with
    | fullReset b =>
      cases h
      exact ⟨rfl, rfl, rfl, rfl, fun _ => rfl, fun _ => rfl⟩
    | setupAreaReadDone t => exact out.event hs h fun u => State.setupDone_contextReported
    | warmReset t => exact out.event hs h fun u hu => keeps_due (State.warmReset_contextReported hu) hu
    | scanFrame t ks hs' p => exact out.event hs h fun u => State.scanFrame_contextReported ks hs' p
    | soundsetLoadDone t => exact out.event hs h fun u => State.loadDone_contextReported
    | audioBlockBoundary t => exact out.event hs h fun u => same u.audioBoundary_reported
    | plugDetectChange t b => exact out.event hs h fun u => same (u.plugLine_reported b)
    | plugSettleTimer t => exact out.event hs h fun u hu => keeps_due (same u.plugSettled_reported hu) hu
    | muteLineChange t b => exact out.event hs h fun u => same (u.muteLine_reported b)
    | faultClear t x => exact out.request hs h fun u => State.faultClear_contextReported x
    | pedalCal t p a b =>
      refine out.request hs h fun u hu => ?_
      cases p with
      | none => exact hu
      | some p => exact State.pedalCal_contextReported p a b hu
    | pedalMode t p m n =>
      refine out.request hs h fun u hu => ?_
      cases p <;> cases m <;> [exact hu; exact hu; exact hu; exact State.pedalMode_contextReported _ _ n hu]
    | volumeSet t m =>
      exact out.request hs h fun u hu => keeps_checked (same (State.followSilence_reported _) hu) hu
    | mixSet t a b x c =>
      refine out.request hs h fun u hu => ?_
      cases x <;> cases c <;> [exact hu; exact hu; exact hu; exact keeps_checked (same (State.followSilence_reported _) hu) hu]
    | hpConfig t w p m =>
      refine out.request hs h fun u hu => ?_
      cases p <;> cases m <;> [exact hu; exact hu; exact hu; exact keeps_checked (same (u.setHeadphones_reported ..) hu) hu]
    | unmute t => exact out.request hs h fun u => same u.unmute_reported
    | _ => cases hc

theorem exec_silenceExact {c : Instr} {s s' : State} (hs : s.silenceExact) (h : exec c s = .next s') : s'.silenceExact := by
  have out := silenceExact_outward
  have same {a b : State} (e : a.silencing = b.silencing) : b.silenceExact → a.silenceExact :=
    State.silenceExact_of_silencing e
  cases hc : movesOutlook c with
  | false => exact exec_outward out hc hs h
  | true =>
    cases c with
    | fullReset b =>
      cases h
      exact State.silenceExact_starting rfl rfl rfl rfl
    | setupAreaReadDone t => exact out.event hs h fun u => same u.setupDone_silencing
    | warmReset t => exact out.event hs h fun u hu => keeps_due u.warmReset_silenceExact hu
    | scanFrame t ks hs' p => exact out.event hs h fun u => same (u.scanFrame_silencing ks hs' p)
    | soundsetLoadDone t => exact out.event hs h fun u => same u.loadDone_silencing
    | audioBlockBoundary t => exact out.event hs h fun u => State.audioBoundary_silenceExact
    | plugDetectChange t b => exact out.event hs h fun u => State.plugLine_silenceExact b
    | plugSettleTimer t => exact out.event hs h fun u hu => keeps_due (State.plugSettled_silenceExact hu) hu
    | muteLineChange t b => exact out.event hs h fun u => State.muteLine_silenceExact b
    | faultClear t x => exact out.request hs h fun u => same (u.faultClear_silencing x)
    | pedalCal t p a b =>
      refine out.request hs h fun u => same ?_
      cases p with
      | none => rfl
      | some p => exact u.pedalCal_silencing p a b
    | pedalMode t p m n =>
      refine out.request hs h fun u => same ?_
      cases p <;> cases m <;> [rfl; rfl; rfl; exact u.pedalMode_silencing ..]
    | volumeSet t m => exact out.request hs h fun u hu => keeps_checked (State.setGainPath_silenceExact _ hu) hu
    | mixSet t a b x c =>
      refine out.request hs h fun u hu => ?_
      cases x <;> cases c <;> [exact hu; exact hu; exact hu; exact keeps_checked (State.setGainPath_silenceExact _ hu) hu]
    | hpConfig t w p m =>
      refine out.request hs h fun u hu => ?_
      cases p <;> cases m <;> [exact hu; exact hu; exact hu; exact keeps_checked (State.setHeadphones_silenceExact _ _ _ hu) hu]
    | unmute t => exact out.request hs h fun u => State.unmute_silenceExact
    | _ => cases hc

/-- Settles O59: most commands leave the outlook, on which both invariants rest; each of the others hands its level to the context
as it reports it, or follows the silence conditions after it moves one. -/
theorem stepsKeepTheContextAndTheSilence : Obligations.StepsKeepTheContextAndTheSilence := by
  refine ⟨fun s s' hs _ h => ?_, fun s s' hs _ h => ?_⟩
  · obtain rfl | ⟨c, cs, -, h⟩ := step_cases h
    · exact contextReported_outward.of_outlook (b := s) rfl hs
    · exact exec_contextReported (s := { s with pending := cs }) hs h
  · obtain rfl | ⟨c, cs, -, h⟩ := step_cases h
    · exact silenceExact_outward.of_outlook (b := s) rfl hs
    · exact exec_silenceExact (s := { s with pending := cs }) hs h

end Sys2Proof.Machine
end

section
/-! The Event Router: ROUTE_SET, the gates of the four consumers and the delivery of an event (R41 to R49, R76). -/

namespace Sys2Proof.Machine

/-! ### ROUTE_SET (R48, R49, R159) -/

/-- R48, R49, R159: the router passes only a change of the enable, and the packer settles only under a change of its own. -/
theorem Packer.setEnabled_passed (old new : Bool) (p : Packer) :
    (if old = new then p else p.setEnabled new) =
      if old = new ∨ p.enabled = new then p else ({ p with enabled := new } : Packer).settle := by
  rw [ite_or, Packer.setEnabled]

theorem State.routeSet_refused {n : Nat} (h : 88 < n) (m x : Bool) (s : State) : s.routeSet m n x = (s, .badArgument) := by
  simp [State.routeSet, splitOk, h]

theorem State.routeSet_taken {n : Nat} (h : ¬88 < n) (m x : Bool) (s : State) :
    s.routeSet m n x =
      ({ s with
        router := { s.router with monitor := m, split := n, streaming := x }
        packer := if s.router.streaming = x ∨ s.packer.enabled = x then s.packer
          else ({ s.packer with enabled := x } : Packer).settle }, .ok) := by
  simp [State.routeSet, splitOk, Nat.not_lt.1 h, Packer.setEnabled_passed]

theorem routeSetTakesThreeSettings : Claims.RouteSetTakesThreeSettings := by
  intro s t f rest m n x h u answer
  have taking := State.offers_taking t h
  refine ⟨?_, fun y => plainly_answers h rfl taking, fun y => plainly_answers h ?_ taking⟩
  · by_cases hn : 88 < n
    · rw [if_pos hn]
      exact plainly_answers h (State.routeSet_refused hn m x _) taking
    · rw [if_neg hn]
      exact plainly_answers h (State.routeSet_taken hn m x _) taking
  · cases y <;> rfl

/-! ### The gates (R45 to R48) -/

theorem State.soundGate_iff (s : State) :
    s.soundGate = true ↔ s.router.railState = .silent ∨ s.router.monitor = true := by
  simp [State.soundGate]

theorem placeOf_isSome_iff {α : Type} (p : α → Bool) (xs : List α) :
    (placeOf p xs).isSome = true ↔ ∃ x ∈ xs, p x = true := by
  induction xs with
  | nil => simp [placeOf]
  | cons x xs ih => cases hx : p x <;> simp [placeOf, hx, ih]

theorem Voices.find_isSome_iff (v : Voices) (src : Source) (key : Nat) :
    (v.find src key).isSome = true ↔
      ∃ w, some w ∈ v.table ∧ w.counted = true ∧ w.source = src ∧ w.key = key := by
  rw [Voices.find, placeOf_isSome_iff]
  constructor
  · rintro ⟨_ | w, hmem, hw⟩
    · cases hw
    · exact ⟨w, hmem, by simpa [and_assoc] using hw⟩
  · rintro ⟨w, hmem, hw⟩
    exact ⟨some w, hmem, by simpa [and_assoc] using hw⟩

theorem State.noteOffGate_iff (s : State) (key : Nat) :
    s.noteOffGate key = true ↔
      (s.router.railState = .silent ∨ s.router.monitor = true)
        ∨ ∃ w, some w ∈ s.voices.table ∧ w.counted = true ∧ w.source = .live ∧ w.key = key := by
  rw [State.noteOffGate, Bool.or_eq_true, State.soundGate_iff, Voices.find_isSome_iff]

theorem State.recorderGate_iff (s : State) :
    s.recorderGate = true ↔ s.recorder.state = .armed ∨ s.recorder.state = .recording := by
  simp [State.recorderGate]

theorem Parts.practises_iff (p : Parts) :
    p.practises = true ↔ p.left = .practice ∨ p.right = .practice ∨ p.noHand = .practice := by
  simp [Parts.practises, or_assoc]

theorem State.matcherGate_iff (s : State) :
    s.matcherGate = true ↔
      (s.player.state = .playing ∨ s.player.state = .waiting)
        ∧ (s.player.parts.left = .practice ∨ s.player.parts.right = .practice ∨ s.player.parts.noHand = .practice) := by
  simp [State.matcherGate, Parts.practises_iff]

/-- Each gate that `State.gates` reads is, by the event's kind, one of the gates above. -/
theorem gatesFollowTheirBlocks : Claims.GatesFollowTheirBlocks := by
  refine ⟨fun r k v a q => ⟨rfl, rfl⟩, fun r p l => rfl, fun s => ?_⟩
  exact ⟨fun _ _ _ _ => s.soundGate_iff, fun k _ => s.noteOffGate_iff k, fun _ _ => rfl,
    fun _ => s.recorderGate_iff, fun _ _ _ _ => s.matcherGate_iff, fun _ _ => rfl, fun _ _ => rfl, fun _ => Iff.rfl⟩

/-! ### The delivery of an event (R41, R43, R44, R76) -/

/-- The kind of the event decides which claim reaches the Voice Engine, and whether the Wait Matcher has a strike to judge. -/
theorem eventsReachTheOpenGates : Claims.EventsReachTheOpenGates := by
  intro s b t
  cases b with
  | noteOn k v again q => rfl
  | noteOff k q => rfl
  | pedal p l => rfl

/-- Settles O24: ROUTE_SET's checks, then the gates one by one, then the delivery by the event's kind. -/
theorem routingAndItsGates : Obligations.RoutingAndItsGates :=
  ⟨routeSetTakesThreeSettings, gatesFollowTheirBlocks, eventsReachTheOpenGates⟩

end Sys2Proof.Machine
end

section
/-! The interlock (R52, R62): which operations leave the rail alone, and what each that moves it makes of the drive. -/

namespace Sys2Proof.Machine

/-! ### The operations that leave the rail alone -/

theorem State.notify_rail (n : Notice) (s : State) : (s.notify n).rail = s.rail := (s.notify_sameControl n).rail

theorem State.followSilence_rail (s : State) : s.followSilence.rail = s.rail := by
  obtain ⟨f, o, r, h⟩ := s.followSilence_frame
  rw [h]

/-- A fold of operations that leave the rail leaves it. -/
theorem State.foldl_rail {α : Type} {op : State → α → State} (h : ∀ u a, (op u a).rail = u.rail) (xs : List α) (s : State) :
    (xs.foldl op s).rail = s.rail :=
  List.foldlRecOn xs op (motive := fun u => u.rail = s.rail) rfl fun u hu a _ => (h u a).trans hu

theorem State.muteFollows_rail (was : Bool) (s : State) : (s.muteFollows was).rail = s.rail := by
  unfold State.muteFollows
  split
  · rfl
  · exact s.notify_rail _

theorem State.plugLine_rail (b : Bool) (s : State) : (s.plugLine b).rail = s.rail := by
  unfold State.plugLine
  split
  · rfl
  · exact keeps_due (P := fun u => u.rail = s.rail) ((State.followSilence_rail _).trans rfl) rfl

theorem State.plugSettled_rail (s : State) : s.plugSettled.rail = s.rail :=
  (State.followSilence_rail _).trans ((State.notify_rail ..).trans rfl)

theorem State.muteLine_rail (b : Bool) (s : State) : (s.muteLine b).rail = s.rail := by
  unfold State.muteLine
  split
  · rfl
  · exact (State.followSilence_rail _).trans ((State.muteFollows_rail ..).trans rfl)

theorem State.setPlugDetect_rail (on : Bool) (s : State) : (s.setPlugDetect on).rail = s.rail := by
  unfold State.setPlugDetect
  split_ifs
  · rfl
  · rfl
  · rfl
  · exact (State.notify_rail ..).trans rfl

theorem State.setMuteMode_rail (m : MuteMode) (s : State) : (s.setMuteMode m).rail = s.rail := by
  unfold State.setMuteMode
  split
  · rfl
  · exact (State.muteFollows_rail ..).trans rfl

theorem State.setHeadphones_rail (w : Nat) (p : Bool) (m : MuteMode) (s : State) : (s.setHeadphones w p m).rail = s.rail :=
  (State.followSilence_rail _).trans ((State.setMuteMode_rail ..).trans ((State.setPlugDetect_rail ..).trans rfl))

theorem State.unmute_rail (s : State) : s.unmute.1.rail = s.rail := by
  unfold State.unmute
  split
  · rfl
  · rfl
  · exact (State.followSilence_rail _).trans ((State.muteFollows_rail ..).trans rfl)

theorem State.setPoly_rail (n : Nat) (p : Priority) (s : State) : (s.setPoly n p).rail = s.rail := by
  obtain ⟨tb, x, h⟩ := State.stealN_frame _ { s with voices := { s.voices with limit := n, priority := p } }
  exact (congrArg State.rail h).trans rfl

theorem State.segmentDone_rail (e : FetchEntry) (s : State) : (s.segmentDone e).rail = s.rail := by
  have prime (i : Nat) (w : Voice) (u : State) : (u.primeDone i w).rail = u.rail := by
    unfold State.primeDone
    split <;> rfl
  have fills (w : Voice) (u : State) : (u.segmentFills e w).rail = u.rail := by
    unfold State.segmentFills
    exact keeps_due (P := fun v => v.rail = u.rail) ((prime ..).trans rfl) rfl
  have matched (u : State) : (u.segmentMatched e).rail = u.rail := by
    unfold State.segmentMatched
    split
    · exact keeps_due (P := fun v => v.rail = u.rail) (fills ..) rfl
    · rfl
  exact (matched _).trans rfl

theorem State.loadDone_rail (s : State) : s.loadDone.rail = s.rail := by
  unfold State.loadDone
  split
  · rfl
  · simp only
    split
    · rfl
    · rfl
    · exact (State.notify_rail ..).trans rfl

theorem State.playEntry_rail (s : State) (i : Nat) : (s.playEntry i).rail = s.rail := by
  have cross (n : Nat) (w : Voice) (z : Zone) (u : State) : (u.cross i n w z).rail = u.rail := by
    unfold State.cross
    simp only
    split
    · split <;> rfl
    · rfl
  unfold State.playEntry
  split
  · unfold State.advance
    split
    · rfl
    · split_ifs
      · rfl
      · exact cross ..
      · rfl
  · rfl

theorem State.outputFrame_rail (s : State) : s.outputFrame.rail = s.rail := by
  have send : s.sendFrame.rail = s.rail := by
    unfold State.sendFrame
    simp only
    split <;> rfl
  exact (State.foldl_rail State.playEntry_rail ..).trans send

theorem State.audioBoundary_rail (s : State) : s.audioBoundary.rail = s.rail := by
  have entry (u : State) (i : Nat) : (u.boundaryEntry i).rail = u.rail := by
    unfold State.boundaryEntry
    split
    · rfl
    · split <;> rfl
  have mixer (u : State) : ({ u with mixer := u.mixer.boundary } : State).rail = u.rail := rfl
  exact (mixer _).trans (State.foldl_rail entry ..)

theorem State.receive_rail (b : RxByte) (s : State) : (s.receive b).rail = s.rail := by
  have offer (f : Frame) (u : State) : (u.offerFrame f).rail = u.rail := by
    unfold State.offerFrame
    split <;> rfl
  have ends (bs : List Byte) (u : State) : (u.endFrame bs).rail = u.rail := by
    unfold State.endFrame
    split
    · exact (offer ..).trans rfl
    · rfl
  have grow (bs : List Byte) (u : State) : (u.growFrame bs).rail = u.rail := by
    unfold State.growFrame
    split_ifs
    · rfl
    · exact ends ..
    · rfl
  unfold State.receive
  split
  · split <;> rfl
  · split
    · rfl
    · exact (grow ..).trans rfl

theorem State.rxGap_rail (s : State) : s.rxGap.rail = s.rail := by
  unfold State.rxGap
  split <;> rfl

theorem State.txDone_rail (s : State) : s.txDone.rail = s.rail := by
  unfold State.txDone
  split <;> rfl

theorem State.rejectFrame_rail (s : State) : s.rejectFrame.rail = s.rail := by
  unfold State.rejectFrame
  split
  · rfl
  · split <;> rfl

theorem State.statsRead_rail (n : Nat) (s : State) : (s.statsRead n).1.rail = s.rail := by
  unfold State.statsRead
  split_ifs <;> rfl

theorem State.routeSet_rail (m : Bool) (n : Nat) (x : Bool) (s : State) : (s.routeSet m n x).1.rail = s.rail := by
  unfold State.routeSet
  split <;> rfl

theorem State.switchLevelSet_rail (sw : EndSwitch) (b : Bool) (s : State) : (s.switchLevelSet sw b).rail = s.rail := by
  cases sw <;> rfl

theorem State.threshSet_rail (x : Thresholds) (s : State) : (s.threshSet x).1.rail = s.rail := by
  unfold State.threshSet
  split <;> rfl

theorem State.curveSet_rail (c : Curve) (ps : List CurvePoint) (s : State) : (s.curveSet c ps).1.rail = s.rail := by
  unfold State.curveSet
  split
  · rfl
  · cases c <;> rfl

theorem State.captureBegin_rail (s : State) : s.captureBegin.1.rail = s.rail := by
  unfold State.captureBegin
  split <;> rfl

theorem State.captureCancel_rail (s : State) : s.captureCancel.1.rail = s.rail :=
  State.captureCancel_keeps (P := fun u => u.rail = s.rail) rfl rfl

theorem State.faultClear_rail (x : FaultTarget) (s : State) : (s.faultClear x).1.rail = s.rail := by
  unfold State.faultClear
  split
  · rfl
  · exact keeps_checked (P := fun u => u.rail = s.rail) rfl rfl
  · split
    · rfl
    · split
      · rfl
      · exact keeps_checked (P := fun u => u.rail = s.rail) rfl rfl

theorem State.pedalCal_rail (p : Pedal) (a b : Nat) (s : State) : (s.pedalCal p a b).1.rail = s.rail := by
  unfold State.pedalCal
  split <;> rfl

theorem State.pedalMode_rail (p : Pedal) (m : PedalMode) (n : Nat) (s : State) : (s.pedalMode p m n).1.rail = s.rail := by
  unfold State.pedalMode
  split <;> rfl

theorem State.scanPedal_rail (p : Pedal) (raw : Nat) (s : State) : (s.scanPedal p raw).rail = s.rail := by
  have event (n : Nat) (u : State) : (u.pedalEvent p n).rail = u.rail := (State.route_sameControl ..).rail.trans rfl
  unfold State.scanPedal
  simp only
  split_ifs
  · rfl
  · exact (State.notify_rail ..).trans ((event ..).trans rfl)
  · rfl
  · split
    · exact (event ..).trans rfl
    · rfl

/-! ### What the interlock looks at -/

/-- The rail state, the drive mode of the motor bridge, and the view of the flight table. -/
def State.bridge (s : State) : RailState × Drive × Bool := (s.rail.state, s.rail.drive, s.rail.occupied)

theorem State.bridge_of_rail {a b : State} (h : a.rail = b.rail) : a.bridge = b.bridge := by
  simp only [State.bridge, h]

theorem State.sameControl.bridge_eq {a b : State} (h : a.sameControl b) : a.bridge = b.bridge := State.bridge_of_rail h.rail

theorem State.interlocked_of_bridge {a b : State} (h : a.bridge = b.bridge) (hb : b.interlocked) : a.interlocked := by
  obtain ⟨hstate, hdrive, hoccupied⟩ : a.rail.state = b.rail.state ∧ a.rail.drive = b.rail.drive
      ∧ a.rail.occupied = b.rail.occupied := by simpa [State.bridge] using h
  simpa only [State.interlocked, Rail.driven, Rail.inMotion, hstate, hdrive, hoccupied] using hb

/-- R188: the arbiter may mark the rail as due to home, and changes nothing else of it. -/
theorem State.arbitrate_bridge (s : State) : s.arbitrate.bridge = s.bridge := by
  obtain h | ⟨n, h⟩ : s.arbitrate.bridge = s.bridge ∨ ∃ n, s.arbitrate = s.beginReady n := by
    cases hp : s.link.readyPlace with
    | none =>
      obtain ⟨tx, rp, ns, p, h⟩ := s.arbitrate_frame hp
      exact .inl (h ▸ rfl)
    | some n =>
      unfold State.arbitrate
      split
      · exact .inl rfl
      · exact .inr ⟨n, by rw [hp]⟩
  · exact h
  · rw [h]
    exact (State.bridge_of_rail (State.followSilence_rail _)).trans rfl

end Sys2Proof.Machine
end

section
/-! The interlock (R52, R62): what the operations that move the rail make of the drive. -/

namespace Sys2Proof.Machine

/-! ### Entering a rail state -/

/-- R52, R55: entering a state keeps the drive in MOVING and HOMING, brakes in every other, and leaves the view. -/
theorem State.enterRail_bridge (st : RailState) (why : RailReason) (s : State) :
    (s.enterRail st why).bridge = (st, if st = .moving ∨ st = .homing then s.rail.drive else .brake, s.rail.occupied) := by
  have report (u : State) : (u.reportRail why).bridge = u.bridge := (State.bridge_of_rail (State.notify_rail ..)).trans rfl
  unfold State.enterRail
  simp only
  split_ifs
  · rfl
  · rfl
  · exact (report _).trans rfl
  · exact (report _).trans rfl

/-- What is not MOVING or HOMING brakes, so the interlock holds whatever stood before. -/
theorem State.enterRail_braked {st : RailState} (h : st ≠ .moving ∧ st ≠ .homing) (why : RailReason) (s : State) :
    (s.enterRail st why).interlocked := by
  refine State.interlocked_of_bridge (b := { s with rail := { s.rail with state := st, drive := .brake } }) ?_ ?_
  · rw [State.enterRail_bridge, if_neg (not_or.mpr h)]
    rfl
  · simp [State.interlocked, Rail.driven, Rail.inMotion, h.1, h.2]

/-- MOVING and HOMING are entered with the motor driven and the view empty. -/
theorem State.enterRail_driven {st : RailState} (h : st = .moving ∨ st = .homing) (why : RailReason) {s : State}
    (hd : s.rail.driven = true) (ho : s.rail.occupied = false) : (s.enterRail st why).interlocked := by
  refine State.interlocked_of_bridge (b := { s with rail := { s.rail with state := st } }) ?_ ?_
  · rw [State.enterRail_bridge, if_pos h]
    rfl
  · exact ⟨⟨fun _ => h, fun _ => hd⟩, fun _ => ho⟩

/-! ### Moves, homings and faults -/

theorem Motion.arrivalState_rests (m : Motion) : m.arrivalState ≠ .moving ∧ m.arrivalState ≠ .homing := by
  unfold Motion.arrivalState
  split
  · decide
  · decide
  · decide
  · cases m.target with
    | none => decide
    | some g => cases g <;> decide

theorem State.arrive_interlocked (why : RailReason) {s : State} (h : s.interlocked) : (s.arrive why).interlocked := by
  unfold State.arrive
  split
  · exact h
  next m _ => exact State.enterRail_braked m.arrivalState_rests _ _

theorem Rail.toward_driven (r : Rail) (target : Nat) : r.toward target = .forward ∨ r.toward target = .reverse := by
  unfold Rail.toward
  split
  · exact .inl rfl
  · exact .inr rfl

theorem State.driveMove_interlocked (why arrival : RailReason) (start : Bool) {s : State} (h : s.interlocked)
    (ho : s.rail.occupied = false) : (s.driveMove why arrival start).interlocked := by
  unfold State.driveMove
  split
  · exact h
  · simp only
    split
    · exact State.arrive_interlocked _ h
    · exact State.enterRail_driven (.inl rfl) _ ((Rail.driven_iff _).mpr (s.rail.toward_driven _)) ho

theorem State.driveHome_interlocked (why : RailReason) {s : State} (ho : s.rail.occupied = false) :
    (s.driveHome why).interlocked := by
  refine State.enterRail_driven (.inr rfl) _ ((Rail.driven_iff _).mpr ?_) ho
  change (if _ then Drive.forward else .reverse) = .forward ∨ (if _ then Drive.forward else .reverse) = .reverse
  split
  · exact .inl rfl
  · exact .inr rfl

theorem State.faultRail_interlocked (kind : RailFault) {s : State} (h : s.interlocked) : (s.faultRail kind).interlocked := by
  unfold State.faultRail
  split
  · exact h
  · exact State.interlocked_of_bridge rfl (State.enterRail_braked (by decide) _ _)

theorem State.beginHome_interlocked (s : State) : s.beginHome.interlocked := by
  unfold State.beginHome
  simp only
  split
  · exact State.enterRail_braked (by decide) _ _
  next ho => exact State.driveHome_interlocked _ (Bool.eq_false_iff.mpr ho)

theorem State.autoHome_interlocked {s : State} (h : s.interlocked) : s.autoHome.interlocked := by
  unfold State.autoHome
  split
  · exact keeps_due (State.beginHome_interlocked _) (State.interlocked_of_bridge (b := s) rfl h)
  · exact h

theorem State.setUpMove_interlocked (g : RailTarget) (p : Policy) {s : State} (h : s.interlocked) :
    (s.setUpMove g p).interlocked := by
  unfold State.setUpMove
  simp only
  split
  · exact State.enterRail_braked (by decide) _ _
  next ho =>
    exact State.driveMove_interlocked _ _ _ (State.interlocked_of_bridge (b := s) rfl h) (Bool.eq_false_iff.mpr ho)

theorem State.replaceTarget_interlocked (g : RailTarget) (p : Policy) {s : State} (h : s.interlocked) :
    (s.replaceTarget g p).interlocked := by
  unfold State.replaceTarget
  split
  · exact h
  · have h' (m : Motion) : ({ s with rail := { s.rail with motion := some m } } : State).interlocked :=
      State.interlocked_of_bridge (b := s) rfl h
    simp only
    split
    next hm => exact State.driveMove_interlocked _ _ _ (h' _) (h.2 (.inl hm))
    · exact h' _

/-! ### Requests -/

theorem State.railMove_interlocked (g : RailTarget) (p : Policy) {s : State} (h : s.interlocked) :
    (s.railMove g p).1.interlocked := by
  have hsetUp := State.setUpMove_interlocked g p h
  have hreplace := State.replaceTarget_interlocked g p h
  unfold State.railMove
  split
  case h_1 | h_2 | h_3 => exact h
  case h_4 => split <;> [exact h; exact hreplace]
  case h_5 => exact hreplace
  case h_6 | h_7 => split <;> [exact h; exact hsetUp]
  case h_8 => exact hsetUp

theorem State.railStop_interlocked {s : State} (h : s.interlocked) : s.railStop.1.interlocked := by
  unfold State.railStop
  simp only
  split
  case h_1 | h_2 => exact State.enterRail_braked (by decide) _ _
  case h_3 => exact State.enterRail_braked (by split <;> decide) _ _
  case h_4 => exact h

theorem State.railConfig_interlocked (c : RailConfig) {s : State} (h : s.interlocked) : (s.railConfig c).1.interlocked := by
  unfold State.railConfig
  split
  · exact h
  · split
    case h_4 => exact State.interlocked_of_bridge (b := s) rfl h
    all_goals exact h

/-! ### Inputs -/

theorem State.encoderStep_interlocked (up : Bool) {s : State} (h : s.interlocked) : (s.encoderStep up).interlocked := by
  have h' (x : Option Nat) (m : Option Motion) : ({ s with rail := { s.rail with position := x, motion := m } } : State).interlocked :=
    State.interlocked_of_bridge (b := s) rfl h
  unfold State.encoderStep
  simp only
  split
  next hm => exact State.driveMove_interlocked _ _ _ (h' _ _) (h.2 (.inl hm))
  · exact h' _ _

theorem State.encoderIllegal_interlocked {s : State} (h : s.interlocked) : s.encoderIllegal.interlocked := by
  unfold State.encoderIllegal
  split
  · exact h
  · exact State.faultRail_interlocked _ h

theorem State.indexEdge_interlocked {s : State} (h : s.interlocked) : s.indexEdge.interlocked := by
  have h' : ({ s with rail := s.rail.continuing s.clock } : State).interlocked := State.interlocked_of_bridge (b := s) rfl h
  unfold State.indexEdge
  split
  · simp only
    split
    next hm => exact State.driveMove_interlocked _ _ _ h' (h.2 (.inr hm))
    · exact keeps_due (State.arrive_interlocked _ h') h'
    · exact h
  · exact h

theorem State.switchLevelSet_interlocked (sw : EndSwitch) (b : Bool) {s : State} (h : s.interlocked) :
    (s.switchLevelSet sw b).interlocked :=
  State.interlocked_of_bridge (State.bridge_of_rail (s.switchLevelSet_rail sw b)) h

theorem State.switchCloses_interlocked (sw : EndSwitch) {s : State} (h : s.interlocked) : (s.switchCloses sw).interlocked := by
  have fault (kind : RailFault) := State.faultRail_interlocked kind h
  unfold State.switchCloses
  split
  · exact keeps_due h (fault _)
  · cases sw with
    | silent => exact fault _
    | acoustic => exact keeps_due (fault _) h
  · cases sw with
    | silent => exact h
    | acoustic => exact keeps_due (fault _) h
  · exact h

theorem State.switchOpens_interlocked (sw : EndSwitch) {s : State} (h : s.interlocked) : (s.switchOpens sw).interlocked := by
  unfold State.switchOpens
  split
  · split
    next hm => exact ⟨⟨fun _ => .inr hm, fun _ => rfl⟩, fun _ => h.2 (.inr hm)⟩
    · exact State.interlocked_of_bridge (b := s) rfl h
    · exact h
  · exact h

/-! ### The flight table -/

theorem State.flightAdded_interlocked {s : State} (h : s.interlocked) : s.flightAdded.interlocked := by
  unfold State.flightAdded
  simp only
  split
  · exact State.enterRail_braked (by decide) _ _
  next hm => exact ⟨h.1, fun hm' => absurd hm' hm⟩

theorem Rail.resumed_bridge (r : Rail) :
    r.resumed.state = r.state ∧ r.resumed.drive = r.drive ∧ r.resumed.occupied = r.occupied := by
  unfold Rail.resumed
  split
  · exact ⟨rfl, rfl, rfl⟩
  · split_ifs
    · split <;> exact ⟨rfl, rfl, rfl⟩
    · exact ⟨rfl, rfl, rfl⟩

theorem State.flightEmptied_interlocked {s : State} (h : s.interlocked) : s.flightEmptied.interlocked := by
  have h' : ({ s with rail := { s.rail with occupied := false } } : State).interlocked := ⟨h.1, fun _ => rfl⟩
  unfold State.flightEmptied
  simp only
  split
  · split
    · exact h'
    · split
      · exact State.driveHome_interlocked _ rfl
      · obtain ⟨hs, hd, ho⟩ := Rail.resumed_bridge { s.rail with occupied := false }
        refine State.driveMove_interlocked _ _ _ (State.interlocked_of_bridge ?_ h') ho
        exact Prod.ext hs (Prod.ext hd ho)
  · exact h'

theorem State.perform_interlocked (t : Time) {s : State} (h : s.interlocked) (a : KeyAct) : (s.perform t a).interlocked := by
  cases a with
  | flightAdded => exact State.flightAdded_interlocked h
  | flightRemoved => exact keeps_due (State.flightEmptied_interlocked h) h
  | event b => exact State.interlocked_of_bridge (s.route_sameControl b t).bridge_eq h
  | count c => exact State.interlocked_of_bridge (b := s) rfl h
  | notice n => exact State.interlocked_of_bridge (s.notify_sameControl n).bridge_eq h

/-- A key is replaced, and what it asks for is performed. -/
theorem State.settles_interlocked (t : Time) (i : Nat) (r : Key × List KeyAct) {s : State} (h : s.interlocked) :
    (r.2.foldl (State.perform t) (s.setKey i r.1)).interlocked :=
  List.foldlRecOn r.2 _ (State.interlocked_of_bridge (b := s) rfl h) fun _ hu a _ => State.perform_interlocked t hu a

theorem State.scanFrame_interlocked (ks hs : List Nat) (p : PedalRaws) {s : State} (h : s.interlocked) :
    (s.scanFrame ks hs p).interlocked := by
  have key (u : State) (hu : u.interlocked) (i : Nat) : (u.scanKey ks hs i).interlocked := by
    unfold State.scanKey
    split
    · exact hu
    · exact State.settles_interlocked _ _ _ hu
  have pedal {q : Pedal} {raw : Nat} {u : State} (hu : u.interlocked) : (u.scanPedal q raw).interlocked :=
    State.interlocked_of_bridge (State.bridge_of_rail (State.scanPedal_rail ..)) hu
  unfold State.scanFrame
  exact keeps_due (pedal (pedal (pedal (List.foldlRecOn keyIndices _ h fun u hu i _ => key u hu i)))) h

theorem State.settleCal_interlocked (i : Nat) (c : CalRecord) {s : State} (h : s.interlocked) :
    (s.settleCal i c).1.interlocked := by
  unfold State.settleCal
  split
  · exact h
  · simp only
    split
    · exact State.settles_interlocked _ _ _ h
    · exact State.interlocked_of_bridge (b := s) rfl h

/-! ### The resets and the setup -/

/-- R73: a warm reset leaves no state in which the motor is driven; UNHOMED, which keeps its drive mode, had it still. -/
theorem Rail.warm_stands {r : Rail} (h : r.driven = true ↔ r.inMotion) : r.warm.driven = false ∧ ¬r.warm.inMotion := by
  unfold Rail.warm
  simp only
  split
  case h_8 hu =>
    have hn : ¬r.inMotion := by simp [Rail.inMotion, hu]
    exact ⟨Bool.eq_false_iff.mpr fun hd => hn (h.mp hd), hn⟩
  all_goals simp [Rail.driven, Rail.inMotion, *]

theorem State.warmReset_interlocked {s : State} (h : s.interlocked) : s.warmReset.interlocked := by
  have hb : s.warmReset.bridge = s.warmBlocks.bridge := by
    unfold State.warmReset
    simp only
    split <;> rfl
  have hr : s.warmBlocks.rail = s.rail.warm := by
    rw [State.warmBlocks, State.warmRecorder_eq]
  obtain ⟨hd, hm⟩ := Rail.warm_stands h.1
  refine State.interlocked_of_bridge hb ?_
  rw [State.interlocked, hr]
  exact ⟨by simp [hd, hm], fun hm' => absurd hm' hm⟩

theorem State.setupDone_interlocked {s : State} (h : s.interlocked) : s.setupDone.interlocked := by
  unfold State.setupDone
  split
  · exact h
  · exact State.interlocked_of_bridge (b := s) rfl h

end Sys2Proof.Machine
end

section
/-! The interlock (R52, R62): every command, and every step. -/

namespace Sys2Proof.Machine

/-! ### A command's operation, its reply and the arbiter -/

/-- An event whose operation leaves the rail. -/
theorem State.idleEvent_bridge {s s' : State} {op : State → State} {t : Time}
    (h : (Host.Outcome.next (s.atTime t op) : Host.Outcome State Fault Refusal) = .next s')
    (hop : ∀ u, (op u).rail = u.rail) : s'.bridge = s.bridge := by
  cases h
  exact (State.arbitrate_bridge _).trans ((State.bridge_of_rail (hop _)).trans rfl)

/-- A request whose run leaves the rail. -/
theorem State.idleRequest_bridge {s s' : State} {run : State → State × Status × Content} {q : Request} {t : Time}
    (h : (Host.Outcome.next (s.takeRequest q t run) : Host.Outcome State Fault Refusal) = .next s')
    (hr : ∀ u, (run u).1.rail = u.rail) : s'.bridge = s.bridge := by
  cases h
  unfold State.takeRequest
  simp only
  split
  · rfl
  · split
    · exact (State.arbitrate_bridge _).trans ((State.bridge_of_rail (hr _)).trans rfl)
    · rfl

section
variable {s s' : State} (hs : s.interlocked)
include hs

/-- What keeps the interlock as an event's operation keeps it as the event. -/
theorem State.interlocked_event {op : State → State} {t : Time}
    (h : (Host.Outcome.next (s.atTime t op) : Host.Outcome State Fault Refusal) = .next s')
    (hop : ∀ u, u.interlocked → (op u).interlocked) : s'.interlocked := by
  cases h
  exact State.interlocked_of_bridge (State.arbitrate_bridge _) (hop _ (State.interlocked_of_bridge (b := s) rfl hs))

/-- What keeps the interlock as a request's run keeps it as the request. -/
theorem State.interlocked_request {run : State → State × Status × Content} {q : Request} {t : Time}
    (h : (Host.Outcome.next (s.takeRequest q t run) : Host.Outcome State Fault Refusal) = .next s')
    (hr : ∀ u, u.interlocked → (run u).1.interlocked) : s'.interlocked := by
  have hu : (s.upTo t).interlocked := State.interlocked_of_bridge (b := s) rfl hs
  cases h
  unfold State.takeRequest
  simp only
  split
  · exact hu
  · split
    · exact State.interlocked_of_bridge (State.arbitrate_bridge _) (State.interlocked_of_bridge rfl
        (hr (s.upTo t).popRequest (State.interlocked_of_bridge (b := s.upTo t) rfl hu)))
    · exact hu

end

/-- An event that acts when it is due. -/
theorem State.due_rail {p : Prop} [Decidable p] {u s : State} (h : u.rail = s.rail) : (if p then u else s).rail = s.rail :=
  keeps_due (P := fun v => v.rail = s.rail) h rfl

/-- A request that is refused unless its operand passes. -/
theorem State.checked_rail {p : Prop} [Decidable p] {u s : State} {x y : Status} (h : u.rail = s.rail) :
    (if p then (u, x) else (s, y)).1.rail = s.rail :=
  keeps_checked (P := fun v => v.rail = s.rail) h rfl

/-- A request that refuses an operand out of its named values. -/
theorem State.named_rail {α β : Type} {x : Option α} {refusal : β} {run : α → State × β} {u : State}
    (h : ∀ a, (run a).1.rail = u.rail) : (x.elim (u, refusal) run).1.rail = u.rail := by
  cases x with
  | none => rfl
  | some a => exact h a

/-! ### The commands -/

/-- The commands that can move the rail. -/
def movesRail : Instr → Bool
  | .fullReset _ | .autoHome _ | .setupAreaReadDone _ | .warmReset _ | .scanFrame _ _ _ _ | .encoderChange _ _ | .indexEdge _ _
  | .endSwitchClose _ _ | .endSwitchOpen _ _ | .railStall _ | .railTravelTimeout _ | .calSet _ _ _ | .captureEnd _
  | .railMove _ _ _ | .railHome _ | .railStop _ | .railConfig _ _ _ _ _ _ _ _ => true
  | _ => false

/-- Every other command leaves the rail as it is, but for its times and its auto-home mark. -/
theorem exec_bridge {c : Instr} {s s' : State} (hc : movesRail c = false) (h : exec c s = .next s') : s'.bridge = s.bridge := by
  have event {op : State → State} {t : Time} := State.idleEvent_bridge (s := s) (s' := s') (op := op) (t := t)
  have request {run : State → State × Status × Content} {q : Request} {t : Time} :=
    State.idleRequest_bridge (s := s) (s' := s') (run := run) (q := q) (t := t)
  cases c with
  | fullReset _ | autoHome _ | setupAreaReadDone _ | warmReset _ | scanFrame _ _ _ _ | encoderChange _ _ | indexEdge _ _
  | endSwitchClose _ _ | endSwitchOpen _ _ | railStall _ | railTravelTimeout _ | calSet _ _ _ | captureEnd _
  | railMove _ _ _ | railHome _ | railStop _ | railConfig _ _ _ _ _ _ _ _ => cases hc
  | rxFrame t b | byteReceived t b => exact event h (State.receive_rail b)
  | rxGapTimeout t => exact event h State.rxGap_rail
  | unknownKind t _ => exact event h State.rejectFrame_rail
  | txFrameDone t => exact event h State.txDone_rail
  | streamHoldTimer t | settleTimer t => exact event h fun _ => State.due_rail rfl
  | segmentReadDone t =>
    refine event h fun u => ?_
    cases u.fetch.inFlight with
    | none => rfl
    | some e => exact u.segmentDone_rail e
  | soundsetLoadDone t => exact event h State.loadDone_rail
  | outputFrame t => exact event h State.outputFrame_rail
  | audioBlockBoundary t => exact event h State.audioBoundary_rail
  | plugDetectChange t b => exact event h (State.plugLine_rail b)
  | plugSettleTimer t => exact event h fun u => State.due_rail u.plugSettled_rail
  | muteLineChange t b => exact event h (State.muteLine_rail b)
  | recTakeClockTick t => exact event h fun _ => rfl
  | cueDone t => exact event h fun u => State.due_rail u.cueDone_sameControl.rail
  | playerTick t => exact event h fun u => State.due_rail u.playTick_sameControl.rail
  | waitTimer t => exact event h fun u => State.due_rail u.waitExpires_sameControl.rail
  | threshSet t x => exact request h (State.threshSet_rail x)
  | curveSet t x ps => exact request h fun u => State.named_rail fun c => u.curveSet_rail c ps
  | faultClear t x => exact request h (State.faultClear_rail x)
  | captureBegin t => exact request h State.captureBegin_rail
  | captureCancel t => exact request h State.captureCancel_rail
  | pedalCal t p a b => exact request h fun u => State.named_rail fun p => u.pedalCal_rail p a b
  | pedalMode t p m n =>
    refine request h fun u => ?_
    cases p <;> cases m <;> [rfl; rfl; rfl; exact u.pedalMode_rail ..]
  | routeSet t m n x =>
    refine request h fun u => ?_
    cases m <;> cases x <;> [rfl; rfl; rfl; exact u.routeSet_rail ..]
  | polySet t n p =>
    refine request h fun u => ?_
    cases p <;> [rfl; exact State.checked_rail (u.setPoly_rail n _)]
  | soundOff t c => exact request h fun u => by cases c <;> rfl
  | soundsetReload t =>
    refine request h fun u => ?_
    unfold plainly
    simp only
    split <;> rfl
  | volumeSet t m => exact request h fun u => State.checked_rail (State.followSilence_rail _)
  | mixSet t a b x c =>
    refine request h fun u => ?_
    cases x <;> cases c <;> [rfl; rfl; rfl; exact State.checked_rail (State.followSilence_rail _)]
  | hpConfig t w p m =>
    refine request h fun u => ?_
    cases p <;> cases m <;> [rfl; rfl; rfl; exact State.checked_rail (u.setHeadphones_rail ..)]
  | unmute t => exact request h State.unmute_rail
  | recStart t id a n => exact request h fun u => State.named_rail fun a => (u.recStart_sameControl id a n).rail
  | recMark t n => exact request h fun u => (u.recMark_sameControl n).rail
  | recPause t => exact request h fun u => u.recPause_sameControl.rail
  | recResume t => exact request h fun u => u.recResume_sameControl.rail
  | recStop t => exact request h fun u => u.recStop_sameControl.rail
  | streamConfig t m a b => exact request h fun u => by cases m <;> rfl
  | playStart t id a b l x p r =>
    exact request h fun u => State.named_rail fun p => (u.playStart_sameControl id a b l x p r).rail
  | playStop t w => exact request h fun u => State.named_rail fun w => (u.playStop_sameControl w).rail
  | playPause t w => exact request h fun u => State.named_rail fun w => (u.playPause_sameControl w).rail
  | playContinue t => exact request h fun u => u.playContinue_sameControl.rail
  | playTempo t n w => exact request h fun u => State.named_rail fun w => (u.playTempo_sameControl n w).rail
  | playParts t p => exact request h fun u => State.named_rail fun p => (u.playParts_sameControl p).rail
  | waitConfig t a b => exact request h fun u => (u.waitConfig_sameControl a b).rail
  | playSuspend t x => exact request h fun u => State.named_rail fun x => (u.playSuspend_sameControl x).rail
  | playResume t x => exact request h fun u => State.named_rail fun x => (u.playResume_sameControl x).rail
  | slotDiscard t x => exact request h fun u => State.named_rail fun x => (u.slotDiscard_sameControl x).rail
  | statsRead t n => exact request h (State.statsRead_rail n)
  | keyQuery t _ | scanQuery t | pedalQuery t | routeQuery t | railQuery t | voiceQuery t | voiceRead t _ _
  | soundsetQuery t | zoneRead t _ _ | streamRead t _ | mixQuery t | takeList t | takeInfo t _ | takeRename t _ _
  | takeDelete t _ | uploadOpen t _ _ _ | uploadBlock t _ _ | downloadOpen t _ _ _ | downloadBlock t | transferAbort t
  | recQuery t | streamQuery t | playerQuery t | status t | identify t | restart t =>
    exact request h fun _ => rfl

theorem exec_interlocked {c : Instr} {s s' : State} (hs : s.interlocked) (h : exec c s = .next s') : s'.interlocked := by
  have event {op : State → State} {t : Time} := State.interlocked_event (op := op) (t := t) hs (s' := s')
  have request {run : State → State × Status × Content} {q : Request} {t : Time} :=
    State.interlocked_request (run := run) (q := q) (t := t) hs (s' := s')
  cases hc : movesRail c with
  | false => exact State.interlocked_of_bridge (exec_bridge hc h) hs
  | true =>
    cases c with
    | fullReset b =>
      cases h
      obtain ⟨-, -, hreset, -⟩ := theResetStateHasTheInvariants
      exact State.interlocked_of_bridge (b := State.reset) rfl hreset
    | autoHome t => exact event h fun _ => State.autoHome_interlocked
    | setupAreaReadDone t => exact event h fun _ => State.setupDone_interlocked
    | warmReset t => exact event h fun _ hu => keeps_due (State.warmReset_interlocked hu) hu
    | scanFrame t ks hs' p => exact event h fun _ => State.scanFrame_interlocked ks hs' p
    | encoderChange t x =>
      cases x with
      | step up => exact event h fun _ => State.encoderStep_interlocked up
      | illegal => exact event h fun _ => State.encoderIllegal_interlocked
    | indexEdge t b =>
      have level {u : State} (hu : u.interlocked) : ({ u with pins := { u.pins with index := b } } : State).interlocked :=
        State.interlocked_of_bridge (b := u) rfl hu
      exact event h fun _ hu => keeps_due (State.indexEdge_interlocked (level hu)) (level hu)
    | endSwitchClose t sw =>
      exact event h fun _ hu => State.switchCloses_interlocked sw (State.switchLevelSet_interlocked sw true hu)
    | endSwitchOpen t sw =>
      exact event h fun _ hu => State.switchOpens_interlocked sw (State.switchLevelSet_interlocked sw false hu)
    | railStall t | railTravelTimeout t => exact event h fun _ hu => keeps_due (State.faultRail_interlocked _ hu) hu
    | calSet t i c =>
      exact request h fun _ hu => State.calSet_keeps (fun i c _ => State.settleCal_interlocked i c) i c hu
    | captureEnd t =>
      exact request h fun u hu => State.captureEnd_keeps (fun i c _ => State.settleCal_interlocked i c)
        (State.interlocked_of_bridge (b := u) rfl hu) hu
    | railMove t g p =>
      refine request h fun u hu => ?_
      cases g <;> cases p <;> [exact hu; exact hu; exact hu; exact State.railMove_interlocked _ _ hu]
    | railHome t => exact request h fun u _ => u.beginHome_interlocked
    | railStop t => exact request h fun _ => State.railStop_interlocked
    | railConfig t a b m n l x o =>
      refine request h fun u hu => ?_
      cases o <;> [exact hu; exact State.railConfig_interlocked _ hu]
    | _ => cases hc

/-- Settles O54: an operation that enters a rail state brakes the motor, or drives it with the view empty
(`State.enterRail_braked`, `State.enterRail_driven`); a report of a flight record is the only one that fills the view, and it
brakes a driven rail. -/
theorem stepsKeepTheRailInterlock : Obligations.StepsKeepTheRailInterlock := by
  intro s s' hs _ h
  obtain rfl | ⟨c, cs, -, h⟩ := step_cases h
  · exact State.interlocked_of_bridge (b := s) rfl hs
  · exact exec_interlocked (s := { s with pending := cs }) hs h

end Sys2Proof.Machine
end

section
/-! Time passing (R8, R57, R118, R147, R157, R164, R177). -/

namespace Sys2Proof.Machine

/-- R57: the rail as time passes, by its drive mode. -/
theorem Rail.elapse_eq (dt : Nat) (r : Rail) :
    r.elapse dt = { r with
      motion := if r.drive = .forward ∨ r.drive = .reverse then
          r.motion.map fun m => { m with driven := m.driven + dt }
        else r.motion
      faultNow := r.faultNow && dt == 0 } := by
  simp only [Rail.elapse, Rail.driven_iff]

theorem emptyQueueLetsAMicrosecondPass : Claims.EmptyQueueLetsAMicrosecondPass := by
  intro s h
  have hone : since s.clock (s.clock + 1) = 1 := by
    have : s.clock + 1 - s.clock = 1 := by rw [BitVec.add_comm, BitVec.add_sub_cancel]
    rw [since, this]
    rfl
  rw [step, h, State.upTo, hone]

theorem timeMovesOnlyTheClockAndTheTimers : Claims.TimeMovesOnlyTheClockAndTheTimers := by
  intro s t
  have hclock : s.clock + BitVec.ofNat 32 (since s.clock t) = t := s.upTo_clock t
  rw [State.upTo, State.elapse, hclock, Rail.elapse_eq]
  rfl

/-- Settles O2: the clock reads the time it is taken to (`State.upTo_clock`), and each block's times are those of its `elapse`. -/
theorem timePassesAndMovesOnlyTheClockAndTheTimers : Obligations.TimePassesAndMovesOnlyTheClockAndTheTimers :=
  ⟨emptyQueueLetsAMicrosecondPass, timeMovesOnlyTheClockAndTheTimers⟩

end Sys2Proof.Machine
end

section
/-! What a change of rail state, an arrival, a drive and a fault make of the whole part (R8, R52, R55, R60, R61, R65, R70). -/

namespace Sys2Proof.Machine

/-! ### Entering a rail state (R8, R52, R55) -/

/-- Entering MOVING or HOMING with the rail as `r` keeps the drive; it is a change of rail state unless that state stood. -/
theorem State.enterRail_drives {st : RailState} (h : st = .moving ∨ st = .homing) (why : RailReason) (r : Rail) (s : State) :
    ({ s with rail := r } : State).enterRail st why =
      if r.state = st then { s with rail := { r with state := st } } else s.railEnters st why r := by
  have hother : ∀ g, st ≠ RailState.ofTarget g := by
    rintro (_ | _) rfl <;> exact absurd h (by decide)
  simp only [State.enterRail, if_pos h, State.reportRail, Scanner.railReport_elsewhere hother]
  rfl

/-- The states that are neither driven nor a target: entering one brakes and starts no settle timer. -/
abbrev RailState.stands (st : RailState) : Prop := st = .unhomed ∨ st = .parked ∨ st = .held ∨ st = .fault

/-- Entering such a state with the rail as `r`, likewise. -/
theorem State.enterRail_brakes {st : RailState} (h : st.stands) (why : RailReason) (r : Rail) (s : State) :
    ({ s with rail := r } : State).enterRail st why =
      if r.state = st then { s with rail := { r with state := st, drive := .brake, duty := 0 } }
      else s.railEnters st why { r with drive := .brake, duty := 0 } := by
  have hstill : ¬(st = .moving ∨ st = .homing) := by obtain rfl | rfl | rfl | rfl := h <;> decide
  have hother (g : RailTarget) : st ≠ RailState.ofTarget g := by
    obtain rfl | rfl | rfl | rfl := h <;> cases g <;> decide
  simp only [State.enterRail, if_neg hstill, State.reportRail, Scanner.railReport_elsewhere hother]
  rfl

/-- R62: a change to HELD. -/
theorem State.enterRail_held (why : RailReason) {r : Rail} (hne : r.state ≠ .held) (s : State) :
    ({ s with rail := r } : State).enterRail .held why = s.railEnters .held why { r with drive := .brake, duty := 0 } :=
  (State.enterRail_brakes (by decide) why r s).trans (if_neg hne)

/-! ### Arrivals (R60, R61) -/

/-- Only a rail that rests stands at a target. -/
theorem RailState.ne_ofTarget {st : RailState} (h : st = .moving ∨ st = .homing ∨ st = .held) (g : RailTarget) :
    st ≠ RailState.ofTarget g := by
  obtain rfl | rfl | rfl := h <;> cases g <;> decide

/-- R61: the motion ends at the target `g`, as it stands or as the origin of a retreat. -/
def Motion.endsAt (m : Motion) (g : RailTarget) : Prop :=
  m.retreating = false ∧ m.target = some g
    ∨ m.retreating = true ∧ m.origin = some (match g with | .acoustic => .acoustic | .silent => .silent)

theorem Motion.endsAt.arrivalState {m : Motion} {g : RailTarget} (h : m.endsAt g) : m.arrivalState = RailState.ofTarget g := by
  obtain ⟨hr, ht⟩ | ⟨hr, ho⟩ := h
  · simp [Motion.arrivalState, hr, ht]
  · cases g <;> simp [Motion.arrivalState, hr, ho, RailState.ofTarget]

/-- R61: an arrival at a target from another state. -/
theorem State.arrive_eq {s : State} {m : Motion} {g : RailTarget} (why : RailReason) (hm : s.rail.motion = some m)
    (hg : m.endsAt g) (hne : s.rail.state ≠ RailState.ofTarget g) : s.arrive why = s.railArrives g why := by
  have hstill : ¬(RailState.ofTarget g = .moving ∨ RailState.ofTarget g = .homing) := by cases g <;> decide
  simp only [State.arrive, hm, hg.arrivalState, State.enterRail, if_neg hstill, State.tally_rail, if_neg hne, State.reportRail,
    State.tally_scanner, Scanner.railReport_ofTarget]
  rfl

/-- R60: within 8 counts of a target. -/
theorem Rail.near_iff {r : Rail} {x : Nat} (h : r.position = some x) (goal : Nat) :
    r.near goal = true ↔ ¬outsideWindow x goal := by
  have hnear : r.near goal = decide (dist x goal ≤ 8) := by rw [Rail.near, h, Option.any_some]
  rw [hnear, decide_eq_true_eq, dist, outsideWindow]
  omega

theorem Rail.near_of_outside {r : Rail} {x goal : Nat} (h : r.position = some x) (ho : outsideWindow x goal) :
    r.near goal = false := Bool.eq_false_iff.mpr fun hn => (Rail.near_iff h goal).mp hn ho

theorem Rail.toward_eq {r : Rail} {x : Nat} (h : r.position = some x) (goal : Nat) :
    r.toward goal = if x < goal then .forward else .reverse := by
  rw [Rail.toward, h, Option.getD_some]

/-! ### Drives (R57, R60, R65) -/

section
variable {s : State} {m : Motion} {x goal : Nat} (why arrival : RailReason) (start : Bool) (hm : s.rail.motion = some m)
  (hx : s.rail.position = some x) (hgoal : m.targetPos = some goal)
include hm hx hgoal

/-- R60: a move inside the window of its target arrives. -/
theorem State.driveMove_arrives (h : ¬outsideWindow x goal) : s.driveMove why arrival start = s.arrive arrival := by
  simp only [State.driveMove, hm, hgoal, Option.getD_some, if_pos ((Rail.near_iff hx goal).mpr h)]

/-- R60: a move outside it is driven toward its target, in MOVING. -/
theorem State.driveMove_drives {now : Time} (hnow : s.clock = now) (h : outsideWindow x goal) :
    s.driveMove why arrival start =
      let r := { s.rail with
        motion := some (if start then { m with lastChange := now } else m)
        drive := if x < goal then .forward else .reverse, duty := s.rail.config.moveDuty }
      if s.rail.state = .moving then { s with rail := { r with state := .moving } } else s.railEnters .moving why r := by
  subst hnow
  let m' := if start then { m with lastChange := s.clock } else m
  let drive : Drive := if x < goal then .forward else .reverse
  refine Eq.trans ?_ (State.enterRail_drives (.inl rfl) why
    { s.rail with motion := some m', drive, duty := s.rail.config.moveDuty } s)
  have htarget : m.targetPos.getD 0 = goal := by rw [hgoal, Option.getD_some]
  simp only [State.driveMove, hm, htarget, Rail.near_of_outside hx h, Rail.toward_eq hx goal]
  rfl

end

/-- R65: a homing is driven by its phase, in HOMING. -/
theorem State.driveHome_eq {s : State} {m : Motion} (why : RailReason) (hm : s.rail.motion = some m) :
    s.driveHome why =
      let r := { s.rail with
        motion := some { m with lastChange := s.clock }
        drive := if s.rail.phase = some .escape then .forward else .reverse, duty := s.rail.config.homingDuty }
      if s.rail.state = .homing then { s with rail := { r with state := .homing } } else s.railEnters .homing why r := by
  let drive : Drive := if s.rail.phase = some .escape then .forward else .reverse
  refine Eq.trans ?_ (State.enterRail_drives (.inr rfl) why
    { s.rail with motion := some { m with lastChange := s.clock }, drive, duty := s.rail.config.homingDuty } s)
  simp only [State.driveHome, Rail.homingDrive, hm, Option.map_some]
  rfl

/-! ### Faults (R70) -/

theorem State.faultRail_eq (kind : RailFault) {s : State} (h : s.rail.state ≠ .fault) : s.faultRail kind = s.railFaults kind := by
  have henter := (State.enterRail_brakes (by decide) (.fault kind)
    { s.rail with lastFault := some kind, phase := none, faultNow := kind.timed } s).trans (if_neg h)
  rw [State.faultRail, if_neg h, henter]
  cases kind <;> rfl

theorem State.faultRail_inFault (kind : RailFault) {s : State} (h : s.rail.state = .fault) : s.faultRail kind = s := if_pos h

/-! ### Time and the motion record (R57) -/

/-- The motion record of a rail that is driven, and of one that stands, after time has passed. -/
theorem State.upTo_motion_driven {s : State} {m : Motion} (t : Time) (hm : s.rail.motion = some m)
    (hd : s.rail.drive = .forward ∨ s.rail.drive = .reverse) :
    (s.upTo t).rail.motion = some { m with driven := m.driven + (t - s.clock).toNat } := by
  rw [State.upTo_rail_motion, if_pos ((Rail.driven_iff _).mpr hd), hm]
  rfl

/-- Time changes of a motion record its driven time alone. -/
theorem State.upTo_motion {s : State} {m : Motion} (t : Time) (hm : s.rail.motion = some m) :
    ∃ n, (s.upTo t).rail.motion = some { m with driven := n } := by
  rw [State.upTo_rail_motion, hm]
  split
  · exact ⟨_, rfl⟩
  · exact ⟨m.driven, rfl⟩

end Sys2Proof.Machine
end

section
/-! RAIL_STOP, RAIL_MOVE, RAIL_HOME, AUTO_HOME and RAIL_CONFIG (R56 to R62, R64, R66, R72). -/

namespace Sys2Proof.Machine

/-! ### The rail's requests do not see the request queue -/

/-- A request's run that leaves the request queue alone and does not look at it. -/
def queueBlind (run : State → State × Status) : Prop :=
  ∀ (rest : List Frame) (s : State), run (s.withRequests rest) = ((run s).1.withRequests rest, (run s).2)

/-- A request whose run is blind to the queue is answered on the state its run leaves at the request's time. -/
theorem queueBlind.answers {s : State} {q : Request} {f : Frame} {rest : List Frame} {t : Time} {run : State → State × Status}
    {v : State} {x : Status} (hb : queueBlind run) (h : s.offers q f rest) (e : run (s.upTo t) = (v, x)) (l : v.link.taking) :
    (Host.Outcome.next (s.takeRequest q t (plainly run)) : Host.Outcome State Fault Refusal)
      = .next (v.answering f rest x .nothing) :=
  plainly_answers h (by rw [hb, e]) l

theorem State.railEnters_taking {s : State} (st : RailState) (why : RailReason) (r : Rail) (h : s.link.taking) :
    (s.railEnters st why r).link.taking := State.notify_taking _ h

theorem State.railArrives_taking {s : State} (g : RailTarget) (why : RailReason) (h : s.link.taking) :
    (s.railArrives g why).link.taking := State.notify_taking _ h

/-- R66: a motion that is stopped ends in the state `st`. -/
def State.stopIn (st : RailState) (s : State) : State :=
  ({ s with rail := { s.rail with motion := none, phase := none } } : State).enterRail st .stopped

theorem State.railStop_eq (s : State) :
    s.railStop =
      match s.rail.state with
      | .moving => (s.stopIn .parked, .ok)
      | .homing => (s.stopIn .unhomed, .ok)
      | .held => (s.stopIn (if s.rail.homingMotion then .unhomed else .parked), .ok)
      | _ => (s, .refusedState) := rfl

theorem State.railStop_blind : queueBlind State.railStop := by
  intro rest s
  have hstop (st : RailState) : (s.withRequests rest).stopIn st = (s.stopIn st).withRequests rest :=
    State.enterRail_withRequests rest st .stopped { s with rail := { s.rail with motion := none, phase := none } }
  have hr : (s.withRequests rest).rail = s.rail := rfl
  rw [State.railStop_eq, State.railStop_eq]
  simp only [hstop, hr]
  cases s.rail.state <;> rfl

theorem State.setUpMove_withRequests (rest : List Frame) (g : RailTarget) (p : Policy) (s : State) :
    (s.withRequests rest).setUpMove g p = (s.setUpMove g p).withRequests rest := by
  have hr : (s.withRequests rest).rail = s.rail := rfl
  simp only [State.setUpMove, hr]
  split
  · exact State.enterRail_withRequests rest .held .held { s with rail := { s.rail with motion := some _, phase := none } }
  · exact State.driveMove_withRequests rest .commanded .arrived true
      { s with rail := { s.rail with motion := some _, phase := none } }

theorem State.replaceTarget_withRequests (rest : List Frame) (g : RailTarget) (p : Policy) (s : State) :
    (s.withRequests rest).replaceTarget g p = (s.replaceTarget g p).withRequests rest := by
  have hr : (s.withRequests rest).rail = s.rail := rfl
  simp only [State.replaceTarget, hr]
  cases s.rail.motion with
  | none => rfl
  | some m =>
    simp only
    split
    · exact State.driveMove_withRequests rest .commanded .arrived true { s with rail := { s.rail with motion := some _ } }
    · rfl

theorem State.railMove_blind (g : RailTarget) (p : Policy) : queueBlind (State.railMove g p) := by
  intro rest s
  have hsetUp := State.setUpMove_withRequests rest g p s
  have hreplace := State.replaceTarget_withRequests rest g p s
  have hr : (s.withRequests rest).rail = s.rail := rfl
  simp only [State.railMove, hr, hsetUp, hreplace]
  cases s.rail.state with
  | unhomed | homing | fault | moving | parked => rfl
  | held | acoustic | silent => simp only; split <;> rfl

theorem State.beginHome_withRequests (rest : List Frame) (s : State) :
    (s.withRequests rest).beginHome = s.beginHome.withRequests rest := by
  have hr : (s.withRequests rest).rail = s.rail := rfl
  simp only [State.beginHome, hr]
  split
  · exact State.enterRail_withRequests rest .held .held { s with rail := { s.rail with
      motion := some _, position := none, autoHomeDue := false
      phase := some (if s.pins.acousticSwitch then .escape else .seek) } }
  · exact State.driveHome_withRequests rest .commanded { s with rail := { s.rail with
      motion := some _, position := none, autoHomeDue := false
      phase := some (if s.pins.acousticSwitch then .escape else .seek) } }

theorem State.railConfig_blind (c : RailConfig) : queueBlind (State.railConfig c) := by
  intro rest s
  have hr : (s.withRequests rest).rail = s.rail := rfl
  simp only [State.railConfig, hr]
  split
  · rfl
  · cases s.rail.state <;> rfl

/-! ### RAIL_STOP (R66) -/

/-- R66: the rail is braked as it enters that state. -/
theorem State.stopIn_eq {st : RailState} {s : State} (h : st.stands) (hne : s.rail.state ≠ st) :
    s.stopIn st = s.railEnters st .stopped { s.rail with motion := none, phase := none, drive := .brake, duty := 0 } :=
  (State.enterRail_brakes h .stopped { s.rail with motion := none, phase := none } s).trans (if_neg hne)

theorem Rail.homingMotion_iff {r : Rail} {m : Motion} (h : r.motion = some m) : r.homingMotion = true ↔ m.kind = .home := by
  simp [Rail.homingMotion, h]

/-- Settles O10: the rail state decides what is stopped, and what stops is braked where it stands. -/
theorem railStopIsSettledByTheRailState : Obligations.RailStopIsSettledByTheRailState := by
  intro s t f rest h u stopped
  have hl : u.link.taking := State.offers_taking t h
  have stops {st was : RailState} (e : u.railStop = (u.stopIn st, .ok)) (hst : st.stands)
      (hwas : u.rail.state = was) (hne : was ≠ st) : exec (.railStop t) s = stopped st :=
    State.railStop_blind.answers h (e.trans (by rw [State.stopIn_eq hst (hwas ▸ hne)])) (State.railEnters_taking _ _ _ hl)
  refine ⟨fun hs => ?_, fun hs => ?_, fun m hs hm => ?_, fun hmoving hhoming hheld => ?_⟩
  · have hu : u.rail.state = .moving := hs
    exact stops (by rw [State.railStop_eq, hu]) (by decide) hu (by decide)
  · have hu : u.rail.state = .homing := hs
    exact stops (by rw [State.railStop_eq, hu]) (by decide) hu (by decide)
  · have hu : u.rail.state = .held := hs
    obtain ⟨n, hmotion⟩ := State.upTo_motion t hm
    have hkind : u.rail.homingMotion = true ↔ m.kind = .home := by rw [Rail.homingMotion_iff hmotion]
    have hstop : u.railStop = (u.stopIn (if u.rail.homingMotion then .unhomed else .parked), .ok) := by
      rw [State.railStop_eq, hu]
    cases hk : m.kind with
    | move =>
      rw [if_neg (by rw [hkind, hk]; decide)] at hstop
      exact stops hstop (by decide) hu (by decide)
    | home =>
      rw [if_pos (by rw [hkind, hk])] at hstop
      exact stops hstop (by decide) hu (by decide)
  · refine State.railStop_blind.answers h ?_ hl
    rw [State.railStop_eq]
    split
    next hc => exact absurd hc hmoving
    next hc => exact absurd hc hhoming
    next hc => exact absurd hc hheld
    · rfl

/-! ### RAIL_CONFIG (R56) -/

theorem railConfigOk_iff (c : RailConfig) :
    railConfigOk c = true ↔ c.acoustic ≤ 4095 ∧ c.silent ≤ 4095 ∧ 10 ≤ c.moveDuty ∧ c.moveDuty ≤ 100 ∧ 10 ≤ c.homingDuty
      ∧ c.homingDuty ≤ 100 ∧ 500 ≤ c.travelLimit ∧ c.travelLimit ≤ 10000 ∧ c.settle ≤ 2000 ∧ c.acoustic + 17 ≤ c.silent := by
  simp only [railConfigOk, inRange_iff, Bool.and_eq_true, decide_eq_true_eq, and_assoc]

/-- R56: RAIL_CONFIG, its ranges met, by the rail state. -/
theorem State.railConfig_eq (c : RailConfig) (s : State) :
    s.railConfig c =
      if ¬railConfigOk c = true then (s, .badArgument)
      else if s.rail.state = .moving ∨ s.rail.state = .held ∨ s.rail.state = .homing then (s, .busy)
      else ({ s with rail := { s.rail with config := c } }, .ok) := by
  unfold State.railConfig
  cases railConfigOk c with
  | false => rfl
  | true => cases s.rail.state <;> rfl

/-- Settles O13: the ranges of R56, then the rail state. -/
theorem railConfigIsSettledByTheRailState : Obligations.RailConfigIsSettledByTheRailState := by
  intro s t f rest a b d g l w x h u answer
  have hl : u.link.taking := State.offers_taking t h
  let c : RailConfig :=
    { acoustic := a, silent := b, moveDuty := d, homingDuty := g, travelLimit := l, settle := w, autoHome := x }
  have answers {v : State} {y : Status} (e : u.railConfig c = (v, y)) (l' : v.link.taking) :
      exec (.railConfig t a b d g l w (some x)) s = answer v y := (State.railConfig_blind c).answers h e l'
  refine ⟨queueBlind.answers (run := fun s' => (s', .badArgument)) (fun _ _ => rfl) h rfl hl, ?_⟩
  have hok := railConfigOk_iff c
  have hc := u.railConfig_eq c
  simp only [hok] at hc
  split
  next hrange => exact answers (hc.trans (if_pos hrange)) hl
  next hrange =>
    have hc := hc.trans (if_neg hrange)
    split
    next hstate => exact answers (hc.trans (if_pos hstate)) hl
    next hstate => exact answers (hc.trans (if_neg hstate)) hl

end Sys2Proof.Machine
end

section
/-! RAIL_HOME, AUTO_HOME and RAIL_MOVE (R57 to R62, R64, R72). -/

namespace Sys2Proof.Machine

/-! ### RAIL_HOME and AUTO_HOME (R64, R72) -/

/-- R64: the rail as a homing sets it up at time `now`, the ACOUSTIC end switch closed or open. -/
def Rail.forgets (now : Time) (closed : Bool) (r : Rail) : Rail :=
  { r with
    motion := some { kind := .home, target := none, targetPos := none, origin := none, policy := .pause, retreating := false,
                     driven := 0, lastChange := now }
    position := none, autoHomeDue := false, phase := some (if closed then .escape else .seek) }

theorem State.beginHome_eq (s : State) :
    s.beginHome =
      let s' : State := { s with rail := s.rail.forgets s.clock s.pins.acousticSwitch }
      if s.rail.occupied then s'.enterRail .held .held else s'.driveHome .commanded := rfl

/-- R64, R65: a homing begins in HELD, braked, while a hammer is in flight, and in HOMING, driven in its phase, while the table is
empty. -/
theorem State.beginHome_settles {s : State} {t : Time} (hclock : s.clock = t) :
    s.beginHome =
      let st : RailState := if s.rail.occupied then .held else .homing
      let r := { s.rail.forgets t s.pins.acousticSwitch with
        drive := if s.rail.occupied then .brake else if s.pins.acousticSwitch then .forward else .reverse
        duty := if s.rail.occupied then 0 else s.rail.config.homingDuty }
      if s.rail.state = st then { s with rail := { r with state := st } }
      else s.railEnters st (if s.rail.occupied then .held else .commanded) r := by
  subst hclock
  rw [State.beginHome_eq]
  cases ho : s.rail.occupied with
  | true => exact State.enterRail_brakes (by decide) .held _ s
  | false =>
    refine (State.driveHome_eq .commanded rfl).trans ?_
    cases hsw : s.pins.acousticSwitch <;> rfl

/-- R72: auto-home, due in UNHOMED. -/
theorem State.autoHome_due {s : State} (hdue : s.rail.autoHomeDue = true) (hs : s.rail.state = .unhomed) :
    s.autoHome = s.beginHome := by
  rw [State.autoHome, if_pos hdue]
  exact (if_pos hs).trans rfl

/-- Settles O12: a homing begins in HELD or HOMING by the view of the flight table, for the request and for auto-home alike. -/
theorem homingBegins : Obligations.HomingBegins := by
  intro s t u st why r home
  have hhome : u.beginHome = home := State.beginHome_settles (s.upTo_clock t)
  constructor
  · intro f rest h
    have hl : home.link.taking := by
      have hu : u.link.taking := State.offers_taking t h
      change (if _ then _ else _ : State).link.taking
      split
      · exact hu
      · exact State.railEnters_taking _ _ _ hu
    have hblind : queueBlind fun s' => (s'.beginHome, .ok) := fun rest s => Prod.ext (s.beginHome_withRequests rest) rfl
    exact hblind.answers h (by rw [hhome]) hl
  · intro hdue hs
    change Host.Outcome.next u.autoHome.arbitrate = _
    rw [State.autoHome_due (s := u) hdue hs, hhome]

end Sys2Proof.Machine
end

section
/-! RAIL_MOVE (R57 to R62). -/

namespace Sys2Proof.Machine

/-! ### What RAIL_MOVE does, by the rail state (R58, R59) -/

/-- R58: a rail that rests at the target named. -/
theorem State.railMove_rests {s : State} {g : RailTarget} (p : Policy) (hs : s.rail.state = RailState.ofTarget g)
    (hnear : s.rail.near (s.rail.config.position g) = true) : s.railMove g p = (s, .ok) := by
  cases g with
  | acoustic =>
    have hs : s.rail.state = .acoustic := hs
    rw [State.railMove, hs]
    exact if_pos ⟨rfl, hnear⟩
  | silent =>
    have hs : s.rail.state = .silent := hs
    rw [State.railMove, hs]
    exact if_pos ⟨rfl, hnear⟩

/-- R58: a rail that rests elsewhere, or outside the window of the target it rests at. -/
theorem State.railMove_setsUp {s : State} {g : RailTarget} (p : Policy)
    (hs : s.rail.state = .acoustic ∨ s.rail.state = .silent ∨ s.rail.state = .parked)
    (hnear : s.rail.state = RailState.ofTarget g → s.rail.near (s.rail.config.position g) = false) :
    s.railMove g p = (s.setUpMove g p, .ok) := by
  have hrests : ¬(s.rail.state = RailState.ofTarget g ∧ s.rail.near (s.rail.config.position g) = true) :=
    fun ⟨ht, hn⟩ => Bool.false_ne_true ((hnear ht).symm.trans hn)
  obtain hs | hs | hs := hs <;> rw [hs] at hrests <;> rw [State.railMove, hs]
  · exact if_neg hrests
  · exact if_neg hrests

theorem railMoveIsRefusedWithoutChange : Claims.RailMoveIsRefusedWithoutChange := by
  intro s t f rest g p h answer
  have hl : (s.upTo t).link.taking := State.offers_taking t h
  have answers {x : Status} (e : (s.upTo t).railMove g p = (s.upTo t, x)) :
      exec (.railMove t (some g) (some p)) s = answer x := (State.railMove_blind g p).answers h e hl
  have refused : queueBlind fun s' => (s', .badArgument) := fun _ _ => rfl
  refine ⟨fun q => refused.answers h rfl hl, fun g' => ?_, fun hs => answers ?_, fun m hs hm hk => answers ?_,
    fun hs => answers ?_, fun x hs hx hin => answers (State.railMove_rests p hs ?_)⟩
  · cases g' <;> exact refused.answers h rfl hl
  · obtain hs | hs := hs <;> rw [State.railMove, State.upTo_rail_state, hs]
  · obtain ⟨n, hmotion⟩ := State.upTo_motion t hm
    have hhoming : (s.upTo t).rail.homingMotion = true := (Rail.homingMotion_iff hmotion).mpr hk
    rw [State.railMove, State.upTo_rail_state, hs]
    exact if_pos hhoming
  · rw [State.railMove, State.upTo_rail_state, hs]
  · exact (Rail.near_iff hx _).mpr hin

/-! ### Setting up a motion (R57, R58, R60, R62) -/

/-- R57, R58: the rail with a new MOVE motion to the target `g`, set up at time `now`. -/
def Rail.setsOut (now : Time) (g : RailTarget) (p : Policy) (r : Rail) : Rail :=
  { r with
    motion := some { kind := .move, target := some g, targetPos := some (r.config.position g), origin := r.state.origin
                     policy := p, retreating := false, driven := 0, lastChange := now }
    phase := none }

theorem State.setUpMove_eq (g : RailTarget) (p : Policy) (s : State) :
    s.setUpMove g p =
      let s' : State := { s with rail := s.rail.setsOut s.clock g p }
      if s.rail.occupied then s'.enterRail .held .held else s'.driveMove .commanded .arrived true := rfl

theorem railMoveSetsUpAMotion : Claims.RailMoveSetsUpAMotion := by
  intro s t f rest g p x h hst hx u goal m r
  have hl : u.link.taking := State.offers_taking t h
  have horigin : s.rail.state.origin
      = some (match s.rail.state with | .acoustic => .acoustic | .silent => .silent | _ => .parked) := by
    obtain hs | hs | hs := hst <;> rw [hs] <;> rfl
  let u' : State := { u with rail := r }
  have hset : u.setUpMove g p =
      if s.rail.occupied then u'.enterRail .held .held else u'.driveMove .commanded .arrived true := by
    have hr : u.rail.setsOut u.clock g p = r := by
      rw [s.upTo_clock t]
      exact congrArg (fun o => { u.rail with motion := some { m with origin := o }, phase := none }) horigin
    rw [State.setUpMove_eq, hr]
    rfl
  have answers {v : State} (hnear : s.rail.state = RailState.ofTarget g → outsideWindow x goal) (e : u.setUpMove g p = v)
      (l : v.link.taking) : exec (.railMove t (some g) (some p)) s = .next (v.answering f rest .ok .nothing) :=
    (State.railMove_blind g p).answers h
      (e ▸ State.railMove_setsUp (s := u) p hst fun hs => Rail.near_of_outside hx (hnear hs)) l
  have hne : s.rail.state ≠ .held ∧ s.rail.state ≠ .moving := by obtain hs | hs | hs := hst <;> rw [hs] <;> decide
  refine ⟨fun ho hnear => ?_, fun ho hout => ?_, fun ho hother hin => ?_⟩
  · refine answers hnear ?_ (State.railEnters_taking _ _ _ hl)
    rw [hset, if_pos ho]
    exact State.enterRail_held (r := r) .held hne.1 u
  · refine answers (fun _ => hout) ?_ (State.railEnters_taking _ _ _ hl)
    rw [hset, if_neg (by simp [ho])]
    exact (State.driveMove_drives (s := u') .commanded .arrived true rfl hx rfl (s.upTo_clock t) hout).trans (if_neg hne.2)
  · refine answers (fun hs => absurd hs hother) ?_ (State.railArrives_taking _ _ hl)
    rw [hset, if_neg (by simp [ho]), State.driveMove_arrives (s := u') .commanded .arrived true rfl hx rfl hin]
    exact State.arrive_eq (s := u') .arrived rfl (.inl ⟨rfl, rfl⟩) hother

/-! ### Replacing the target of a motion (R59) -/

/-- R59: the motion with its target replaced. -/
def Motion.replaced (g : RailTarget) (goal : Nat) (p : Policy) (m : Motion) : Motion :=
  { m with target := some g, targetPos := some goal, policy := p, retreating := false, driven := 0 }

theorem State.replaceTarget_eq {s : State} {m : Motion} (g : RailTarget) (p : Policy) (hm : s.rail.motion = some m) :
    s.replaceTarget g p =
      let s' : State := { s with rail := { s.rail with motion := some (m.replaced g (s.rail.config.position g) p) } }
      if s.rail.state = .moving then s'.driveMove .commanded .arrived true else s' := by
  simp only [State.replaceTarget, hm]
  rfl

/-- R58, R59: a MOVE motion that is under way or HELD has its target replaced. -/
theorem State.railMove_replaces {s : State} {m : Motion} (g : RailTarget) (p : Policy) (hm : s.rail.motion = some m)
    (hs : s.rail.state = .moving ∨ s.rail.state = .held ∧ m.kind = .move) : s.railMove g p = (s.replaceTarget g p, .ok) := by
  obtain hs | ⟨hs, hk⟩ := hs
  · rw [State.railMove, hs]
  · have hmove : ¬s.rail.homingMotion = true := by rw [Rail.homingMotion_iff hm, hk]; decide
    rw [State.railMove, hs]
    exact if_neg hmove

theorem railMoveReplacesTheTarget : Claims.RailMoveReplacesTheTarget := by
  intro s t f rest g p x m h hm hx u goal m'
  have hl : u.link.taking := State.offers_taking t h
  obtain ⟨n, hmotion⟩ := State.upTo_motion t hm
  let w : Motion := { m with driven := n }
  have hmotion : u.rail.motion = some w := hmotion
  let u' : State := { u with rail := { u.rail with motion := some (w.replaced g goal p) } }
  have hm' (last : Time) : m' last = { w.replaced g goal p with lastChange := last } :=
    congrArg (fun o : Option Motion => { (o.getD m).replaced g goal p with lastChange := last }) hmotion
  have hreplace : u.replaceTarget g p = if s.rail.state = .moving then u'.driveMove .commanded .arrived true else u' :=
    State.replaceTarget_eq g p hmotion
  have answers {v : State} (hs : s.rail.state = .moving ∨ s.rail.state = .held ∧ m.kind = .move)
      (e : u.replaceTarget g p = v) (l : v.link.taking) :
      exec (.railMove t (some g) (some p)) s = .next (v.answering f rest .ok .nothing) :=
    (State.railMove_blind g p).answers h (e ▸ State.railMove_replaces g p hmotion hs) l
  refine ⟨fun hs hout => ?_, fun hs hin => ?_, fun hs hk => ?_⟩
  · have hu : u.rail.state = .moving := hs
    refine answers (.inl hs) ?_ hl
    rw [hreplace, if_pos hs, hm']
    refine (State.driveMove_drives (s := u') .commanded .arrived true rfl hx rfl (s.upTo_clock t) hout).trans ((if_pos hs).trans ?_)
    rw [← hu]
    rfl
  · refine answers (.inl hs) ?_ (State.railArrives_taking _ _ hl)
    rw [hreplace, if_pos hs, State.driveMove_arrives (s := u') .commanded .arrived true rfl hx rfl hin]
    exact State.arrive_eq (s := u') .arrived rfl (.inl ⟨rfl, rfl⟩) (RailState.ne_ofTarget (.inl hs) g)
  · refine answers (.inr ⟨hs, hk⟩) ?_ hl
    rw [hreplace, if_neg (by rw [hs]; decide), hm']
    rfl

/-- Settles O11: the rail state, then the view of the flight table and the window of the target, decide. -/
theorem railMoveIsSettledByTheRailState : Obligations.RailMoveIsSettledByTheRailState :=
  ⟨railMoveIsRefusedWithoutChange, railMoveSetsUpAMotion, railMoveReplacesTheTarget⟩

end Sys2Proof.Machine
end

section
/-! The rail's faults and the flight table (R62, R63, R67 to R70). -/

namespace Sys2Proof.Machine

/-! ### Faults (R67 to R70) -/

theorem State.stalled_iff {s : State} {m : Motion} (hm : s.rail.motion = some m) :
    s.stalled = true ↔ s.rail.driven = true ∧ 150000 ≤ since m.lastChange s.clock := by
  simp [State.stalled, hm]

theorem State.overTravel_iff {s : State} {m : Motion} (hm : s.rail.motion = some m) :
    s.overTravel = true ↔ s.rail.driven = true ∧ s.rail.config.travelLimit * 1000 < m.driven := by
  simp [State.overTravel, hm]

/-- R68: an end switch closes in MOVING within the window of the target, and outside it. -/
theorem State.switchCloses_near {s : State} {m : Motion} {x goal : Nat} (sw : EndSwitch) (hs : s.rail.state = .moving)
    (hm : s.rail.motion = some m) (hx : s.rail.position = some x) (hgoal : m.targetPos = some goal)
    (h : ¬outsideWindow x goal) : s.switchCloses sw = s := by
  have hnear : s.rail.near ((s.rail.motion.bind (·.targetPos)).getD 0) = true := by
    rw [hm, Option.bind_some, hgoal]
    exact (Rail.near_iff hx goal).mpr h
  unfold State.switchCloses
  rw [hs]
  exact if_pos hnear

theorem State.switchCloses_outside {s : State} {m : Motion} {x goal : Nat} (sw : EndSwitch) (hs : s.rail.state = .moving)
    (hm : s.rail.motion = some m) (hx : s.rail.position = some x) (hgoal : m.targetPos = some goal)
    (h : outsideWindow x goal) : s.switchCloses sw = s.faultRail .limit := by
  have hnear : s.rail.near ((s.rail.motion.bind (·.targetPos)).getD 0) = false := by
    rw [hm, Option.bind_some, hgoal]
    exact Rail.near_of_outside hx h
  unfold State.switchCloses
  rw [hs]
  exact if_neg (Bool.eq_false_iff.mp hnear)

/-- R65, R69: the ACOUSTIC end switch closes in a homing, HOMING or HELD. -/
theorem State.switchCloses_acoustic {s : State} (hs : s.rail.state = .homing ∨ s.rail.state = .held) :
    s.switchCloses .acoustic = if s.rail.phase = some .seek then s.faultRail .noIndex else s := by
  obtain hs | hs := hs <;> rw [State.switchCloses, hs]

/-- R68: no end switch has a use in a rail that neither moves nor homes. -/
theorem State.switchCloses_idle {s : State} (sw : EndSwitch) (hmoving : s.rail.state ≠ .moving)
    (hhoming : s.rail.state ≠ .homing) (hheld : s.rail.state ≠ .held) : s.switchCloses sw = s := by
  unfold State.switchCloses
  split
  next h => exact absurd h hmoving
  next h => exact absurd h hhoming
  next h => exact absurd h hheld
  · rfl

theorem railFaultConditionsBrakeTheRail : Claims.RailFaultConditionsBrakeTheRail := by
  intro s t u driven close
  have hrail (sw : EndSwitch) : (close sw).rail = u.rail := by cases sw <;> rfl
  have closes {sw : EndSwitch} {kind : RailFault} (hs : s.rail.state ≠ .fault)
      (e : (close sw).switchCloses sw = (close sw).faultRail kind) :
      exec (.endSwitchClose t sw) s = .next ((close sw).railFaults kind).arbitrate := by
    have hclose : u.switchLevelSet sw true = close sw := by cases sw <;> rfl
    change Host.Outcome.next ((u.switchLevelSet sw true).switchCloses sw).arbitrate = _
    rw [hclose, e, State.faultRail_eq kind (by rw [hrail]; exact hs)]
  refine ⟨fun hun hs => ?_, fun m hm hs hd hlast => ?_, fun m hm hs hd hdriven => ?_, fun m sw x goal hm hs hx hgoal hout => ?_,
    fun hs => ?_, fun hs hp => ?_⟩
  · have hu : u.rail.state ≠ .unhomed := hun
    change Host.Outcome.next u.encoderIllegal.arbitrate = _
    rw [State.encoderIllegal, if_neg hu, State.faultRail_eq (s := u) _ hs]
  · have hstalled : u.stalled = true := by
      rw [State.stalled_iff (State.upTo_motion_driven t hm hd), s.upTo_clock]
      exact ⟨(Rail.driven_iff _).mpr hd, hlast⟩
    change Host.Outcome.next (if u.stalled then u.faultRail .stall else u).arbitrate = _
    rw [if_pos hstalled, State.faultRail_eq (s := u) _ hs]
  · have hover : u.overTravel = true := by
      rw [State.overTravel_iff (State.upTo_motion_driven t hm hd)]
      exact ⟨(Rail.driven_iff _).mpr hd, hdriven⟩
    change Host.Outcome.next (if u.overTravel then u.faultRail .timeout else u).arbitrate = _
    rw [if_pos hover, State.faultRail_eq (s := u) _ hs]
  · obtain ⟨n, hmotion⟩ := State.upTo_motion t hm
    refine closes (by rw [hs]; decide) (State.switchCloses_outside (m := { m with driven := n }) (x := x) sw ?_ ?_ ?_ hgoal hout)
    · rw [hrail]; exact hs
    · rw [hrail]; exact hmotion
    · rw [hrail]; exact hx
  · have hc : (close .silent).rail.state = .homing := hs
    refine closes (by rw [hs]; decide) ?_
    rw [State.switchCloses, hc]
  · refine closes (by obtain hs | hs := hs <;> rw [hs] <;> decide) ?_
    exact (State.switchCloses_acoustic (s := close .acoustic) hs).trans (if_pos hp)

theorem aFaultedRailTakesNoNewFault : Claims.AFaultedRailTakesNoNewFault := by
  intro s t hs u
  have hfault (kind : RailFault) : u.faultRail kind = u := State.faultRail_inFault kind hs
  have closes (sw : EndSwitch) (v : State) (hv : v.rail = u.rail) : v.switchCloses sw = v := by
    have hstate : v.rail.state = .fault := by rw [hv]; exact hs
    exact State.switchCloses_idle sw (by rw [hstate]; decide) (by rw [hstate]; decide) (by rw [hstate]; decide)
  refine ⟨?_, ?_, ?_, ?_, ?_⟩
  · change Host.Outcome.next u.encoderIllegal.arbitrate = _
    rw [State.encoderIllegal, hfault, ite_self]
  · change Host.Outcome.next (if u.stalled then u.faultRail .stall else u).arbitrate = _
    rw [hfault, ite_self]
  · change Host.Outcome.next (if u.overTravel then u.faultRail .timeout else u).arbitrate = _
    rw [hfault, ite_self]
  · exact congrArg (fun v => Host.Outcome.next v.arbitrate) (closes .acoustic (u.switchLevelSet .acoustic true) rfl)
  · exact congrArg (fun v => Host.Outcome.next v.arbitrate) (closes .silent (u.switchLevelSet .silent true) rfl)

/-- Settles O14: each condition is met at the event's time, and a fault taken outside FAULT is the rule's (`State.faultRail_eq`). -/
theorem railFaultsBrakeTheRail : Obligations.RailFaultsBrakeTheRail :=
  ⟨railFaultConditionsBrakeTheRail, aFaultedRailTakesNoNewFault⟩

/-! ### The flight table (R60 to R63) -/

theorem aHammerInFlightBrakesTheRail : Claims.AHammerInFlightBrakesTheRail := by
  intro s
  unfold State.flightAdded
  simp only
  split
  next hm =>
    have hne : s.rail.state ≠ .held := by obtain hm | hm := hm <;> rw [hm] <;> decide
    exact State.enterRail_held (r := { s.rail with occupied := true }) .held hne s
  · rfl

/-- R63: the target that a held RETREAT turns back to. -/
def Motion.turnsTo (m : Motion) : Option RailTarget :=
  if m.policy = .retreat ∧ m.retreating = false then
    match m.origin with | some .acoustic => some .acoustic | some .silent => some .silent | _ => none
  else none

/-- R63: the motion turned back to the target `g`, under the configuration `c`. -/
def Motion.turned (c : RailConfig) (g : RailTarget) (m : Motion) : Motion :=
  { m with target := some g, targetPos := some (c.position g), retreating := true, driven := 0 }

/-- R63: the motion that a held move goes on with. -/
def Motion.goesOn (c : RailConfig) (m : Motion) : Motion :=
  match m.turnsTo with
  | some g => m.turned c g
  | none => m

theorem Rail.resumed_eq {r : Rail} {m : Motion} (hm : r.motion = some m) (hk : m.kind = .move) :
    r.resumed = { r with motion := some (m.goesOn r.config) } := by
  have hsame : r = { r with motion := some m } := by rw [← hm]
  have hcond : (m.kind = .move ∧ m.policy = .retreat ∧ m.retreating = false) ↔ m.policy = .retreat ∧ m.retreating = false :=
    and_iff_right hk
  simp only [Rail.resumed, hm, Motion.goesOn, Motion.turnsTo, hcond]
  split
  · cases m.origin with
    | none => exact hsame
    | some o =>
      cases o with
      | acoustic | silent => rfl
      | parked => exact hsame
  · exact hsame

/-- R62: the state with the view of the flight table empty. -/
def State.viewEmptied (s : State) : State := { s with rail := { s.rail with occupied := false } }

theorem State.flightEmptied_held {s : State} {m : Motion} (hs : s.rail.state = .held) (hm : s.rail.motion = some m) :
    s.flightEmptied =
      match m.kind with
      | .home => s.viewEmptied.driveHome .resumed
      | .move =>
        let r := s.viewEmptied.rail.resumed
        ({ s.viewEmptied with rail := r } : State).driveMove .resumed r.arrivalReason true := by
  refine (if_pos hs).trans ?_
  rw [hm]
  rfl

section
variable {s : State} {m : Motion} {x goal : Nat} (hs : s.rail.state = .held) (hm : s.rail.motion = some m) (hk : m.kind = .move)
include hs hm hk

/-- R63: a held move goes on with the motion that `Motion.goesOn` names. -/
theorem State.flightEmptied_move :
    s.flightEmptied =
      ({ s with rail := { s.rail with occupied := false, motion := some (m.goesOn s.rail.config) } } : State).driveMove .resumed
        (if (m.goesOn s.rail.config).retreating then .retreated else .arrived) true := by
  have hres : s.viewEmptied.rail.resumed = _ := Rail.resumed_eq hm hk
  rw [State.flightEmptied_held hs hm, hk]
  simp only [hres]
  rfl

variable (hx : s.rail.position = some x) (hgoal : (m.goesOn s.rail.config).targetPos = some goal)
include hx hgoal

/-- R60, R63: outside the window of where it goes it is driven there. -/
theorem State.flightEmptied_drives (h : outsideWindow x goal) :
    s.flightEmptied = s.railEnters .moving .resumed { s.rail with
      occupied := false, motion := some { m.goesOn s.rail.config with lastChange := s.clock }
      duty := s.rail.config.moveDuty, drive := if x < goal then .forward else .reverse } := by
  have hmoving : s.rail.state ≠ .moving := by rw [hs]; decide
  let v : State := { s with rail := { s.rail with occupied := false, motion := some (m.goesOn s.rail.config) } }
  rw [State.flightEmptied_move hs hm hk]
  exact (State.driveMove_drives (s := v) .resumed _ true rfl hx hgoal rfl h).trans (if_neg hmoving)

/-- R60, R61, R63: inside it, it arrives at once. -/
theorem State.flightEmptied_arrives (h : ¬outsideWindow x goal) {g : RailTarget} (hg : (m.goesOn s.rail.config).endsAt g)
    {why : RailReason} (hwhy : (if (m.goesOn s.rail.config).retreating then .retreated else .arrived) = why) :
    s.flightEmptied =
      ({ s with rail := { s.rail with occupied := false, motion := some (m.goesOn s.rail.config) } } : State).railArrives g
        why := by
  let v : State := { s with rail := { s.rail with occupied := false, motion := some (m.goesOn s.rail.config) } }
  rw [State.flightEmptied_move hs hm hk, hwhy]
  exact (State.driveMove_arrives (s := v) .resumed _ true rfl hx hgoal h).trans
    (State.arrive_eq (s := v) _ rfl hg (RailState.ne_ofTarget (.inr (.inr hs)) g))

end

theorem theRailGoesOnWhenTheTableEmpties : Claims.TheRailGoesOnWhenTheTableEmpties := by
  intro s
  refine ⟨fun hs => if_neg hs, fun m hs hm => ?_⟩
  obtain ⟨kind, target, targetPos, origin, policy, retreating, driven, lastChange⟩ := m
  cases kind with
  | home =>
    have hhoming : s.rail.state ≠ .homing := by rw [hs]; decide
    change s.flightEmptied = _
    rw [State.flightEmptied_held hs hm]
    exact (State.driveHome_eq (s := s.viewEmptied) .resumed hm).trans (if_neg hhoming)
  | move =>
    intro r x goal hx hgoal
    refine ⟨State.flightEmptied_drives hs hm rfl hx hgoal, fun g hin => ⟨fun hr ht => ?_, fun hr ho => ?_⟩⟩
    · exact State.flightEmptied_arrives hs hm rfl hx hgoal hin (.inl ⟨hr, ht⟩) (if_neg (Bool.eq_false_iff.mp hr))
    · exact State.flightEmptied_arrives hs hm rfl hx hgoal hin (.inr ⟨hr, ho⟩) (if_pos hr)

/-- Settles O16: a driven rail is braked into HELD; a HELD one goes on with the motion that `Motion.goesOn` names. -/
theorem hammersInFlightHoldTheRail : Obligations.HammersInFlightHoldTheRail :=
  ⟨aHammerInFlightBrakesTheRail, theRailGoesOnWhenTheTableEmpties⟩

end Sys2Proof.Machine
end

section
/-! Encoder steps, the end switches and the index (R53, R54, R60, R61, R65, R67, R68). -/

namespace Sys2Proof.Machine

/-! ### Encoder steps (R53, R60, R67) -/

/-- R53, R67: the position after a legal encoder change. -/
def Rail.nextPosition (up : Bool) (r : Rail) : Option Nat :=
  if r.stepMoves then r.position.map (stepPosition up) else r.position

theorem Rail.nextPosition_unhomed {r : Rail} (up : Bool) (h : r.position = none) : r.nextPosition up = r.position := by
  rw [Rail.nextPosition, h, Option.map_none, ite_self]

theorem Rail.nextPosition_moves {r : Rail} {x : Nat} (up : Bool) (hx : r.position = some x)
    (h : r.state = .fault → r.faultNow = true) : r.nextPosition up = some (stepPosition up x) := by
  have hmoves : r.stepMoves = true := by
    by_cases hf : r.state = .fault
    · simp [Rail.stepMoves, h hf]
    · simp [Rail.stepMoves, hf]
  rw [Rail.nextPosition, if_pos hmoves, hx, Option.map_some]

theorem Rail.nextPosition_kept {r : Rail} (up : Bool) (h : r.state = .fault) (hnow : r.faultNow = false) :
    r.nextPosition up = r.position := by
  have hkept : ¬r.stepMoves = true := by simp [Rail.stepMoves, h, hnow]
  rw [Rail.nextPosition, if_neg hkept]

/-- R53: a step of a rail that stands moves the position alone. -/
theorem State.encoderStep_still {s : State} (up : Bool) (hs : s.rail.state ≠ .moving)
    (hd : ¬(s.rail.drive = .forward ∨ s.rail.drive = .reverse)) :
    s.encoderStep up = { s with rail := { s.rail with position := s.rail.nextPosition up } } := by
  have hd' : ¬s.rail.driven = true := fun h => hd ((Rail.driven_iff _).mp h)
  refine (if_neg hs).trans ?_
  rw [if_neg hd']
  rfl

/-- R53: a step of a rail that is driven sets the last encoder change too, and in MOVING the rail then arrives or is driven on. -/
theorem State.encoderStep_driven {s : State} {m : Motion} {now : Time} (up : Bool) (hnow : s.clock = now)
    (hm : s.rail.motion = some m) (hd : s.rail.drive = .forward ∨ s.rail.drive = .reverse) :
    s.encoderStep up =
      let s' : State := { s with rail := { s.rail with
        position := s.rail.nextPosition up, motion := some { m with lastChange := now } } }
      if s.rail.state = .moving then
        s'.driveMove .commanded (if m.retreating then .retreated else .arrived) false
      else s' := by
  subst hnow
  have hmotion : (if s.rail.driven then s.rail.motion.map fun m => { m with lastChange := s.clock } else s.rail.motion)
      = some { m with lastChange := s.clock } := by
    rw [if_pos ((Rail.driven_iff _).mpr hd), hm, Option.map_some]
  rw [State.encoderStep, hmotion]
  rfl

/-- R67: the moment of a fault lasts as long as the clock stands (log 18). -/
theorem State.upTo_faultNow (t : Time) (s : State) : (s.upTo t).rail.faultNow = (s.rail.faultNow && t == s.clock) := by
  have hdt : (since s.clock t == 0) = (t == s.clock) := by
    rw [Bool.eq_iff_iff, beq_iff_eq, beq_iff_eq, since]
    bv_omega
  rw [State.upTo_rail_faultNow, hdt]

theorem encoderStepsMoveThePosition : Claims.EncoderStepsMoveThePosition := by
  intro s t up u driven stepped
  have steps {v : State} (e : u.encoderStep up = v) : exec (.encoderChange t (.step up)) s = .next v.arbitrate :=
    congrArg (fun v => Host.Outcome.next (State.arbitrate v)) e
  have still (hs : s.rail.state ≠ .moving) (hd : ¬driven) := State.encoderStep_still (s := u) up hs hd
  have homed {x : Nat} (hx : s.rail.position = some x) (h : u.rail.state = .fault → u.rail.faultNow = true) :
      u.rail.nextPosition up = some (if up then min 4095 (x + 1) else x - 1) := Rail.nextPosition_moves up hx h
  refine ⟨fun m hx hs hm hd => steps ?_, fun x hx => ⟨fun hs hs' hd => steps ?_, fun hs hnow hd => steps ?_,
    fun hs hnow ht hd => steps ?_, fun m g goal hs hm hgoal hd => ?_⟩⟩
  · have hmoving : u.rail.state ≠ .moving := by rw [s.upTo_rail_state t, hs]; decide
    rw [State.encoderStep_driven (s := u) up (s.upTo_clock t) (State.upTo_motion_driven t hm hd) hd,
      Rail.nextPosition_unhomed up (show u.rail.position = none from hx)]
    exact if_neg hmoving
  · rw [still hs' hd, homed hx fun hf => absurd hf hs]
  · have hgone : u.rail.faultNow = false := by
      rw [State.upTo_faultNow]
      obtain h | h := hnow
      · simp [h]
      · simp [h]
    rw [still (by rw [hs]; decide) hd, Rail.nextPosition_kept (r := u.rail) up hs hgone]
  · have hlasts : u.rail.faultNow = true := by simp [u, State.upTo_faultNow, hnow, ht]
    rw [still (by rw [hs]; decide) hd, homed hx fun _ => hlasts]
  · intro arrives
    have hmoving : u.rail.state = .moving := hs
    let y := stepPosition up x
    let u' : State := { u with rail := { u.rail with position := some y, motion := some (stepped m) } }
    have hstep : u.encoderStep up = u'.driveMove .commanded (if m.retreating then .retreated else .arrived) false := by
      rw [State.encoderStep_driven (s := u) up (s.upTo_clock t) (State.upTo_motion_driven t hm hd) hd,
        homed hx fun hf => absurd hf (by rw [hmoving]; decide)]
      exact if_pos hmoving
    have harrives (hends : (stepped m).endsAt g) {why : RailReason}
        (hwhy : (if m.retreating then .retreated else .arrived) = why) :
        exec (.encoderChange t (.step up)) s = arrives why := by
      rw [hwhy] at hstep
      refine steps (hstep.trans ?_)
      by_cases hout : outsideWindow y goal
      · refine Eq.trans ?_ (if_neg (not_not.mpr hout)).symm
        refine (State.driveMove_drives (s := u') .commanded why false rfl rfl hgoal rfl hout).trans ((if_pos hmoving).trans ?_)
        exact congrArg (fun st => ({ u' with rail := { u'.rail with
          state := st, drive := if y < goal then .forward else .reverse, duty := s.rail.config.moveDuty } } : State)) hmoving.symm
      · refine Eq.trans ?_ (if_pos hout).symm
        exact (State.driveMove_arrives (s := u') .commanded why false rfl rfl hgoal hout).trans
          (State.arrive_eq (s := u') why rfl hends (RailState.ne_ofTarget (.inl hs) g))
    exact ⟨fun hr ht => harrives (.inl ⟨hr, ht⟩) (if_neg (Bool.eq_false_iff.mp hr)),
      fun hr ho => harrives (.inr ⟨hr, ho⟩) (if_pos hr)⟩

/-! ### The index (R54, R65) -/

/-- R65: the rail as the index edge of a homing leaves it, before it drives on. -/
theorem Rail.continuing_eq {r : Rail} {m : Motion} (now : Time) (hm : r.motion = some m) :
    r.continuing now = { r with
      position := some 1024, phase := none
      motion := some { kind := .move, target := some .acoustic, targetPos := some r.config.acoustic, origin := none
                       policy := .pause, retreating := false, driven := 0, lastChange := m.lastChange } } := by
  rw [Rail.continuing, hm]
  rfl

/-- R54: an index edge has no use but in the SEEK phase of a homing, HOMING or HELD. -/
theorem State.indexEdge_idle {s : State} (h : ¬((s.rail.state = .homing ∨ s.rail.state = .held) ∧ s.rail.phase = some .seek)) :
    s.indexEdge = s := by
  unfold State.indexEdge
  split
  next hp =>
    simp only
    split
    next hs => exact absurd ⟨.inl hs, hp⟩ h
    next hs => exact absurd ⟨.inr hs, hp⟩ h
    · rfl
  · rfl

theorem State.indexEdge_homing {s : State} (hs : s.rail.state = .homing) (hp : s.rail.phase = some .seek) :
    s.indexEdge = ({ s with rail := s.rail.continuing s.clock } : State).driveMove .homed .homed false := by
  refine (if_pos hp).trans ?_
  rw [hs]

theorem State.indexEdge_held {s : State} (hs : s.rail.state = .held) (hp : s.rail.phase = some .seek) :
    s.indexEdge =
      let s' : State := { s with rail := s.rail.continuing s.clock }
      if s'.rail.near s'.rail.config.acoustic then s'.arrive .homed else s' := by
  refine (if_pos hp).trans ?_
  rw [hs]

/-! ### The end switches (R54, R65) -/

/-- R54: an end switch that opens has no use but the ACOUSTIC one in the ESCAPE phase of a homing, HOMING or HELD. -/
theorem State.switchOpens_idle {s : State} {sw : EndSwitch}
    (h : ¬(sw = .acoustic ∧ (s.rail.state = .homing ∨ s.rail.state = .held) ∧ s.rail.phase = some .escape)) :
    s.switchOpens sw = s := by
  unfold State.switchOpens
  split
  next hp =>
    obtain ⟨hsw, hp⟩ := hp
    split
    next hs => exact absurd ⟨hsw, .inl hs, hp⟩ h
    next hs => exact absurd ⟨hsw, .inr hs, hp⟩ h
    · rfl
  · rfl

theorem homingFindsTheIndex : Claims.HomingFindsTheIndex := by
  intro s t m hm u v open1 goal r
  obtain ⟨n, hmotion⟩ := State.upTo_motion t hm
  have opens {w : State} (e : open1.switchOpens .acoustic = w) :
      exec (.endSwitchOpen t .acoustic) s = .next (State.arbitrate w) :=
    congrArg (fun w => Host.Outcome.next (State.arbitrate w)) e
  have finds {w : State} (e : v.indexEdge = w) : exec (.indexEdge t true) s = .next (State.arbitrate w) :=
    congrArg (fun w => Host.Outcome.next (State.arbitrate w)) e
  have hr : v.rail.continuing v.clock = r := Rail.continuing_eq (r := u.rail) (m := { m with driven := n }) u.clock hmotion
  let v' : State := { v with rail := r }
  have homing (hs : s.rail.state = .homing) (hp : s.rail.phase = some .seek) :
      v.indexEdge = v'.driveMove .homed .homed false := by
    rw [State.indexEdge_homing (s := v) hs hp, hr]
  have held (hs : s.rail.state = .held) (hp : s.rail.phase = some .seek) :
      v.indexEdge = if r.near goal then v'.arrive .homed else v' := by
    rw [State.indexEdge_held (s := v) hs hp, hr]
    rfl
  have arrives (hs : s.rail.state = .homing ∨ s.rail.state = .held) : v'.arrive .homed = v'.railArrives .acoustic .homed :=
    State.arrive_eq (s := v') .homed rfl (.inl ⟨rfl, rfl⟩) (RailState.ne_ofTarget (.inr hs) .acoustic)
  refine ⟨fun hs hp => opens ?_, fun hs hp => opens ?_, fun hs hp hout => finds ?_, fun hs hp hout => finds ?_,
    fun hs hp hin => finds ?_⟩
  · have hs' : open1.rail.state = .homing := hs
    exact (if_pos ⟨rfl, hp⟩).trans (by rw [hs'])
  · have hs' : open1.rail.state = .held := hs
    exact (if_pos ⟨rfl, hp⟩).trans (by rw [hs'])
  · have hmoving : s.rail.state ≠ .moving := by rw [hs]; decide
    rw [homing hs hp]
    exact (State.driveMove_drives (s := v') .homed .homed false rfl rfl rfl rfl hout).trans (if_neg hmoving)
  · rw [held hs hp, Rail.near_of_outside rfl hout]
    rfl
  · rw [← arrives hs]
    obtain hs | hs := hs
    · rw [homing hs hp]
      exact State.driveMove_arrives (s := v') .homed .homed false rfl rfl rfl hin
    · rw [held hs hp]
      exact if_pos ((Rail.near_iff rfl goal).mpr hin)

/-! ### Inputs without a use (R53, R54, R68) -/

theorem inputsWithoutAUseSetTheirLevelAlone : Claims.InputsWithoutAUseSetTheirLevelAlone := by
  intro s t u driven homing index level
  have finds {w : State} (b : Bool)
      (e : (let v : State := { u with pins := { u.pins with index := b } }; if b then v.indexEdge else v) = w) :
      exec (.indexEdge t b) s = .next (State.arbitrate w) :=
    congrArg (fun w => Host.Outcome.next (State.arbitrate w)) e
  have opens (sw : EndSwitch) (e : (u.switchLevelSet sw false).switchOpens sw = u.switchLevelSet sw false) :
      exec (.endSwitchOpen t sw) s = level sw false := by
    cases sw <;> exact congrArg (fun w => Host.Outcome.next (State.arbitrate w)) e
  have closes (sw : EndSwitch) (e : (u.switchLevelSet sw true).switchCloses sw = u.switchLevelSet sw true) :
      exec (.endSwitchClose t sw) s = level sw true := by
    cases sw <;> exact congrArg (fun w => Host.Outcome.next (State.arbitrate w)) e
  have hrail (sw : EndSwitch) := u.switchLevelSet_rail sw true
  refine ⟨fun up hx hs hd => ?_, finds false rfl, fun h => finds true (State.indexEdge_idle h), opens .silent ?_,
    fun h => opens .acoustic (State.switchOpens_idle fun ⟨_, h'⟩ => h h'), fun sw hmoving hhoming hheld => closes sw ?_,
    fun hs hp => closes .acoustic ?_, fun hs => closes .silent ?_, fun sw m x goal hs hm hx hgoal hin => closes sw ?_⟩
  · change Host.Outcome.next (u.encoderStep up).arbitrate = _
    rw [State.encoderStep_still (s := u) up hs hd, Rail.nextPosition_unhomed (r := u.rail) up hx]
  · exact State.switchOpens_idle fun ⟨h, _⟩ => absurd h (by decide)
  · exact State.switchCloses_idle sw (by rw [hrail]; exact hmoving) (by rw [hrail]; exact hhoming) (by rw [hrail]; exact hheld)
  · exact (State.switchCloses_acoustic (s := u.switchLevelSet .acoustic true) hs).trans (if_neg hp)
  · have hs' : (u.switchLevelSet .silent true).rail.state = .held := hs
    rw [State.switchCloses, hs']
  · obtain ⟨n, hmotion⟩ := State.upTo_motion t hm
    refine State.switchCloses_near (m := { m with driven := n }) (x := x) sw ?_ ?_ ?_ hgoal hin
    · rw [hrail]; exact hs
    · rw [hrail]; exact hmotion
    · rw [hrail]; exact hx

/-- Settles O15: the inputs by the rail state and the homing phase, and the arrival test by the window. -/
theorem encoderAndHomingInputsMoveTheRail : Obligations.EncoderAndHomingInputsMoveTheRail :=
  ⟨encoderStepsMoveThePosition, homingFindsTheIndex, inputsWithoutAUseSetTheirLevelAlone⟩

end Sys2Proof.Machine
end

section
/-! The voice table: its places, its ages, the steal order, and what fading a voice and stealing one make of it (R74, R75, R78, R86). -/

namespace Sys2Proof.Machine

/-! ### Places of lists -/

/-- `updateAt` at a place that holds `a`. -/
theorem updateAt_of_getElem? {α : Type} {f : α → α} {i : Nat} {xs : List α} {a : α} (h : xs[i]? = some a) :
    updateAt f i xs = xs.set i (f a) := by
  refine List.ext_getElem? fun j => ?_
  obtain ⟨hi, -⟩ := List.getElem?_eq_some_iff.mp h
  by_cases hj : j = i
  · subst hj
    rw [updateAt_getElem?, if_pos rfl, h, List.getElem?_set_self hi]
    rfl
  · rw [updateAt_getElem?, if_neg hj, List.getElem?_set_ne (Ne.symm hj)]

/-- The element that `placeOf` finds. -/
theorem placeOf_spec {α : Type} {p : α → Bool} {xs : List α} {i : Nat} (h : placeOf p xs = some i) :
    ∃ x, xs[i]? = some x ∧ p x = true := by
  induction xs generalizing i with
  | nil => cases h
  | cons x xs ih =>
    unfold placeOf at h
    split at h
    next hx => cases h; exact ⟨x, rfl, hx⟩
    next =>
      obtain ⟨j, hj, rfl⟩ := Option.map_eq_some_iff.mp h
      exact ih hj

/-- A place that `placeOf` does not find. -/
theorem placeOf_none {α : Type} {p : α → Bool} {xs : List α} (h : placeOf p xs = none) : ∀ x ∈ xs, p x = false := by
  intro x hx
  by_contra hp
  have hsome := (placeOf_isSome_iff p xs).mpr ⟨x, hx, by simpa using hp⟩
  rw [h] at hsome
  cases hsome

/-- What one place of a list adds to a count. -/
theorem countP_set_add {α : Type} {p : α → Bool} {xs : List α} {i : Nat} {a b : α} (h : xs[i]? = some a) :
    (xs.set i b).countP p + (p a).toNat = xs.countP p + (p b).toNat := by
  induction xs generalizing i with
  | nil => cases h
  | cons x xs ih =>
    cases i with
    | zero =>
      obtain rfl : x = a := by simpa using h
      cases hx : p x <;> cases hb : p b <;> simp [hx, hb]
    | succ i =>
      have h' := ih (i := i) h
      rw [List.set_cons_succ, List.countP_cons, List.countP_cons]
      omega

/-- Elements that satisfy `p` only where their predecessors do are no more than those. -/
theorem countP_le_of_forall₂ {α : Type} {p : α → Bool} {xs ys : List α} (h : List.Forall₂ (fun x y => p x = true → p y = true) xs ys) :
    xs.countP p ≤ ys.countP p := by
  induction h with
  | nil => exact Nat.le_refl 0
  | @cons x y xs ys hxy _ ih =>
    rw [List.countP_cons, List.countP_cons]
    cases hx : p x with
    | false => simp only [Bool.false_eq_true, if_false]; omega
    | true => simp only [hxy hx, if_true]; omega

/-- A relation between the places of a list and those after an update of one of them. -/
theorem forall₂_updateAt {α : Type} {R : α → α → Prop} (refl : ∀ x, R x x) {f : α → α} {i : Nat} {xs : List α}
    (h : ∀ x, xs[i]? = some x → R (f x) x) : List.Forall₂ R (updateAt f i xs) xs := by
  induction xs generalizing i with
  | nil => cases i <;> exact .nil
  | cons x xs ih =>
    cases i with
    | zero => exact .cons (h x rfl) (List.forall₂_same.mpr fun y _ => refl y)
    | succ i => exact .cons (refl x) (ih fun y hy => h y hy)

/-! ### The voices of the table -/

theorem Voices.voice?_eq_some {v : Voices} {i : Nat} {w : Voice} : v.voice? i = some w ↔ v.table[i]? = some (some w) := by
  rw [Voices.voice?, Option.join_eq_some_iff]

theorem Voices.voice?_eq_none {v : Voices} {i : Nat} : v.voice? i = none ↔ ∀ w, v.table[i]? ≠ some (some w) := by
  rw [Option.eq_none_iff_forall_ne_some]
  exact forall_congr' fun w => not_congr Voices.voice?_eq_some

theorem Voices.setVoice_eq (i : Nat) (x : Option Voice) (v : Voices) : v.setVoice i x = { v with table := v.table.set i x } := by
  rw [Voices.setVoice, updateAt_const]

theorem Voices.mem_allocated {v : Voices} {i : Nat} {w : Voice} : (i, w) ∈ v.allocated ↔ v.table[i]? = some (some w) := by
  simp only [Voices.allocated, numbered_eq_zipIdx, List.mem_filterMap, List.mem_map]
  constructor
  · rintro ⟨_, ⟨⟨x, j⟩, hx, rfl⟩, he⟩
    obtain ⟨w', hw', he⟩ := Option.map_eq_some_iff.mp he
    cases he
    rw [List.mem_zipIdx_iff_getElem?] at hx
    simpa [← hw'] using hx
  · intro h
    exact ⟨(i, some w), ⟨(some w, i), List.mem_zipIdx_iff_getElem?.mpr h, rfl⟩, rfl⟩

/-- The counted voice of a source and key (R75). -/
def Voice.isOf (src : Source) (key : Nat) (w : Voice) : Bool := w.counted && w.source == src && w.key == key

theorem Voice.isOf_iff {src : Source} {key : Nat} {w : Voice} :
    w.isOf src key = true ↔ w.counted = true ∧ w.source = src ∧ w.key = key := by
  simp [Voice.isOf, and_assoc]

/-- With no counted voice of the source and key none is found. -/
theorem Voices.find_eq_none {v : Voices} {src : Source} {key : Nat}
    (h : ∀ w, some w ∈ v.table → ¬(w.counted = true ∧ w.source = src ∧ w.key = key)) : v.find src key = none := by
  rw [← Option.not_isSome_iff_eq_none, Voices.find_isSome_iff]
  exact fun ⟨w, hmem, hw⟩ => h w hmem hw

/-- The first counted voice of the source and key is the one found. -/
theorem Voices.find_eq_some {v : Voices} {src : Source} {key i : Nat} {w : Voice} (h : v.table[i]? = some (some w))
    (hw : w.counted = true ∧ w.source = src ∧ w.key = key)
    (first : ∀ j w', j < i → v.table[j]? = some (some w') → ¬(w'.counted = true ∧ w'.source = src ∧ w'.key = key)) :
    v.find src key = some i := by
  refine placeOf_eq_some h (Voice.isOf_iff.mpr hw) fun j y hj hy => ?_
  cases y with
  | none => rfl
  | some w' => exact Bool.eq_false_iff.mpr fun h' => first j w' hj hy (Voice.isOf_iff.mp h')

/-- What `Voices.find` finds. -/
theorem Voices.find_spec {v : Voices} {src : Source} {key i : Nat} (h : v.find src key = some i) :
    ∃ w, v.table[i]? = some (some w) ∧ w.isOf src key = true := by
  obtain ⟨x, hx, hp⟩ := placeOf_spec h
  cases x with
  | none => cases hp
  | some w => exact ⟨w, hx, hp⟩

/-! ### Fading (R86) -/

theorem Voice.fade_of_counted {w : Voice} (h : w.counted = true) :
    w.fade = { w with phase := .fading 0 false (match w.phase with | .damped _ a => a | _ => 0) } := by
  unfold Voice.counted at h
  unfold Voice.fade
  split at h <;> simp_all

@[simp] theorem Voice.fade_counted (w : Voice) : w.fade.counted = false := by
  unfold Voice.fade Voice.counted
  cases h : w.phase <;> simp [h]

theorem Voices.fadeEntry_eq {v : Voices} {i : Nat} {w : Voice} (h : v.table[i]? = some (some w)) :
    v.fadeEntry i = { v with table := v.table.set i (some w.fade) } := by
  rw [Voices.fadeEntry, updateAt_of_getElem? h]
  rfl

/-- What fading a counted voice makes of the table. -/
theorem Voices.fadeEntry_of_counted {v : Voices} {i : Nat} {w : Voice} (h : v.table[i]? = some (some w)) (hc : w.counted = true) :
    v.fadeEntry i = { v with table := v.table.set i (some
      { w with phase := .fading 0 false (match w.phase with | .damped _ a => a | _ => 0) }) } := by
  rw [Voices.fadeEntry_eq h, Voice.fade_of_counted hc]

/-- Fading a counted voice takes one from the counted number. -/
theorem Voices.fadeEntry_counted {v : Voices} {i : Nat} {w : Voice} (h : v.table[i]? = some (some w)) (hc : w.counted = true) :
    (v.fadeEntry i).counted + 1 = v.counted := by
  have hset := countP_set_add (p := fun x => x.any Voice.counted) (b := some w.fade) h
  simp only [Option.any_some, hc, Voice.fade_counted, Bool.toNat_true, Bool.toNat_false] at hset
  rw [Voices.fadeEntry_eq h]
  exact hset

/-! ### The oldest voice and the steal order (R74, R78) -/

/-- A pass over voices keeps the oldest that it has met. -/
theorem Voices.foldl_older (v : Voices) (es : List (Nat × Voice)) (b : Nat × Voice) :
    ∃ e, es.foldl v.older (some b) = some e ∧ (e = b ∨ e ∈ es) ∧ v.age b.2 ≤ v.age e.2 ∧ ∀ x ∈ es, v.age x.2 ≤ v.age e.2 := by
  induction es generalizing b with
  | nil => exact ⟨b, rfl, .inl rfl, Nat.le_refl _, by simp⟩
  | cons x xs ih =>
    have hx : v.older (some b) x = some (if v.age b.2 < v.age x.2 then x else b) := by
      exact (apply_ite some _ _ _).symm
    obtain ⟨e, he, hmem, hage, hall⟩ := ih (if v.age b.2 < v.age x.2 then x else b)
    refine ⟨e, by rw [List.foldl_cons, hx, he], ?_, ?_, List.forall_mem_cons.mpr ⟨?_, hall⟩⟩
    all_goals split_ifs at hmem hage
    · exact .inr (hmem.elim (fun h => h ▸ List.mem_cons_self) (List.mem_cons_of_mem x))
    · exact hmem.imp_right (List.mem_cons_of_mem x)
    all_goals omega

/-- R78: the oldest voice of a kind, where there is one. -/
theorem Voices.oldest_spec {v : Voices} {p : Voice → Bool} (h : ∃ w, some w ∈ v.table ∧ p w = true) :
    ∃ i w, v.oldest p = some i ∧ v.table[i]? = some (some w) ∧ p w = true
      ∧ ∀ w', some w' ∈ v.table → p w' = true → v.age w' ≤ v.age w := by
  have hmem {e : Nat × Voice} : e ∈ v.allocated.filter (fun e => p e.2) ↔ v.table[e.1]? = some (some e.2) ∧ p e.2 = true := by
    rw [List.mem_filter, show e = (e.1, e.2) from rfl, Voices.mem_allocated]
  have hplace {w' : Voice} (hw' : some w' ∈ v.table) (hp : p w' = true) :
      ∃ j, (j, w') ∈ v.allocated.filter (fun e => p e.2) := by
    obtain ⟨j, hj⟩ := List.mem_iff_getElem?.mp hw'
    exact ⟨j, hmem.mpr ⟨hj, hp⟩⟩
  obtain ⟨w, hw, hp⟩ := h
  obtain ⟨j, hj⟩ := hplace hw hp
  cases hes : v.allocated.filter (fun e => p e.2) with
  | nil => rw [hes] at hj; cases hj
  | cons b es =>
    obtain ⟨e, he, hin, hb, hall⟩ := v.foldl_older es b
    have hspec := hmem.mp (hes ▸ List.mem_cons.mpr hin)
    refine ⟨e.1, e.2, by rw [Voices.oldest, hes, List.foldl_cons]; exact congrArg (Option.map (·.1)) he, hspec.1, hspec.2, ?_⟩
    intro w' hw' hp'
    obtain ⟨j', hj'⟩ := hplace hw' hp'
    rw [hes] at hj'
    obtain h' | h' := List.mem_cons.mp hj'
    · exact (congrArg (fun e => v.age e.2) h').le.trans hb
    · exact hall _ h'

theorem Voices.oldest_eq_none {v : Voices} {p : Voice → Bool} (h : ¬∃ w, some w ∈ v.table ∧ p w = true) : v.oldest p = none := by
  have hnil : v.allocated.filter (fun e => p e.2) = [] := by
    refine List.filter_eq_nil_iff.mpr fun e he hp => h ⟨e.2, ?_, hp⟩
    exact List.mem_of_getElem? (Voices.mem_allocated.mp he)
  rw [Voices.oldest, hnil]
  rfl

/-- The oldest voice of a kind is of that kind. -/
theorem Voices.oldest_some {v : Voices} {p : Voice → Bool} {i : Nat} (h : v.oldest p = some i) :
    ∃ w, v.table[i]? = some (some w) ∧ p w = true := by
  by_cases hex : ∃ w, some w ∈ v.table ∧ p w = true
  · obtain ⟨j, w, hj, hw, hp, -⟩ := Voices.oldest_spec hex
    rw [hj] at h
    cases h
    exact ⟨w, hw, hp⟩
  · rw [Voices.oldest_eq_none hex] at h
    cases h

theorem Voice.isDamped_iff {w : Voice} : w.isDamped = true ↔ ∃ r a, w.phase = .damped r a := by
  unfold Voice.isDamped
  cases w.phase <;> simp

/-- R75: the counted states are those of the steal order. -/
theorem Voice.counted_iff {w : Voice} :
    w.counted = true ↔ w.isDamped = true ∨ w.phase = .sounding ∨ w.phase = .starting := by
  unfold Voice.counted Voice.isDamped
  cases w.phase <;> simp

/-- R78: a victim is a counted voice. -/
theorem Voices.victim_spec {v : Voices} {i : Nat} (h : v.victim = some i) :
    ∃ w, v.table[i]? = some (some w) ∧ w.counted = true := by
  unfold Voices.victim at h
  simp only [Option.orElse_eq_orElse, Option.orElse_eq_or, Option.or_eq_some_iff] at h
  obtain h | ⟨-, h | ⟨-, h | ⟨-, h⟩⟩⟩ := h <;> obtain ⟨w, hw, hp⟩ := Voices.oldest_some h <;>
    refine ⟨w, hw, Voice.counted_iff.mpr ?_⟩
  · exact .inl hp
  · exact .inr (.inl (by simpa using ((Bool.and_eq_true _ _).mp hp).1))
  · exact .inr (.inl (by simpa using hp))
  · exact .inr (.inr (by simpa using hp))

end Sys2Proof.Machine
end

section
/-! The laws of the voice table (R74, R75): what the claims, a completed prime and the end of a voice make of them. -/

namespace Sys2Proof.Machine

/-! ### What a steal takes (R78) -/

theorem Voices.victim_isSome {v : Voices} (h : 0 < v.counted) : v.victim.isSome = true := by
  have found {p : Voice → Bool} {w : Voice} (hw : some w ∈ v.table) (hp : p w = true) : (v.oldest p).isSome = true := by
    obtain ⟨i, w', hi, -⟩ := Voices.oldest_spec ⟨w, hw, hp⟩
    simp only [hi, Option.isSome_some]
  obtain ⟨x, hx, hc⟩ := List.countP_pos_iff.mp h
  obtain ⟨w, rfl, hc⟩ := (Option.any_eq_true _ _).mp hc
  simp only [Voices.victim, Option.orElse_eq_orElse, Option.orElse_eq_or, Option.isSome_or, Bool.or_eq_true]
  obtain hd | hs | hs := Voice.counted_iff.mp hc
  · exact .inl (found hx hd)
  · exact .inr (.inr (.inl (found hx (by simpa using hs))))
  · exact .inr (.inr (.inr (found hx (by simpa using hs))))

/-- R78: a steal from a table with a counted voice fades a victim and counts it. -/
theorem State.steal_eq {s : State} {i : Nat} (h : s.voices.victim = some i) :
    s.steal = ({ s with voices := s.voices.fadeEntry i } : State).tally .voiceSteals := by
  rw [State.steal, h]

theorem State.steal_counted {s : State} (h : 0 < s.voices.counted) : s.steal.voices.counted + 1 = s.voices.counted := by
  obtain ⟨i, hi⟩ := Option.isSome_iff_exists.mp (Voices.victim_isSome h)
  obtain ⟨w, hw, hc⟩ := Voices.victim_spec hi
  rw [State.steal_eq hi]
  exact Voices.fadeEntry_counted hw hc

theorem State.steal_limit (s : State) : s.steal.voices.limit = s.voices.limit := by
  obtain ⟨tb, x, h⟩ := s.steal_frame
  rw [h]

theorem State.stealN_counted {n : Nat} {s : State} (h : n ≤ s.voices.counted) :
    (s.stealN n).voices.counted + n = s.voices.counted := by
  induction n generalizing s with
  | zero => rfl
  | succ n ih =>
    have hs := State.steal_counted (s := s) (by omega)
    have hn := ih (s := s.steal) (by omega)
    rw [State.stealN]
    omega

/-! ### Tables that count no voice anew -/

/-- An entry counts as a voice, or as the voice of a source and key, only where its predecessor did. -/
def Voice.succeeds (x' x : Option Voice) : Prop :=
  (x'.any Voice.counted = true → x.any Voice.counted = true)
    ∧ ∀ src key, x'.any (Voice.isOf src key) = true → x.any (Voice.isOf src key) = true

theorem Voice.succeeds_refl (x : Option Voice) : Voice.succeeds x x := ⟨id, fun _ _ => id⟩

theorem Voice.succeeds_none (x : Option Voice) : Voice.succeeds none x := ⟨nofun, fun _ _ => nofun⟩

theorem Voice.succeeds_some {w' w : Voice} (hc : w'.counted = true → w.counted = true) (hs : w'.source = w.source)
    (hk : w'.key = w.key) : Voice.succeeds (some w') (some w) := by
  refine ⟨hc, fun src key h => ?_⟩
  obtain ⟨hc', hs', hk'⟩ := Voice.isOf_iff.mp h
  exact Voice.isOf_iff.mpr ⟨hc hc', hs ▸ hs', hk ▸ hk'⟩

/-- The limit is the same, and each entry succeeds its predecessor. -/
structure Voices.calmer (v' v : Voices) : Prop where
  limit : v'.limit = v.limit
  table : List.Forall₂ Voice.succeeds v'.table v.table

/-- R75: the laws of the voice table. -/
theorem State.voicesLawful_iff (s : State) :
    s.voicesLawful ↔ s.voices.table.length = 80 ∧ 8 ≤ s.voices.limit ∧ s.voices.limit ≤ 64
      ∧ s.voices.counted ≤ s.voices.limit ∧ ∀ src key, (s.voices.table.countP fun x => x.any (Voice.isOf src key)) ≤ 1 := Iff.rfl

theorem Voices.calmer.counted_le {v' v : Voices} (h : v'.calmer v) : v'.counted ≤ v.counted :=
  countP_le_of_forall₂ (h.table.imp fun _ _ h => h.1)

theorem Voices.calmer.isOf_le {v' v : Voices} (h : v'.calmer v) (src : Source) (key : Nat) :
    (v'.table.countP fun x => x.any (Voice.isOf src key)) ≤ v.table.countP fun x => x.any (Voice.isOf src key) :=
  countP_le_of_forall₂ (h.table.imp fun _ _ h => h.2 src key)

/-- A state whose voices are calmer than lawful ones is lawful. -/
theorem State.voicesLawful_of_calmer {s' s : State} (h : s'.voices.calmer s.voices) (hs : s.voicesLawful) : s'.voicesLawful := by
  obtain ⟨hlength, hlow, hhigh, hcount, hone⟩ := hs
  refine ⟨h.table.length_eq.trans hlength, h.limit ▸ hlow, h.limit ▸ hhigh, ?_, fun src key => ?_⟩
  · exact h.limit ▸ h.counted_le.trans hcount
  · exact (h.isOf_le src key).trans (hone src key)

theorem State.voicesLawful_of_voices {s' s : State} (h : s'.voices = s.voices) (hs : s.voicesLawful) : s'.voicesLawful := by
  unfold State.voicesLawful
  rw [h]
  exact hs

/-- One entry replaced by one that succeeds it. -/
theorem Voices.calmer_updateAt {v : Voices} {f : Option Voice → Option Voice} {i : Nat}
    (h : ∀ x, v.table[i]? = some x → Voice.succeeds (f x) x) : ({ v with table := updateAt f i v.table } : Voices).calmer v :=
  ⟨rfl, forall₂_updateAt Voice.succeeds_refl h⟩

/-- Every entry replaced by one that succeeds it. -/
theorem Voices.calmer_map {v : Voices} {f : Option Voice → Option Voice} (h : ∀ x, Voice.succeeds (f x) x) :
    ({ v with table := v.table.map f } : Voices).calmer v :=
  ⟨rfl, List.forall₂_map_left_iff.mpr (List.forall₂_same.mpr fun x _ => h x)⟩

theorem Voice.succeeds_map {f : Voice → Voice} (h : ∀ w, Voice.succeeds (some (f w)) (some w)) (x : Option Voice) :
    Voice.succeeds (x.map f) x := by
  cases x with
  | none => exact Voice.succeeds_none _
  | some w => exact h w

/-! ### What becomes of one voice -/

theorem Voice.fade_succeeds (w : Voice) : Voice.succeeds (some w.fade) (some w) := by
  refine Voice.succeeds_some (fun h => by simp at h) ?_ ?_ <;> unfold Voice.fade <;> split <;> rfl

theorem Voice.testHeld_succeeds (c : PedalContext) (w : Voice) : Voice.succeeds (some (w.testHeld c)) (some w) := by
  unfold Voice.testHeld
  split
  next h => exact Voice.succeeds_some (fun _ => by simp [Voice.counted, h.1]) rfl rfl
  next => exact Voice.succeeds_refl _

/-- Entries succeed one another in a chain. -/
theorem Voice.succeeds.trans {x y z : Option Voice} (h : Voice.succeeds x y) (h' : Voice.succeeds y z) : Voice.succeeds x z :=
  ⟨fun hx => h'.1 (h.1 hx), fun src key hx => h'.2 src key (h.2 src key hx)⟩

theorem Voice.noteOff_succeeds (c : PedalContext) (w : Voice) : Voice.succeeds (some (w.noteOff c)) (some w) := by
  have released : Voice.succeeds (some { w with released := true }) (some w) := Voice.succeeds_some id rfl rfl
  unfold Voice.noteOff
  split
  · exact (Voice.testHeld_succeeds c _).trans released
  · exact (Voice.testHeld_succeeds c _).trans released
  · exact Voice.succeeds_refl _
  · exact Voice.succeeds_refl _

theorem Voice.pedalChange_succeeds (c : PedalContext) (w : Voice) : Voice.succeeds (some (w.pedalChange c)) (some w) := by
  unfold Voice.pedalChange
  split
  next h => exact Voice.succeeds_some (fun _ => by simp [Voice.counted, h]) rfl rfl
  next => exact Voice.testHeld_succeeds c w

/-- R84: a voice that sounds, from one that starts. -/
theorem Voice.sounds_succeeds {w : Voice} (h : w.phase = .starting) (c : PedalContext) :
    Voice.succeeds (some (({ w with phase := .sounding } : Voice).testHeld c)) (some w) :=
  (Voice.testHeld_succeeds c _).trans (Voice.succeeds_some (fun _ => by simp [Voice.counted, h]) rfl rfl)

theorem Voice.boundary_succeeds (w : Voice) : Voice.succeeds w.boundary (some w) := by
  unfold Voice.boundary
  split
  · exact Voice.succeeds_refl _
  · exact Voice.succeeds_refl _
  next h =>
    split
    · exact Voice.succeeds_none _
    · exact Voice.succeeds_some (fun _ => by simp [Voice.counted, h]) rfl rfl
  next h =>
    split_ifs
    · exact Voice.succeeds_some (fun hc => by simp [Voice.counted] at hc) rfl rfl
    · exact Voice.succeeds_none _
    · exact Voice.succeeds_some (fun hc => by simp [Voice.counted] at hc) rfl rfl

theorem Voices.fadeEntry_calmer (i : Nat) (v : Voices) : (v.fadeEntry i).calmer v :=
  Voices.calmer_updateAt fun x _ => Voice.succeeds_map Voice.fade_succeeds x

theorem Voices.calmer_refl (v : Voices) : v.calmer v := ⟨rfl, List.forall₂_same.mpr fun x _ => Voice.succeeds_refl x⟩

theorem Voices.setVoice_calmer {v : Voices} {i : Nat} {x : Option Voice} {w : Voice} (h : v.table[i]? = some (some w))
    (hx : Voice.succeeds x (some w)) : (v.setVoice i x).calmer v := by
  refine Voices.calmer_updateAt fun y hy => ?_
  rw [h] at hy
  cases hy
  exact hx

/-! ### The claims (R77 to R83) -/

theorem State.noteOff_voicesLawful (src : Source) (key : Nat) {s : State} (h : s.voicesLawful) : (s.noteOff src key).voicesLawful := by
  unfold State.noteOff
  split
  · exact h
  · exact State.voicesLawful_of_calmer (Voices.calmer_updateAt fun x _ => Voice.succeeds_map (Voice.noteOff_succeeds _) x) h

theorem State.pedalClaim_voicesLawful (src : Source) {s : State} (h : s.voicesLawful) : (s.pedalClaim src).voicesLawful := by
  refine State.voicesLawful_of_calmer (Voices.calmer_map (Voice.succeeds_map fun w => ?_)) h
  split
  · exact w.pedalChange_succeeds _
  · exact Voice.succeeds_refl _

theorem State.steal_voicesLawful {s : State} (h : s.voicesLawful) : s.steal.voicesLawful := by
  unfold State.steal
  split
  · exact h
  · exact State.voicesLawful_of_calmer (s.voices.fadeEntry_calmer _) h

/-- R77: after the re-strike no counted voice of the source and key is left. -/
theorem Voices.restrike_clears {v : Voices} {src : Source} {key : Nat}
    (h : (v.table.countP fun x => x.any (Voice.isOf src key)) ≤ 1) :
    ((v.restrike src key).table.countP fun x => x.any (Voice.isOf src key)) = 0 := by
  unfold Voices.restrike
  split
  next hnone => exact List.countP_eq_zero.mpr fun x hx => Bool.eq_false_iff.mp (placeOf_none hnone x hx)
  next i hi =>
    obtain ⟨w, hw, hof⟩ := Voices.find_spec hi
    have hset := countP_set_add (p := fun x => x.any (Voice.isOf src key)) (b := some w.fade) hw
    have hfade : w.fade.isOf src key = false := by simp [Voice.isOf]
    simp only [Option.any_some, hof, hfade, Bool.toNat_true, Bool.toNat_false] at hset
    rw [Voices.fadeEntry_eq hw]
    change (v.table.set i (some w.fade)).countP _ = 0
    omega

theorem Voices.restrike_calmer (src : Source) (key : Nat) (v : Voices) : (v.restrike src key).calmer v := by
  unfold Voices.restrike
  split
  · exact v.calmer_refl
  · exact v.fadeEntry_calmer _

/-- R78: after the third step the counted number lies below the limit. -/
theorem State.stealIfFull_room {s : State} (h : s.voicesLawful) :
    s.stealIfFull.voices.counted < s.stealIfFull.voices.limit := by
  obtain ⟨-, hlow, -, hcount, -⟩ := h
  unfold State.stealIfFull
  split
  next hfull =>
    have hc := State.steal_counted (s := s) (by omega)
    rw [s.steal_limit]
    omega
  next hfull => omega

theorem State.stealIfFull_calmer (s : State) : s.stealIfFull.voices.calmer s.voices := by
  unfold State.stealIfFull State.steal
  split_ifs
  · split
    · exact s.voices.calmer_refl
    · exact s.voices.fadeEntry_calmer _
  · exact s.voices.calmer_refl

/-- R79: a new voice keeps the laws where there is room, and no counted voice of its source and key. -/
theorem State.allocateVoice_voicesLawful {src : Source} {key : Nat} (velocity zone gain : Nat) {s : State} (h : s.voicesLawful)
    (room : s.voices.counted < s.voices.limit) (alone : (s.voices.table.countP fun x => x.any (Voice.isOf src key)) = 0) :
    (s.allocateVoice src key velocity zone gain).voicesLawful := by
  obtain ⟨hlength, hlow, hhigh, -, hone⟩ := h
  unfold State.allocateVoice
  split
  · exact ⟨hlength, hlow, hhigh, room.le, hone⟩
  next i hi =>
    obtain ⟨x, hx, hfree⟩ := placeOf_spec hi
    obtain rfl : x = none := by simpa using hfree
    have count {p : Voice → Bool} (w : Voice) :
        ((s.voices.setVoice i (some w)).table.countP fun x => x.any p)
          = (s.voices.table.countP fun x => x.any p) + (p w).toNat := by
      rw [Voices.setVoice_eq]
      simpa using countP_set_add (p := fun x : Option Voice => x.any p) (b := some w) hx
    refine ⟨by simpa [Voices.setVoice] using hlength, hlow, hhigh, ?_, fun src' key' => ?_⟩
    · exact ((count _).trans_le (Nat.add_le_add_left (Bool.toNat_le _) _)).trans room
    · refine (count (p := Voice.isOf src' key') _).trans_le ?_
      by_cases hof : src' = src ∧ key' = key
      · obtain ⟨rfl, rfl⟩ := hof
        rw [alone]
        exact (Nat.zero_add _).trans_le (Bool.toNat_le _)
      · have hnot : ∀ w : Voice, w.source = src → w.key = key → w.isOf src' key' = false := by
          rintro w rfl rfl
          exact Bool.eq_false_iff.mpr fun hw => hof ⟨(Voice.isOf_iff.mp hw).2.1.symm, (Voice.isOf_iff.mp hw).2.2.symm⟩
        rw [hnot _ rfl rfl]
        exact hone src' key'

theorem State.noteOn_voicesLawful (src : Source) (key velocity : Nat) {s : State} (h : s.voicesLawful) :
    (s.noteOn src key velocity).voicesLawful := by
  unfold State.noteOn
  simp only
  split
  · exact h
  · split
    · exact h
    · have hrestrike : ({ s with voices := s.voices.restrike src key } : State).voicesLawful :=
        State.voicesLawful_of_calmer (s.voices.restrike_calmer src key) h
      have hcalm := ({ s with voices := s.voices.restrike src key } : State).stealIfFull_calmer
      refine State.allocateVoice_voicesLawful _ _ _ (State.voicesLawful_of_calmer hcalm hrestrike)
        (State.stealIfFull_room hrestrike) ?_
      obtain ⟨-, -, -, -, hone⟩ := h
      have hclear := Voices.restrike_clears (hone src key)
      have hle := hcalm.isOf_le src key
      exact Nat.le_zero.mp (hle.trans hclear.le)

/-! ### Ends and completions (R82, R84, R85, R101, R104) -/

theorem State.freeVoice_voicesLawful (i : Nat) {s : State} (h : s.voicesLawful) : (s.freeVoice i).voicesLawful :=
  State.voicesLawful_of_calmer (Voices.calmer_updateAt fun x _ => Voice.succeeds_none x) h

theorem State.segmentDone_voicesLawful (e : FetchEntry) {s : State} (h : s.voicesLawful) : (s.segmentDone e).voicesLawful := by
  have prime {i : Nat} {w : Voice} {u : State} (hw : u.voices.table[i]? = some (some w)) (hu : u.voicesLawful) :
      (u.primeDone i w).voicesLawful := by
    unfold State.primeDone
    split
    next hp => exact State.voicesLawful_of_calmer (Voices.setVoice_calmer hw (Voice.sounds_succeeds hp _)) hu
    next => exact hu
  have fills {w : Voice} {u : State} (hw : u.voices.table[e.voice]? = some (some w)) (hu : u.voicesLawful) :
      (u.segmentFills e w).voicesLawful := by
    unfold State.segmentFills
    exact keeps_due (prime hw hu) hu
  have matched {u : State} (hu : u.voicesLawful) : (u.segmentMatched e).voicesLawful := by
    unfold State.segmentMatched
    split
    next w hw => exact keeps_due (fills (Voices.voice?_eq_some.mp hw) hu) hu
    next => exact hu
  exact matched (u := { s with fetch := { s.fetch with port := none } }) h

/-- A fold of operations that keep a property keeps it. -/
theorem State.foldl_keeps {P : State → Prop} {α : Type} {op : State → α → State} (h : ∀ a {u}, P u → P (op u a)) (xs : List α)
    {s : State} (hs : P s) : P (xs.foldl op s) :=
  List.foldlRecOn xs op hs fun _ hu a _ => h a hu

theorem State.playEntry_voicesLawful (i : Nat) {s : State} (h : s.voicesLawful) : (s.playEntry i).voicesLawful := by
  have cross (n : Nat) (w : Voice) (z : Zone) {u : State} (hu : u.voicesLawful) : (u.cross i n w z).voicesLawful := by
    unfold State.cross
    simp only
    split
    · exact keeps_due hu hu
    · exact State.freeVoice_voicesLawful i hu
  unfold State.playEntry
  split
  · unfold State.advance
    split
    · exact h
    · exact keeps_due (State.freeVoice_voicesLawful i h) (keeps_due (cross _ _ _ h) h)
  · exact h

theorem State.outputFrame_voicesLawful {s : State} (h : s.voicesLawful) : s.outputFrame.voicesLawful := by
  have send : s.sendFrame.voicesLawful := by
    unfold State.sendFrame
    exact keeps_due h h
  exact State.foldl_keeps State.playEntry_voicesLawful _ send

theorem State.boundaryEntry_voicesLawful (i : Nat) {s : State} (h : s.voicesLawful) : (s.boundaryEntry i).voicesLawful := by
  unfold State.boundaryEntry
  split
  · exact h
  next w hw =>
    have hb := w.boundary_succeeds
    split
    · exact State.freeVoice_voicesLawful i h
    next w' hw' =>
      exact State.voicesLawful_of_calmer (Voices.setVoice_calmer (Voices.voice?_eq_some.mp hw) (hw' ▸ hb)) h

theorem State.audioBoundary_voicesLawful {s : State} (h : s.voicesLawful) : s.audioBoundary.voicesLawful := by
  have mixer {u : State} (hu : u.voicesLawful) : ({ u with mixer := u.mixer.boundary } : State).voicesLawful := hu
  exact mixer (State.foldl_keeps State.boundaryEntry_voicesLawful _ h)

/-! ### The requests and the resets (R89, R90, R93, R191) -/

theorem State.setPoly_voicesLawful {n : Nat} (hn : limitOk n = true) (p : Priority) {s : State} (h : s.voicesLawful) :
    (s.setPoly n p).voicesLawful := by
  obtain ⟨hlow, hhigh⟩ := (inRange_iff ..).mp hn
  obtain ⟨hlength, -, -, -, hone⟩ := h
  have steals (m : Nat) {u : State} (hu : u.voices.table.length = 80
      ∧ ∀ src key, (u.voices.table.countP fun x => x.any (Voice.isOf src key)) ≤ 1) :
      (u.stealN m).voices.table.length = 80 ∧ (u.stealN m).voices.limit = u.voices.limit
        ∧ ∀ src key, ((u.stealN m).voices.table.countP fun x => x.any (Voice.isOf src key)) ≤ 1 := by
    induction m generalizing u with
    | zero => exact ⟨hu.1, rfl, hu.2⟩
    | succ m ih =>
      have hcalm : u.steal.voices.calmer u.voices := by
        unfold State.steal
        split
        · exact u.voices.calmer_refl
        · exact u.voices.fadeEntry_calmer _
      obtain ⟨h1, h2, h3⟩ := ih (u := u.steal)
        ⟨hcalm.table.length_eq.trans hu.1, fun src key => (hcalm.isOf_le src key).trans (hu.2 src key)⟩
      exact ⟨h1, h2.trans hcalm.limit, h3⟩
  obtain ⟨h1, h2, h3⟩ := steals (s.voices.counted - n)
    (u := { s with voices := { s.voices with limit := n, priority := p } }) ⟨hlength, hone⟩
  have hcount := State.stealN_counted (n := s.voices.counted - n)
    (s := { s with voices := { s.voices with limit := n, priority := p } }) (Nat.sub_le ..)
  have hlimit : (s.setPoly n p).voices.limit = n := h2
  have hcounted : (s.setPoly n p).voices.counted + (s.voices.counted - n) = s.voices.counted := hcount
  exact ⟨h1, hlimit.symm ▸ hlow, hlimit.symm ▸ hhigh, by rw [hlimit]; omega, h3⟩

theorem Voices.soundOff_calmer (c : Scope) (v : Voices) : (v.soundOff c).calmer v := by
  refine Voices.calmer_map (Voice.succeeds_map fun w => ?_)
  split
  · exact w.fade_succeeds
  · exact Voice.succeeds_refl _

theorem Voices.warm_calmer (v : Voices) : v.warm.calmer v :=
  ⟨rfl, (Voices.calmer_map (v := v) (f := fun _ => none) Voice.succeeds_none).table⟩

/-- A table of FREE entries counts none. -/
theorem State.voicesLawful_of_free {s : State} (hlength : s.voices.table.length = 80) (hlow : 8 ≤ s.voices.limit)
    (hhigh : s.voices.limit ≤ 64) (h : ∀ x ∈ s.voices.table, x = none) : s.voicesLawful := by
  have zero (p : Voice → Bool) : (s.voices.table.countP fun x => x.any p) = 0 :=
    List.countP_eq_zero.mpr fun x hx hp => by simp [h x hx] at hp
  exact ⟨hlength, hlow, hhigh, (zero _).le.trans (Nat.zero_le _), fun src key => (zero _).le.trans (Nat.zero_le _)⟩

end Sys2Proof.Machine
end

section
/-! Which operations leave the voice table, its limit and the allocation counter alone. -/

namespace Sys2Proof.Machine

/-! ### Notices, the rail and the output -/

@[simp] theorem State.notify_voices (n : Notice) (s : State) : (s.notify n).voices = s.voices := by
  obtain ⟨ns, x, h⟩ := s.notify_frame n
  rw [h]

@[simp] theorem State.enterRail_voices (st : RailState) (why : RailReason) (s : State) :
    (s.enterRail st why).voices = s.voices := by
  obtain ⟨ns, x, m, tm, rs, r, h⟩ := s.enterRail_frame st why
  rw [h]

@[simp] theorem State.arrive_voices (why : RailReason) (s : State) : (s.arrive why).voices = s.voices := by
  obtain ⟨ns, x, m, tm, rs, r, h⟩ := s.arrive_frame why
  rw [h]

@[simp] theorem State.driveMove_voices (why arrival : RailReason) (start : Bool) (s : State) :
    (s.driveMove why arrival start).voices = s.voices := by
  obtain ⟨ns, x, m, tm, rs, r, h⟩ := s.driveMove_frame why arrival start
  rw [h]

@[simp] theorem State.driveHome_voices (why : RailReason) (s : State) : (s.driveHome why).voices = s.voices := by
  obtain ⟨ns, x, m, tm, rs, r, h⟩ := s.driveHome_frame why
  rw [h]

@[simp] theorem State.flightAdded_voices (s : State) : s.flightAdded.voices = s.voices := by
  obtain ⟨ns, x, m, tm, rs, r, h⟩ := s.flightAdded_frame
  rw [h]

@[simp] theorem State.flightRemoved_voices (s : State) : s.flightRemoved.voices = s.voices := by
  obtain ⟨ns, x, m, tm, rs, r, h⟩ := s.flightEmptied_frame
  unfold State.flightRemoved
  split
  · rw [h]
  · rfl

@[simp] theorem State.faultRail_voices (kind : RailFault) (s : State) : (s.faultRail kind).voices = s.voices := by
  unfold State.faultRail
  split <;> simp

@[simp] theorem State.beginHome_voices (s : State) : s.beginHome.voices = s.voices := by
  unfold State.beginHome
  simp only
  split <;> simp

theorem State.autoHome_voices (s : State) : s.autoHome.voices = s.voices := by
  unfold State.autoHome
  simp only
  split_ifs <;> simp

theorem State.setUpMove_voices (g : RailTarget) (p : Policy) (s : State) : (s.setUpMove g p).voices = s.voices := by
  unfold State.setUpMove
  simp only
  split <;> simp

theorem State.replaceTarget_voices (g : RailTarget) (p : Policy) (s : State) : (s.replaceTarget g p).voices = s.voices := by
  unfold State.replaceTarget
  split
  · rfl
  · simp only
    split <;> simp

theorem State.railMove_voices (g : RailTarget) (p : Policy) (s : State) : (s.railMove g p).1.voices = s.voices := by
  have hset := s.setUpMove_voices g p
  have hreplace := s.replaceTarget_voices g p
  have checked {c : Prop} [Decidable c] {x y : Status} {u v : State} (hu : u.voices = s.voices) (hv : v.voices = s.voices) :
      (if c then (u, x) else (v, y)).1.voices = s.voices := by split <;> assumption
  unfold State.railMove
  split
  · rfl
  · rfl
  · rfl
  · exact checked rfl hreplace
  · exact hreplace
  · exact checked rfl hset
  · exact checked rfl hset
  · exact hset

theorem State.railStop_voices (s : State) : s.railStop.1.voices = s.voices := by
  unfold State.railStop
  simp only
  split <;> simp

theorem State.railConfig_voices (c : RailConfig) (s : State) : (s.railConfig c).1.voices = s.voices := by
  unfold State.railConfig
  split
  · rfl
  · split <;> rfl

theorem State.encoderStep_voices (up : Bool) (s : State) : (s.encoderStep up).voices = s.voices := by
  unfold State.encoderStep
  simp only
  split <;> simp

theorem State.encoderIllegal_voices (s : State) : s.encoderIllegal.voices = s.voices := by
  unfold State.encoderIllegal
  split <;> simp

theorem State.indexEdge_voices (s : State) : s.indexEdge.voices = s.voices := by
  unfold State.indexEdge
  split
  · simp only
    split
    · simp
    · split <;> simp
    · rfl
  · rfl

@[simp] theorem State.switchLevelSet_voices (sw : EndSwitch) (b : Bool) (s : State) :
    (s.switchLevelSet sw b).voices = s.voices := by
  cases sw <;> rfl

theorem State.switchCloses_voices (sw : EndSwitch) (s : State) : (s.switchCloses sw).voices = s.voices := by
  unfold State.switchCloses
  split
  · split <;> simp
  · cases sw <;> simp only [State.faultRail_voices]
    split <;> simp
  · cases sw
    · simp only
      split <;> simp
    · rfl
  · rfl

theorem State.switchOpens_voices (sw : EndSwitch) (s : State) : (s.switchOpens sw).voices = s.voices := by
  unfold State.switchOpens
  split
  · split <;> rfl
  · rfl

@[simp] theorem State.followSilence_voices (s : State) : s.followSilence.voices = s.voices := by
  obtain ⟨f, o, r, h⟩ := s.followSilence_frame
  rw [h]

@[simp] theorem State.muteFollows_voices (was : Bool) (s : State) : (s.muteFollows was).voices = s.voices := by
  unfold State.muteFollows
  split <;> simp

theorem State.plugLine_voices (b : Bool) (s : State) : (s.plugLine b).voices = s.voices := by
  unfold State.plugLine
  simp only
  split_ifs <;> simp

theorem State.plugSettled_voices (s : State) : s.plugSettled.voices = s.voices := by
  simp [State.plugSettled]

theorem State.muteLine_voices (b : Bool) (s : State) : (s.muteLine b).voices = s.voices := by
  unfold State.muteLine
  simp only
  split <;> simp

theorem State.setHeadphones_voices (w : Nat) (p : Bool) (m : MuteMode) (s : State) :
    (s.setHeadphones w p m).voices = s.voices := by
  have plug (u : State) : (u.setPlugDetect p).voices = u.voices := by
    unfold State.setPlugDetect
    simp only
    split_ifs <;> simp
  have mute (u : State) : (u.setMuteMode m).voices = u.voices := by
    unfold State.setMuteMode
    split <;> simp
  rw [State.setHeadphones, State.followSilence_voices, mute, plug]

theorem State.unmute_voices (s : State) : s.unmute.1.voices = s.voices := by
  unfold State.unmute
  split <;> simp

/-! ### The link -/

theorem State.arbitrate_voices (s : State) : s.arbitrate.voices = s.voices := by
  unfold State.arbitrate
  split
  · rfl
  · split
    · simp [State.beginReady]
    · split
      · rfl
      · split
        · rfl
        · rfl
        · unfold State.beginPacket
          split <;> rfl

theorem State.receive_voices (b : RxByte) (s : State) : (s.receive b).voices = s.voices := by
  have offer (f : Frame) (u : State) : (u.offerFrame f).voices = u.voices := by
    unfold State.offerFrame
    split <;> rfl
  have ends (bs : List Byte) (u : State) : (u.endFrame bs).voices = u.voices := by
    unfold State.endFrame
    split
    · exact offer ..
    · rfl
  have grow (bs : List Byte) (u : State) : (u.growFrame bs).voices = u.voices := by
    unfold State.growFrame
    split_ifs
    · rfl
    · exact ends ..
    · rfl
  unfold State.receive
  split
  · split <;> rfl
  · split
    · rfl
    · exact grow ..

theorem State.rxGap_voices (s : State) : s.rxGap.voices = s.voices := by
  unfold State.rxGap
  split <;> rfl

theorem State.txDone_voices (s : State) : s.txDone.voices = s.voices := by
  unfold State.txDone
  split <;> rfl

theorem State.rejectFrame_voices (s : State) : s.rejectFrame.voices = s.voices := by
  unfold State.rejectFrame
  split
  · rfl
  · split <;> rfl

theorem State.statsRead_voices (n : Nat) (s : State) : (s.statsRead n).1.voices = s.voices := by
  unfold State.statsRead
  split_ifs <;> rfl

theorem State.loadDone_voices (s : State) : s.loadDone.voices = s.voices := by
  unfold State.loadDone
  split
  · rfl
  · simp only
    split <;> simp [State.endStartUp]

theorem State.routeSet_voices (m : Bool) (n : Nat) (x : Bool) (s : State) : (s.routeSet m n x).1.voices = s.voices := by
  unfold State.routeSet
  split <;> rfl

/-! ### The scanner's and the pedals' requests -/

theorem State.threshSet_voices (x : Thresholds) (s : State) : (s.threshSet x).1.voices = s.voices := by
  unfold State.threshSet
  split <;> rfl

theorem State.curveSet_voices (c : Curve) (ps : List CurvePoint) (s : State) : (s.curveSet c ps).1.voices = s.voices := by
  unfold State.curveSet
  split
  · rfl
  · cases c <;> rfl

theorem State.captureBegin_voices (s : State) : s.captureBegin.1.voices = s.voices := by
  unfold State.captureBegin
  split <;> rfl

theorem State.captureCancel_voices (s : State) : s.captureCancel.1.voices = s.voices := by
  unfold State.captureCancel
  split <;> rfl

theorem State.faultClear_voices (x : FaultTarget) (s : State) : (s.faultClear x).1.voices = s.voices := by
  unfold State.faultClear
  split
  · rfl
  · simp only
    split <;> rfl
  · split
    · rfl
    · split
      · rfl
      · split <;> rfl

theorem State.pedalCal_voices (p : Pedal) (a b : Nat) (s : State) : (s.pedalCal p a b).1.voices = s.voices := by
  unfold State.pedalCal
  split <;> rfl

theorem State.pedalMode_voices (p : Pedal) (m : PedalMode) (n : Nat) (s : State) : (s.pedalMode p m n).1.voices = s.voices := by
  unfold State.pedalMode
  split <;> rfl

/-! ### The Recorder and the packer -/

theorem State.streamEvent_voices (e : LiveEvent) (s : State) : (s.streamEvent e).voices = s.voices := by
  unfold State.streamEvent
  split <;> rfl

theorem State.recordEvent_voices (e : LiveEvent) (s : State) : (s.recordEvent e).voices = s.voices := by
  obtain ⟨st, r, ns, x, h⟩ := s.recordEvent_frame e
  rw [h]

theorem State.writeAll_voices (rs : List (RecordBody × Hand)) (s : State) : (s.writeAll rs).1.voices = s.voices := by
  obtain ⟨st, r, h⟩ := s.writeAll_frame rs
  rw [h]

theorem State.closeRecording_voices (b : Bool) (s : State) : (s.closeRecording b).voices = s.voices := by
  obtain ⟨st, r, h⟩ := s.closeRecording_frame b
  rw [h]

theorem State.storeExhausted_voices (s : State) : s.storeExhausted.voices = s.voices := by
  obtain ⟨st, r, ns, x, h⟩ := s.storeExhausted_frame
  rw [h]

theorem State.emitAll_voices (rs : List (RecordBody × Hand)) (s : State) : (s.emitAll rs).1.voices = s.voices := by
  induction rs generalizing s with
  | nil => rfl
  | cons e rs ih =>
    obtain ⟨st, r, h⟩ := s.emit_frame e.1 e.2 0
    have he : (s.emit e.1 e.2 0).1.voices = s.voices := by rw [h]
    unfold State.emitAll
    split
    next s' hs => rw [hs] at he; exact (ih s').trans he
    next s' hs => rw [hs] at he; exact he

theorem State.resumeRecords_voices (s : State) : s.resumeRecords.1.voices = s.voices := by
  obtain ⟨st, r, h⟩ := s.emitTime_frame s.recorder.since
  have he : (s.emitTime s.recorder.since).1.voices = s.voices := by rw [h]
  unfold State.resumeRecords
  split
  next s' hs => rw [hs] at he; exact (s'.emitAll_voices _).trans he
  next s' hs => rw [hs] at he; exact he

theorem State.replyWrite_voices {x : State × Bool} {was : State} {done : State → State} {ok : Content}
    (hd : ∀ u, (done u).voices = u.voices) : (State.replyWrite x was done ok).1.voices = x.1.voices := by
  unfold State.replyWrite
  split
  · exact hd _
  · exact State.storeExhausted_voices _

theorem State.recStart_voices (id : Nat) (arm : ArmMode) (name : List Byte) (s : State) :
    (s.recStart id arm name).1.voices = s.voices := by
  have finish (x : State × Bool) : (State.finishWrite x).voices = x.1.voices := by
    unfold State.finishWrite
    split
    · rfl
    · exact State.storeExhausted_voices _
  unfold State.recStart
  split
  · rfl
  · simp only
    split
    · rfl
    · cases arm with
      | immediate => exact (finish _).trans (State.writeAll_voices ..)
      | onFirstKey => rfl

theorem State.recMark_voices (n : Nat) (s : State) : (s.recMark n).1.voices = s.voices := by
  obtain ⟨st, r, h⟩ := s.write_frame (.mark n) .none
  have hw : (s.write (.mark n) .none).1.voices = s.voices := by rw [h]
  unfold State.recMark
  split_ifs
  · rfl
  · rfl
  · exact (State.replyWrite_voices fun _ => rfl).trans hw

theorem State.recPause_voices (s : State) : s.recPause.1.voices = s.voices := by
  unfold State.recPause
  split
  · rfl
  · refine (State.replyWrite_voices ?_).trans (State.writeAll_voices ..)
    exact fun _ => rfl

theorem State.recResume_voices (s : State) : s.recResume.1.voices = s.voices := by
  unfold State.recResume
  split
  · rfl
  · refine (State.replyWrite_voices ?_).trans s.resumeRecords_voices
    exact fun _ => rfl

theorem State.recStop_voices (s : State) : s.recStop.1.voices = s.voices := by
  unfold State.recStop
  split
  · rfl
  · rfl
  · simp only [State.recNotify, State.notify_voices]
    exact s.closeRecording_voices false

/-! ### The Practice Player's settings and its waits -/

theorem State.waitConfig_voices (a b : Nat) (s : State) : (s.waitConfig a b).1.voices = s.voices := by
  unfold State.waitConfig
  split <;> rfl

theorem State.playTempo_voices (n : Nat) (w : When) (s : State) : (s.playTempo n w).1.voices = s.voices := by
  unfold State.playTempo
  split_ifs <;> rfl

theorem State.slotDiscard_voices (x : SlotId) (s : State) : (s.slotDiscard x).1.voices = s.voices := by
  unfold State.slotDiscard
  split <;> rfl

@[simp] theorem State.beginCue_voices (why : PlayReason) (s : State) : (s.beginCue why).voices = s.voices := by
  simp [State.beginCue]

theorem State.playStart_voices (id : Nat) (a b : Option Nat) (loops tempo : Nat) (parts : Parts) (report : Bool) (s : State) :
    (s.playStart id a b loops tempo parts report).1.voices = s.voices := by
  unfold State.playStart
  split
  · rfl
  · split
    · rfl
    · split
      · rfl
      · split <;> simp

theorem State.playResume_voices (x : SlotId) (s : State) : (s.playResume x).1.voices = s.voices := by
  unfold State.playResume
  split
  · rfl
  · split <;> simp

theorem State.endWait_voices (how : WaitEnd) (d : Nat) (s : State) : (s.endWait how d).voices = s.voices :=
  State.notify_voices ..

theorem State.countMisses_voices (n : Nat) (s : State) : (s.countMisses n).voices = s.voices := by
  induction n generalizing s with
  | zero => rfl
  | succ n ih => exact ih _

theorem State.offerKey_voices (k : Nat) (s : State) : (s.offerKey k).voices = s.voices := by
  unfold State.offerKey
  split_ifs <;> rfl

theorem State.earlyMatch_voices (s : State) : s.earlyMatch.voices = s.voices := by
  refine List.foldlRecOn s.player.expected State.earlyMatchKey (motive := fun u => u.voices = s.voices) rfl fun u hu k _ => ?_
  unfold State.earlyMatchKey
  split <;> exact hu

theorem State.waitTest_voices (s : State) : s.waitTest.voices = s.voices := by
  unfold State.waitTest
  split
  · rfl
  · simp only
    split
    · exact (State.endWait_voices ..).trans s.earlyMatch_voices
    · exact s.earlyMatch_voices

theorem State.markPassed_voices (n time : Nat) (s : State) : (s.markPassed n time).voices = s.voices := by
  unfold State.markPassed
  simp only
  split <;> split <;> simp

end Sys2Proof.Machine
end

section
/-! Every step keeps the laws of the voice table (R74, R75). -/

namespace Sys2Proof.Machine

/-! ### Ends, pauses and loops of the Practice Player (R163, R168, R170 to R172) -/

theorem State.releaseOpen_voicesLawful {s : State} (h : s.voicesLawful) : s.releaseOpen.voicesLawful :=
  State.foldl_keeps (op := fun x k => x.noteOff .playback k) (fun k _ => State.noteOff_voicesLawful .playback k)
    s.player.openNotes h

theorem State.setContext_voicesLawful (c : PedalContext) (b : Bool) {s : State} (h : s.voicesLawful) :
    (s.setContext c b).voicesLawful := by
  have claim (b : Bool) {u : State} (hu : u.voicesLawful) : (u.claimIf b).voicesLawful :=
    keeps_due (State.pedalClaim_voicesLawful .playback hu) hu
  exact claim _ (claim _ (claim _ (u := { s with player := { s.player with context := c } }) h))

theorem State.endTake_voicesLawful (why : PlayReason) {s : State} (h : s.voicesLawful) : (s.endTake why).voicesLawful :=
  State.voicesLawful_of_voices (State.notify_voices ..)
    (State.setContext_voicesLawful _ _ (State.releaseOpen_voicesLawful h))

theorem State.pausePlay_voicesLawful {s : State} (h : s.voicesLawful) : s.pausePlay.voicesLawful :=
  State.voicesLawful_of_voices (State.notify_voices ..) (State.releaseOpen_voicesLawful h)

theorem State.loopEnd_voicesLawful (j : Bool) {s : State} (h : s.voicesLawful) : (s.loopEnd j).1.voicesLawful := by
  unfold State.loopEnd
  split
  · exact State.setContext_voicesLawful _ _ (State.releaseOpen_voicesLawful h)
  · exact State.endTake_voicesLawful _ h

theorem State.haltActs_voicesLawful (go : Go) {s : State} (h : s.voicesLawful) : (s.haltActs go).1.voicesLawful := by
  unfold State.haltActs
  split
  · exact h
  · exact State.endTake_voicesLawful _ h
  · exact State.pausePlay_voicesLawful h

/-! ### Records (R164, R166, R168) -/

theorem State.handleMark_voicesLawful (n time : Nat) (j : Bool) {s : State} (h : s.voicesLawful) :
    (s.handleMark n time j).1.voicesLawful := by
  have hm : (s.markPassed n time).voicesLawful := State.voicesLawful_of_voices (s.markPassed_voices n time) h
  unfold State.handleMark
  simp only
  split
  · have hl := State.loopEnd_voicesLawful j hm
    split
    next he => rw [he] at hl; exact hl
    next he => rw [he] at hl; exact State.haltActs_voicesLawful _ hl
  · exact State.haltActs_voicesLawful _ hm

theorem State.handleRecord_voicesLawful (x : Timed) (j : Bool) {s : State} (h : s.voicesLawful) :
    (s.handleRecord x j).1.voicesLawful := by
  unfold State.handleRecord
  simp only
  split
  · unfold State.handleOn
    split
    · exact State.noteOn_voicesLawful .playback _ _ (s := { s with player := { s.player with pos := x.pos + 1 } }) h
    · exact h
    · exact State.voicesLawful_of_voices (State.offerKey_voices ..) h
  · exact keeps_due
      (State.noteOff_voicesLawful .playback _ (s := { s with player := { s.player with pos := x.pos + 1 } }) h) h
  · exact State.setContext_voicesLawful _ _ h
  · exact State.handleMark_voicesLawful _ _ _ h
  · split
    · exact State.loopEnd_voicesLawful _ h
    · exact State.endTake_voicesLawful _ h
  all_goals exact h

theorem State.handleList_voicesLawful (j : Bool) (xs : List Timed) {s : State} (h : s.voicesLawful) :
    (s.handleList j xs).1.voicesLawful := by
  induction xs generalizing s with
  | nil => exact h
  | cons x xs ih =>
    have hx := State.handleRecord_voicesLawful x j h
    unfold State.handleList
    split
    next he => rw [he] at hx; exact ih hx
    next he => rw [he] at hx; exact hx

theorem State.handleDue_voicesLawful {s : State} (h : s.voicesLawful) : s.handleDue.1.voicesLawful := by
  have h1 := State.handleList_voicesLawful false s.dueRecords h
  unfold State.handleDue
  split
  next he => rw [he] at h1; exact h1
  next he => rw [he] at h1; exact h1
  next s' he =>
    rw [he] at h1
    have h2 := State.handleList_voicesLawful true s'.dueRecords h1
    split
    next he' => rw [he'] at h2; exact h2
    next he' => rw [he'] at h2; exact h2

theorem State.handleAndTest_voicesLawful {s : State} (h : s.voicesLawful) : s.handleAndTest.voicesLawful := by
  have hd := State.handleDue_voicesLawful h
  unfold State.handleAndTest
  split
  next he => rw [he] at hd; exact State.voicesLawful_of_voices (State.waitTest_voices _) hd
  next he => rw [he] at hd; exact hd

theorem State.enterPlaying_voicesLawful {s : State} (h : s.voicesLawful) : s.enterPlaying.voicesLawful :=
  State.handleAndTest_voicesLawful (s := { s with player := { s.player with state := .playing } }) h

theorem State.playTick_voicesLawful {s : State} (h : s.voicesLawful) : s.playTick.voicesLawful :=
  State.handleAndTest_voicesLawful
    (s := { s with player := { s.player with clock := s.player.clock + 1, tickStart := s.player.pos } }) h

theorem State.cueDone_voicesLawful {s : State} (h : s.voicesLawful) : s.cueDone.voicesLawful := by
  have hcue : s.cueEnd.voicesLawful := by
    unfold State.cueEnd
    simp only
    split <;> exact State.setContext_voicesLawful _ _ h
  exact State.enterPlaying_voicesLawful (State.voicesLawful_of_voices (State.notify_voices ..) hcue)

/-! ### The player's requests, strikes and waits (R167, R169, R172, R173, R176 to R178) -/

theorem State.playSuspend_voicesLawful (x : SlotId) {s : State} (h : s.voicesLawful) : (s.playSuspend x).1.voicesLawful := by
  unfold State.playSuspend
  split
  · exact h
  · exact h
  · exact h
  · split
    · exact h
    · refine State.voicesLawful_of_voices (State.notify_voices ..) ?_
      exact State.setContext_voicesLawful _ _ (State.releaseOpen_voicesLawful h)

theorem State.playParts_voicesLawful (parts : Parts) {s : State} (h : s.voicesLawful) : (s.playParts parts).1.voicesLawful := by
  unfold State.playParts
  split
  · exact h
  · simp only
    split
    · exact h
    · split
      · exact State.enterPlaying_voicesLawful h
      · split <;> exact h
      · exact h

theorem State.playStop_voicesLawful (w : When) {s : State} (h : s.voicesLawful) : (s.playStop w).1.voicesLawful := by
  unfold State.playStop
  split
  · exact h
  · cases w with
    | now => exact State.endTake_voicesLawful _ h
    | atMark => exact h

theorem State.playPause_voicesLawful (w : When) {s : State} (h : s.voicesLawful) : (s.playPause w).1.voicesLawful := by
  unfold State.playPause
  split
  · exact h
  · exact h
  · exact State.pausePlay_voicesLawful h
  · exact State.pausePlay_voicesLawful h
  · exact h

theorem State.playContinue_voicesLawful {s : State} (h : s.voicesLawful) : s.playContinue.1.voicesLawful := by
  have hp := State.enterPlaying_voicesLawful (s := { s with player := { s.player with waitPending := false } }) h
  unfold State.playContinue
  split
  · exact h
  · simp only
    split
    · exact State.voicesLawful_of_voices (State.notify_voices ..) hp
    · exact State.voicesLawful_of_voices (State.notify_voices ..) hp
    · exact hp

theorem State.waitExpires_voicesLawful {s : State} (h : s.voicesLawful) : s.waitExpires.voicesLawful :=
  State.enterPlaying_voicesLawful (State.voicesLawful_of_voices (State.endWait_voices ..)
    (State.voicesLawful_of_voices (s' := s.countMisses _) (State.countMisses_voices ..) h))

theorem State.matchStrike_voicesLawful (k : Nat) (t : Time) {s : State} (h : s.voicesLawful) :
    (s.matchStrike k t).voicesLawful := by
  unfold State.matchStrike
  split
  · exact h
  · unfold State.judge
    split
    · exact keeps_due (State.enterPlaying_voicesLawful (State.voicesLawful_of_voices (State.endWait_voices ..) h)) h
    · exact h
  · exact h

/-! ### The router and the scanner (R10, R33, R44) -/

theorem State.route_voicesLawful (b : EventBody) (t : Time) {s : State} (h : s.voicesLawful) : (s.route b t).voicesLawful := by
  have claim {u : State} (hu : u.voicesLawful) : (u.voiceClaim b).voicesLawful := by
    cases b with
    | noteOn k v _ _ => exact State.noteOn_voicesLawful .live k v hu
    | noteOff k _ => exact State.noteOff_voicesLawful .live k hu
    | pedal _ _ => exact State.pedalClaim_voicesLawful .live hu
  have matcher (e : LiveEvent) {u : State} (hu : u.voicesLawful) : (u.matcherTakes e).voicesLawful := by
    unfold State.matcherTakes
    split
    · exact State.matchStrike_voicesLawful _ _ hu
    · exact hu
  have deliver (e : LiveEvent) (he : e.body = b) (g : Gates) {u : State} (hu : u.voicesLawful) : (u.deliver e g).voicesLawful := by
    have h1 : (if g.voices then u.voiceClaim e.body else u).voicesLawful := keeps_due (he ▸ claim hu) hu
    have h2 := keeps_due (p := g.recorder = true) (State.voicesLawful_of_voices (State.recordEvent_voices e _) h1) h1
    have h3 := keeps_due (p := g.matcher = true) (matcher e h2) h2
    exact keeps_due (p := g.packer = true) (State.voicesLawful_of_voices (State.streamEvent_voices e _) h3) h3
  exact deliver { body := b, hand := s.router.hand b, time := t } rfl _ (u := { s with router := { s.router with passage := _ } }) h

theorem State.settles_voicesLawful (t : Time) (i : Nat) (r : Key × List KeyAct) {s : State} (h : s.voicesLawful) :
    (r.2.foldl (State.perform t) (s.setKey i r.1)).voicesLawful := by
  refine State.foldl_keeps (fun a u hu => ?_) r.2 (s := s.setKey i r.1) h
  cases a with
  | flightAdded => exact State.voicesLawful_of_voices u.flightAdded_voices hu
  | flightRemoved => exact State.voicesLawful_of_voices u.flightRemoved_voices hu
  | event b => exact State.route_voicesLawful b t hu
  | count c => exact hu
  | notice n => exact State.voicesLawful_of_voices (u.notify_voices n) hu

theorem State.settleCal_voicesLawful (i : Nat) (c : CalRecord) {s : State} (h : s.voicesLawful) :
    (s.settleCal i c).1.voicesLawful := by
  unfold State.settleCal
  split
  · exact h
  · simp only
    split
    · exact State.settles_voicesLawful _ _ _ h
    · exact h

theorem State.scanFrame_voicesLawful (ks hs : List Nat) (p : PedalRaws) {s : State} (h : s.voicesLawful) :
    (s.scanFrame ks hs p).voicesLawful := by
  have key (i : Nat) {u : State} (hu : u.voicesLawful) : (u.scanKey ks hs i).voicesLawful := by
    unfold State.scanKey
    split
    · exact hu
    · exact State.settles_voicesLawful _ _ _ hu
  have event (q : Pedal) (n : Nat) {u : State} (hu : u.voicesLawful) : (u.pedalEvent q n).voicesLawful :=
    State.route_voicesLawful _ _ (s := { u with pedals := _ }) hu
  have pedal (q : Pedal) (raw : Nat) {u : State} (hu : u.voicesLawful) : (u.scanPedal q raw).voicesLawful := by
    unfold State.scanPedal
    simp only
    split_ifs
    · exact hu
    · exact State.voicesLawful_of_voices (State.notify_voices ..) (event q 0 hu)
    · exact hu
    · split
      · exact event q _ hu
      · exact hu
  unfold State.scanFrame
  split
  · exact pedal _ _ (pedal _ _ (pedal _ _ (State.foldl_keeps key _ h)))
  · exact h

/-! ### The start-up and the resets (R93, R191, R193) -/

/-- R191: the limit of a setup that is taken lies in its range: the built-in one's, or that of a setup that passed its checks. -/
theorem State.chooseSetup_limit (s : State) : 8 ≤ s.chooseSetup.2.limit ∧ s.chooseSetup.2.limit ≤ 64 := by
  have default : 8 ≤ defaultSetup.limit ∧ defaultSetup.limit ≤ 64 := by decide
  unfold State.chooseSetup
  split
  · exact default
  · split
    · exact default
    · split
      next x hx =>
        have hok : x.ok = true := by
          unfold State.readSetup at hx
          simp only at hx
          split_ifs at hx
          split at hx
          · cases hx
          · split_ifs at hx with hok
            cases hx
            exact hok
        obtain ⟨-, -, -, -, -, -, -, -, hlow, hhigh, -⟩ := (Setup_ok_iff x).1 hok
        exact ⟨hlow, hhigh⟩
      · exact default

/-- R191: before the setup every entry is FREE, so the setup's limit holds of the table. -/
theorem State.setupDone_voicesLawful {s : State} (hq : s.startsQuietly) (h : s.voicesLawful) : s.setupDone.voicesLawful := by
  unfold State.setupDone
  split
  · exact h
  next hstart =>
    obtain ⟨-, -, hquiet⟩ := hq
    obtain ⟨-, hfree, -⟩ := hquiet (.inr (not_not.mp hstart))
    exact State.voicesLawful_of_free h.1 s.chooseSetup_limit.1 s.chooseSetup_limit.2 hfree

theorem State.warmReset_voicesLawful {s : State} (h : s.voicesLawful) : s.warmReset.voicesLawful := by
  have hv : s.warmReset.voices = s.warmRecorder.voices.warm := by
    unfold State.warmReset
    simp only
    split <;> rfl
  have hr : s.warmRecorder.voicesLawful := by
    unfold State.warmRecorder
    exact keeps_due (P := fun u => ({ u with recorder := Recorder.reset } : State).voicesLawful) h
      (State.voicesLawful_of_voices (s.closeRecording_voices true) h)
  exact State.voicesLawful_of_calmer (hv ▸ s.warmRecorder.voices.warm_calmer) hr

/-! ### Every command, and every step -/

section
variable {s s' : State} (hs : s.voicesLawful)
include hs

/-- An event whose operation keeps the laws keeps them. -/
theorem State.voicesLawful_event {op : State → State} {t : Time}
    (h : (Host.Outcome.next (s.atTime t op) : Host.Outcome State Fault Refusal) = .next s')
    (hop : ∀ u, u.voicesLawful → (op u).voicesLawful) : s'.voicesLawful := by
  cases h
  exact State.voicesLawful_of_voices (State.arbitrate_voices _) (hop (s.upTo t) hs)

/-- A request whose run keeps the laws keeps them. -/
theorem State.voicesLawful_request {run : State → State × Status × Content} {q : Request} {t : Time}
    (h : (Host.Outcome.next (s.takeRequest q t run) : Host.Outcome State Fault Refusal) = .next s')
    (hr : ∀ u, u.voicesLawful → (run u).1.voicesLawful) : s'.voicesLawful := by
  cases h
  unfold State.takeRequest
  simp only
  split
  · exact hs
  · split
    · exact State.voicesLawful_of_voices (State.arbitrate_voices _) (hr (s.upTo t).popRequest hs)
    · exact hs

end

/-- The commands that can move the voices. -/
def movesVoices : Instr → Bool
  | .fullReset _ | .setupAreaReadDone _ | .warmReset _ | .scanFrame _ _ _ _ | .segmentReadDone _ | .outputFrame _
  | .audioBlockBoundary _ | .cueDone _ | .playerTick _ | .waitTimer _ | .calSet _ _ _ | .captureEnd _ | .polySet _ _ _
  | .soundOff _ _ | .playStop _ _ | .playPause _ _ | .playContinue _ | .playParts _ _ | .playSuspend _ _ => true
  | _ => false

/-- Every other command leaves the voices as they are. -/
theorem exec_voices {c : Instr} {s s' : State} (hc : movesVoices c = false) (h : exec c s = .next s') : s'.voices = s.voices := by
  have event {op : State → State} {t : Time}
      (h : (Host.Outcome.next (s.atTime t op) : Host.Outcome State Fault Refusal) = .next s')
      (hop : ∀ u, (op u).voices = u.voices) : s'.voices = s.voices := by
    cases h
    exact (State.arbitrate_voices _).trans ((hop _).trans rfl)
  have request {run : State → State × Status × Content} {q : Request} {t : Time}
      (h : (Host.Outcome.next (s.takeRequest q t run) : Host.Outcome State Fault Refusal) = .next s')
      (hr : ∀ u, (run u).1.voices = u.voices) : s'.voices = s.voices := by
    cases h
    unfold State.takeRequest
    simp only
    split
    · rfl
    · exact keeps_due (P := fun v => v.voices = s.voices) ((State.arbitrate_voices _).trans ((hr _).trans rfl)) rfl
  have due {p : Prop} [Decidable p] {u v : State} (h : u.voices = v.voices) : (if p then u else v).voices = v.voices :=
    keeps_due (P := fun x => x.voices = v.voices) h rfl
  have checked {p : Prop} [Decidable p] {u v : State} {x y : Status} (h : u.voices = v.voices) :
      (if p then (u, x) else (v, y)).1.voices = v.voices :=
    keeps_checked (P := fun x => x.voices = v.voices) h rfl
  have named {α β : Type} {x : Option α} {refusal : β} {run : α → State × β} {u : State} (h : ∀ a, (run a).1.voices = u.voices) :
      (x.elim (u, refusal) run).1.voices = u.voices := by
    cases x with
    | none => rfl
    | some a => exact h a
  cases c with
  | fullReset _ | setupAreaReadDone _ | warmReset _ | scanFrame _ _ _ _ | segmentReadDone _ | outputFrame _
  | audioBlockBoundary _ | cueDone _ | playerTick _ | waitTimer _ | calSet _ _ _ | captureEnd _ | polySet _ _ _
  | soundOff _ _ | playStop _ _ | playPause _ _ | playContinue _ | playParts _ _ | playSuspend _ _ => cases hc
  | autoHome t => exact event h State.autoHome_voices
  | rxFrame t b | byteReceived t b => exact event h (State.receive_voices b)
  | rxGapTimeout t => exact event h State.rxGap_voices
  | unknownKind t _ => exact event h State.rejectFrame_voices
  | txFrameDone t => exact event h State.txDone_voices
  | streamHoldTimer t | settleTimer t => exact event h fun _ => due rfl
  | encoderChange t x =>
    cases x with
    | step up => exact event h (State.encoderStep_voices up)
    | illegal => exact event h State.encoderIllegal_voices
  | indexEdge t b => exact event h fun u => due (State.indexEdge_voices _)
  | endSwitchClose t sw =>
    exact event h fun u => (State.switchCloses_voices ..).trans (u.switchLevelSet_voices ..)
  | endSwitchOpen t sw =>
    exact event h fun u => (State.switchOpens_voices ..).trans (u.switchLevelSet_voices ..)
  | railStall t | railTravelTimeout t => exact event h fun u => due (u.faultRail_voices _)
  | soundsetLoadDone t => exact event h State.loadDone_voices
  | plugDetectChange t b => exact event h (State.plugLine_voices b)
  | plugSettleTimer t => exact event h fun u => due u.plugSettled_voices
  | muteLineChange t b => exact event h (State.muteLine_voices b)
  | recTakeClockTick t => exact event h fun _ => rfl
  | threshSet t x => exact request h (State.threshSet_voices x)
  | curveSet t x ps => exact request h fun u => named fun c => u.curveSet_voices c ps
  | faultClear t x => exact request h (State.faultClear_voices x)
  | captureBegin t => exact request h State.captureBegin_voices
  | captureCancel t => exact request h State.captureCancel_voices
  | pedalCal t p a b => exact request h fun u => named fun p => u.pedalCal_voices p a b
  | pedalMode t p m n =>
    refine request h fun u => ?_
    cases p <;> cases m <;> [rfl; rfl; rfl; exact u.pedalMode_voices ..]
  | routeSet t m n x =>
    refine request h fun u => ?_
    cases m <;> cases x <;> [rfl; rfl; rfl; exact u.routeSet_voices ..]
  | railMove t g p =>
    refine request h fun u => ?_
    cases g <;> cases p <;> [rfl; rfl; rfl; exact u.railMove_voices ..]
  | railHome t => exact request h State.beginHome_voices
  | railStop t => exact request h State.railStop_voices
  | railConfig t a b m n l x o => exact request h fun u => named fun o => u.railConfig_voices _
  | soundsetReload t =>
    refine request h fun u => ?_
    unfold plainly
    simp only
    split <;> rfl
  | volumeSet t m => exact request h fun u => checked (State.followSilence_voices _)
  | mixSet t a b x c =>
    refine request h fun u => ?_
    cases x <;> cases c <;> [rfl; rfl; rfl; exact checked (State.followSilence_voices _)]
  | hpConfig t w p m =>
    refine request h fun u => ?_
    cases p <;> cases m <;> [rfl; rfl; rfl; exact checked (u.setHeadphones_voices ..)]
  | unmute t => exact request h State.unmute_voices
  | recStart t id a n => exact request h fun u => named fun a => u.recStart_voices id a n
  | recMark t n => exact request h (State.recMark_voices n)
  | recPause t => exact request h State.recPause_voices
  | recResume t => exact request h State.recResume_voices
  | recStop t => exact request h State.recStop_voices
  | streamConfig t m a b => exact request h fun u => by cases m <;> rfl
  | playStart t id a b l x p r => exact request h fun u => named fun p => u.playStart_voices id a b l x p r
  | playTempo t n w => exact request h fun u => named fun w => u.playTempo_voices n w
  | waitConfig t a b => exact request h (State.waitConfig_voices a b)
  | playResume t x => exact request h fun u => named fun x => u.playResume_voices x
  | slotDiscard t x => exact request h fun u => named fun x => u.slotDiscard_voices x
  | statsRead t n => exact request h (State.statsRead_voices n)
  | keyQuery t _ | scanQuery t | pedalQuery t | routeQuery t | railQuery t | voiceQuery t | voiceRead t _ _
  | soundsetQuery t | zoneRead t _ _ | streamRead t _ | mixQuery t | takeList t | takeInfo t _ | takeRename t _ _
  | takeDelete t _ | uploadOpen t _ _ _ | uploadBlock t _ _ | downloadOpen t _ _ _ | downloadBlock t | transferAbort t
  | recQuery t | streamQuery t | playerQuery t | status t | identify t | restart t =>
    exact request h fun _ => rfl

theorem exec_voicesLawful {c : Instr} {s s' : State} (hs : s.voicesLawful) (hq : s.startsQuietly) (h : exec c s = .next s') :
    s'.voicesLawful := by
  have event {op : State → State} {t : Time} := State.voicesLawful_event (op := op) (t := t) hs (s' := s')
  have request {run : State → State × Status × Content} {q : Request} {t : Time} :=
    State.voicesLawful_request (run := run) (q := q) (t := t) hs (s' := s')
  have named {α β : Type} {x : Option α} {refusal : β} {run : α → State × β} {u : State} (hu : u.voicesLawful)
      (h : ∀ a, (run a).1.voicesLawful) : (x.elim (u, refusal) run).1.voicesLawful := by
    cases x with
    | none => exact hu
    | some a => exact h a
  cases hc : movesVoices c with
  | false => exact State.voicesLawful_of_voices (exec_voices hc h) hs
  | true =>
    cases c with
    | fullReset b =>
      cases h
      exact Voices.reset_lawful
    | setupAreaReadDone t =>
      cases h
      exact State.voicesLawful_of_voices (State.arbitrate_voices _) (State.setupDone_voicesLawful (s := s.upTo t) hq hs)
    | warmReset t => exact event h fun _ hu => keeps_due (State.warmReset_voicesLawful hu) hu
    | scanFrame t ks hs' p => exact event h fun _ => State.scanFrame_voicesLawful ks hs' p
    | segmentReadDone t =>
      refine event h fun u hu => ?_
      cases u.fetch.inFlight with
      | none => exact hu
      | some e => exact State.segmentDone_voicesLawful e hu
    | outputFrame t => exact event h fun _ => State.outputFrame_voicesLawful
    | audioBlockBoundary t => exact event h fun _ => State.audioBoundary_voicesLawful
    | cueDone t => exact event h fun _ hu => keeps_due (State.cueDone_voicesLawful hu) hu
    | playerTick t => exact event h fun _ hu => keeps_due (State.playTick_voicesLawful hu) hu
    | waitTimer t => exact event h fun _ hu => keeps_due (State.waitExpires_voicesLawful hu) hu
    | calSet t i c => exact request h fun _ => State.calSet_keeps (fun i c _ => State.settleCal_voicesLawful i c) i c
    | captureEnd t =>
      exact request h fun _ hu => State.captureEnd_keeps (fun i c _ => State.settleCal_voicesLawful i c) hu hu
    | polySet t n p =>
      refine request h fun u hu => ?_
      cases p with
      | none => exact hu
      | some p =>
        change (if limitOk n then (u.setPoly n p, Status.ok) else (u, .badArgument)).1.voicesLawful
        split
        next hn => exact State.setPoly_voicesLawful hn p hu
        next => exact hu
    | soundOff t c =>
      refine request h fun u hu => ?_
      cases c with
      | none => exact hu
      | some c => exact State.voicesLawful_of_calmer (u.voices.soundOff_calmer c) hu
    | playStop t w => exact request h fun _ hu => named hu fun w => State.playStop_voicesLawful w hu
    | playPause t w => exact request h fun _ hu => named hu fun w => State.playPause_voicesLawful w hu
    | playContinue t => exact request h fun _ => State.playContinue_voicesLawful
    | playParts t p => exact request h fun _ hu => named hu fun p => State.playParts_voicesLawful p hu
    | playSuspend t x => exact request h fun _ hu => named hu fun x => State.playSuspend_voicesLawful x hu
    | _ => cases hc

/-- Settles O57: a claim makes room before it allocates (`State.allocateVoice_voicesLawful`), POLY_SET steals down to its limit, the
setup's limit meets a table of FREE entries, and nothing else counts a voice anew (`Voices.calmer`). -/
theorem stepsKeepTheVoiceLaws : Obligations.StepsKeepTheVoiceLaws := by
  intro s s' hs hq h
  obtain rfl | ⟨c, cs, -, h⟩ := step_cases h
  · exact State.voicesLawful_of_voices (s := s) rfl hs
  · exact exec_voicesLawful (s := { s with pending := cs }) hs hq h

end Sys2Proof.Machine
end

section
/-! Note-on claims and the steal order (R77 to R79, R86). -/

namespace Sys2Proof.Machine

/-! ### A claim's zone (R77) -/

theorem Zone.serves_iff (z : Zone) (key vel : Nat) :
    z.serves key vel = true ↔ z.lowKey ≤ key ∧ key ≤ z.highKey ∧ z.lowVel ≤ vel ∧ vel ≤ z.highVel := by
  simp only [Zone.serves, Bool.and_eq_true, inRange_iff, and_assoc]

theorem Fetch.chooseZone_of_first {f : Fetch} {key vel z : Nat} {zn : Zone} (hz : f.zones[z]? = some zn)
    (h : zn.serves key vel = true) (first : ∀ j y, j < z → f.zones[j]? = some y → ¬y.serves key vel = true) :
    f.chooseZone key vel = some z :=
  placeOf_eq_some hz h fun j y hj hy => Bool.eq_false_iff.mpr (first j y hj hy)

/-- A claim without a VALID sound set, or without a zone, is dropped. -/
theorem State.noteOn_dropped {s : State} {src : Source} {key vel : Nat}
    (h : s.fetch.status ≠ .valid ∨ s.fetch.chooseZone key (effectiveVelocity (s.context src).soft vel) = none) :
    s.noteOn src key vel = s.tally .notesDropped := by
  unfold State.noteOn
  simp only
  split
  · rfl
  next hv => rw [h.resolve_left hv]

/-- R79: the gain that a claim's zone gives its voice. -/
def State.claimGain (s : State) (src : Source) (vel z : Nat) : Nat :=
  voiceGain ((s.fetch.zone? z).elim 0 (·.gain)) vel (s.context src).soft

/-- The steps of a claim that has its zone. -/
theorem State.noteOn_zone {s : State} {src : Source} {key vel z : Nat} (hv : s.fetch.status = .valid)
    (hz : s.fetch.chooseZone key (effectiveVelocity (s.context src).soft vel) = some z) :
    s.noteOn src key vel = (({ s with voices := s.voices.restrike src key } : State).stealIfFull).allocateVoice src key vel z
      (s.claimGain src vel z) := by
  unfold State.noteOn
  simp only
  rw [if_neg (not_not.mpr hv), hz]
  rfl

theorem Voices.restrike_none {v : Voices} {src : Source} {key : Nat} (h : v.find src key = none) : v.restrike src key = v := by
  rw [Voices.restrike, h]

/-- A claim with no counted voice of its source and key goes on to its third step. -/
theorem State.noteOn_alone {s : State} {src : Source} {key vel z : Nat} (hv : s.fetch.status = .valid)
    (hz : s.fetch.chooseZone key (effectiveVelocity (s.context src).soft vel) = some z) (h : s.voices.find src key = none) :
    s.noteOn src key vel = s.stealIfFull.allocateVoice src key vel z (s.claimGain src vel z) := by
  rw [State.noteOn_zone hv hz, Voices.restrike_none h]

theorem State.stealIfFull_below {s : State} (h : s.voices.counted < s.voices.limit) : s.stealIfFull = s := if_neg h.ne

/-! ### The claims of R77 to R79 -/

theorem aNoteOnAllocatesTheLowestFreeEntry : Claims.ANoteOnAllocatesTheLowestFreeEntry := by
  intro s src key vel z i zn soft ev serves hv hzn hserves hfirst halone hroom hfree hlowest
  have hz : s.fetch.chooseZone key (effectiveVelocity (s.context src).soft vel) = some z :=
    Fetch.chooseZone_of_first hzn ((Zone.serves_iff ..).mpr hserves)
      fun j y hj hy => mt (Zone.serves_iff y key ev).mp (hfirst j y hj hy)
  have hfind : s.voices.find src key = none := Voices.find_eq_none fun w hw h => halone w hw h.1 h.2.1 h.2.2
  have hi : s.voices.free = some i := by
    refine placeOf_eq_some hfree rfl fun j y hj hy => ?_
    cases y with
    | none => exact absurd hy (hlowest j hj)
    | some w => rfl
  have hgain : s.claimGain src vel z = zn.gain + (127 - vel) / 4 + soft / 22 := by
    simp only [State.claimGain, Fetch.zone?, hzn, Option.elim_some, voiceGain]
    rfl
  rw [State.noteOn_alone hv hz hfind, State.stealIfFull_below hroom, State.allocateVoice, hi, hgain]
  simp only [Voices.setVoice_eq]

theorem aNoteWithoutAZoneIsDropped : Claims.ANoteWithoutAZoneIsDropped := by
  intro s src key vel soft ev h
  refine State.noteOn_dropped (h.imp_right fun hno => placeOf_eq_none fun y hy => ?_)
  exact Bool.eq_false_iff.mpr (mt (Zone.serves_iff y key ev).mp (hno y hy))

/-- A steal changes neither the zone of a claim nor its gain; nor does a counter. -/
theorem aNoteOnRestrikesStealsAndThenAllocates : Claims.ANoteOnRestrikesStealsAndThenAllocates := by
  intro s src key vel soft ev serves mine fades hv hex
  obtain ⟨z, hz⟩ : ∃ z, s.fetch.chooseZone key (effectiveVelocity (s.context src).soft vel) = some z := by
    obtain ⟨y, hy, hserves⟩ := hex
    exact Option.isSome_iff_exists.mp
      ((placeOf_isSome_iff _ _).mpr ⟨y, hy, (Zone.serves_iff y key ev).mpr hserves⟩)
  have hfades {i : Nat} {w : Voice} (h : s.voices.table[i]? = some (some w)) (hc : w.counted = true) :
      fades i w = { s with voices := s.voices.fadeEntry i } :=
    congrArg (fun v => ({ s with voices := v } : State)) (Voices.fadeEntry_of_counted h hc).symm
  have faded {i j : Nat} {w w' : Voice} (h : s.voices.table[i]? = some (some w))
      (hj : (s.voices.fadeEntry i).table[j]? = some (some w')) (hc : w'.counted = true) :
      j ≠ i ∧ s.voices.table[j]? = some (some w') := by
    rw [Voices.fadeEntry_eq h] at hj
    change (s.voices.table.set i (some w.fade))[j]? = _ at hj
    by_cases hji : j = i
    · subst hji
      rw [List.getElem?_set_self (List.getElem?_eq_some_iff.mp h).1] at hj
      cases hj
      simp at hc
    · rw [List.getElem?_set_ne (Ne.symm hji)] at hj
      exact ⟨hji, hj⟩
  refine ⟨fun i w h hmine hothers => ?_, fun hnone => ⟨fun i w hfull hvictim h => ?_, fun hroom hfull => ?_⟩⟩
  · have hfind : s.voices.find src key = some i :=
      Voices.find_eq_some h hmine fun j w' hj => hothers j w' hj.ne
    have hgone : (s.voices.fadeEntry i).find src key = none := by
      refine Voices.find_eq_none fun w' hw' hm => ?_
      obtain ⟨j, hj⟩ := List.mem_iff_getElem?.mp hw'
      obtain ⟨hji, hj⟩ := faded h hj hm.1
      exact hothers j w' hji hj hm
    rw [hfades h hmine.1, State.noteOn_alone (s := { s with voices := s.voices.fadeEntry i }) hv hz hgone,
      State.noteOn_zone hv hz, Voices.restrike, hfind]
    rfl
  · have hfind : s.voices.find src key = none := Voices.find_eq_none hnone
    obtain ⟨w', hw', hc⟩ := Voices.victim_spec hvictim
    obtain rfl : w = w' := by rw [h] at hw'; cases hw'; rfl
    have hgone : (s.voices.fadeEntry i).find src key = none := by
      refine Voices.find_eq_none fun w' hw' hm => ?_
      obtain ⟨j, hj⟩ := List.mem_iff_getElem?.mp hw'
      obtain ⟨-, hj⟩ := faded h hj hm.1
      exact hnone w' (List.mem_of_getElem? hj) hm
    have hbelow : (s.voices.fadeEntry i).counted < (s.voices.fadeEntry i).limit := by
      have hcounted := Voices.fadeEntry_counted h hc
      change _ < s.voices.limit
      omega
    have hsteal : s.stealIfFull = ({ s with voices := s.voices.fadeEntry i } : State).tally .voiceSteals :=
      (if_pos hfull).trans (State.steal_eq hvictim)
    rw [hfades h hc, State.noteOn_alone (s := ({ s with voices := s.voices.fadeEntry i } : State).tally .voiceSteals) hv hz hgone,
      State.stealIfFull_below (s := ({ s with voices := s.voices.fadeEntry i } : State).tally .voiceSteals) hbelow,
      State.noteOn_alone hv hz hfind, hsteal]
    rfl
  · have hfind : s.voices.find src key = none := Voices.find_eq_none hnone
    have hfree : s.voices.free = none := by
      refine placeOf_eq_none fun x hx => ?_
      cases x with
      | none => exact absurd hx hfull
      | some w => rfl
    rw [State.noteOn_alone hv hz hfind, State.stealIfFull_below hroom, State.allocateVoice, hfree]

/-! ### The steal order (R78) -/

theorem Voices.victim_eq (v : Voices) :
    v.victim = (v.oldest Voice.isDamped).or
      ((v.oldest fun w => w.phase == .sounding && w.source == lowerSource v.priority).or
        ((v.oldest fun w => w.phase == .sounding).or (v.oldest fun w => w.phase == .starting))) := by
  simp only [Voices.victim, Option.orElse_eq_orElse, Option.orElse_eq_or]

theorem theStealOrderPicksTheOldest : Claims.TheStealOrderPicksTheOldest := by
  intro v oldest damped lower sounding starting has
  have spec {p : Voice → Prop} {q : Voice → Bool} (hq : ∀ w, q w = true ↔ p w) (h : has p) :
      ∃ i, v.oldest q = some i ∧ (v.victim = some i → oldest p) := by
    obtain ⟨w, hw, hp⟩ := h
    obtain ⟨i, w', hi, hi', hp', hall⟩ := Voices.oldest_spec (v := v) ⟨w, hw, (hq w).mpr hp⟩
    exact ⟨i, hi, fun hv => ⟨i, w', hv, hi', (hq w').mp hp', fun w'' hw'' h'' => hall w'' hw'' ((hq w'').mpr h'')⟩⟩
  have absent {p : Voice → Prop} {q : Voice → Bool} (hq : ∀ w, q w = true ↔ p w) (h : ¬has p) : v.oldest q = none :=
    Voices.oldest_eq_none fun ⟨w, hw, hp⟩ => h ⟨w, hw, (hq w).mp hp⟩
  have hdamped (w : Voice) : w.isDamped = true ↔ damped w := Iff.rfl
  have hlower (w : Voice) : (w.phase == .sounding && w.source == lowerSource v.priority) = true ↔ lower w := by
    rw [Bool.and_eq_true, beq_iff_eq, beq_iff_eq]
    cases hp : v.priority <;> simp [lower, lowerSource, hp]
  have hsounding (w : Voice) : (w.phase == .sounding) = true ↔ sounding w := beq_iff_eq
  have hstarting (w : Voice) : (w.phase == .starting) = true ↔ starting w := beq_iff_eq
  refine ⟨fun h1 => ?_, fun h1 h2 => ?_, fun h1 h2 h3 => ?_, fun h1 h2 h3 h4 => ?_⟩
  · obtain ⟨i, hi, he⟩ := spec hdamped h1
    exact he (by rw [Voices.victim_eq, hi]; rfl)
  · obtain ⟨i, hi, he⟩ := spec hlower h2
    exact he (by rw [Voices.victim_eq, absent hdamped h1, hi]; rfl)
  · obtain ⟨i, hi, he⟩ := spec hsounding h3
    exact he (by rw [Voices.victim_eq, absent hdamped h1, absent hlower h2, hi]; rfl)
  · obtain ⟨i, hi, he⟩ := spec hstarting h4
    exact he (by rw [Voices.victim_eq, absent hdamped h1, absent hlower h2, absent hsounding h3, hi]; rfl)

/-- Settles O26: a claim that has its zone re-strikes, steals and allocates in turn (`State.noteOn_zone`), and each step finds
what the step before has faded no longer counted. -/
theorem noteOnClaimsAllocateDropOrSteal : Obligations.NoteOnClaimsAllocateDropOrSteal :=
  ⟨aNoteOnAllocatesTheLowestFreeEntry, aNoteWithoutAZoneIsDropped, aNoteOnRestrikesStealsAndThenAllocates,
    theStealOrderPicksTheOldest⟩

end Sys2Proof.Machine
end

section
/-! Note-off and pedal change claims, POLY_SET and SOUND_OFF (R80, R81, R83, R86, R89, R90). -/

namespace Sys2Proof.Machine

/-! ### Holding and damping (R80, R81, R83) -/

theorem releaseTimesFollowTheDamper : Claims.ReleaseTimesFollowTheDamper := by
  intro l
  unfold releaseTime
  refine ⟨fun h => if_pos h, fun h h' => ?_, fun h => ?_⟩
  · rw [if_neg (by omega), if_pos h']
  · rw [if_neg (by omega), if_neg (by omega)]

theorem PedalContext.holds_iff (c : PedalContext) (key : Nat) : c.holds key = true ↔ key ∈ c.set ∨ 64 ≤ c.damper := by
  simp [PedalContext.holds]

/-- A SOUNDING voice with its key released, when it is held and when it is not. -/
theorem Voice.testHeld_held {c : PedalContext} {w : Voice} (h : w.key ∈ c.set ∨ 64 ≤ c.damper) : w.testHeld c = w := by
  have hh := (c.holds_iff w.key).mpr h
  exact if_neg fun h' => by simp [hh] at h'

theorem Voice.testHeld_unheld {c : PedalContext} {w : Voice} (hs : w.phase = .sounding) (hr : w.released = true)
    (h : ¬(w.key ∈ c.set ∨ 64 ≤ c.damper)) : w.testHeld c = { w with phase := .damped (releaseTime c.damper) 0 } :=
  if_pos ⟨hs, hr, Bool.eq_false_iff.mpr (mt (c.holds_iff w.key).mp h)⟩

theorem Voice.testHeld_elsewhere {c : PedalContext} {w : Voice} (h : w.phase ≠ .sounding ∨ w.released = false) :
    w.testHeld c = w := by
  refine if_neg fun h' => ?_
  obtain ⟨hs, hr, -⟩ := h'
  exact h.elim (fun h => h hs) fun h => by simp [h] at hr

/-- R81: the whole of a note-off claim on the voice that it finds. -/
theorem State.noteOff_found {s : State} {src : Source} {key i : Nat} {w : Voice} (hi : s.voices.find src key = some i)
    (h : s.voices.table[i]? = some (some w)) :
    s.noteOff src key =
      { s with voices := { s.voices with table := s.voices.table.set i (some (w.noteOff (s.context src))) } } := by
  rw [State.noteOff, hi]
  simp only [updateAt_of_getElem? h, Option.map_some]

theorem Voice.noteOff_damped {c : PedalContext} {w : Voice} (h : w.isDamped = true) : w.noteOff c = w := by
  obtain ⟨r, a, hp⟩ := Voice.isDamped_iff.mp h
  rw [Voice.noteOff, hp]

theorem Voice.noteOff_starting {c : PedalContext} {w : Voice} (h : w.phase = .starting) :
    w.noteOff c = { w with released := true } := by
  rw [Voice.noteOff, h]
  exact Voice.testHeld_elsewhere (.inl (by simp))

theorem Voice.noteOff_sounding {c : PedalContext} {w : Voice} (h : w.phase = .sounding) :
    w.noteOff c = ({ w with released := true } : Voice).testHeld c := by
  rw [Voice.noteOff, h]

theorem aNoteOffIsSettledByItsVoice : Claims.ANoteOffIsSettledByItsVoice := by
  intro s src key c held mine
  constructor
  · intro hnone
    rw [State.noteOff, Voices.find_eq_none hnone]
  · intro i w h hmine hfirst put
    have hoff {w' : Voice} (hw' : w.noteOff c = w') : s.noteOff src key = put w' := by
      rw [State.noteOff_found (Voices.find_eq_some h hmine hfirst) h]
      exact congrArg put hw'
    have hkey : (held ↔ w.key ∈ c.set ∨ 64 ≤ c.damper) := by rw [hmine.2.2]
    refine ⟨fun hp => hoff (Voice.noteOff_starting hp), fun hp hheld => hoff ?_, fun hp hnot => hoff ?_, fun hd => ?_⟩
    · rw [Voice.noteOff_sounding hp]
      exact Voice.testHeld_held (w := { w with released := true }) (hkey.mp hheld)
    · rw [Voice.noteOff_sounding hp]
      exact Voice.testHeld_unheld (w := { w with released := true }) hp rfl (mt hkey.mpr hnot)
    · obtain ⟨hi, hget⟩ := List.getElem?_eq_some_iff.mp h
      have hsame : s.voices.table.set i (some w) = s.voices.table := by rw [← hget, List.set_getElem_self]
      rw [hoff (Voice.noteOff_damped hd)]
      exact congrArg (fun tb => ({ s with voices := { s.voices with table := tb } } : State)) hsame

theorem aPedalChangeDampsWhatItNoLongerHolds : Claims.APedalChangeDampsWhatItNoLongerHolds := by
  intro s src c after
  have hafter (w : Voice) : (if w.source = src then w.pedalChange c else w) = after w := by
    simp only [after]
    split
    · unfold Voice.pedalChange
      cases hp : w.phase with
      | damped r a => rfl
      | starting => exact Voice.testHeld_elsewhere (.inl (by simp [hp]))
      | fading n b a => exact Voice.testHeld_elsewhere (.inl (by simp [hp]))
      | sounding =>
        simp only
        split
        next h => exact Voice.testHeld_unheld hp h.1 h.2
        next h =>
          by_cases hr : w.released = true
          · exact Voice.testHeld_held (not_not.mp fun hn => h ⟨hr, hn⟩)
          · exact Voice.testHeld_elsewhere (.inr (Bool.eq_false_iff.mpr hr))
    · rfl
  rw [State.pedalClaim, show (fun w : Voice => if w.source = src then w.pedalChange c else w) = after from funext hafter]

/-- Settles O27: the voice's phase, and whether it is held, decide what a claim makes of it. -/
theorem noteOffClaimsReleaseTheirVoice : Obligations.NoteOffClaimsReleaseTheirVoice :=
  ⟨releaseTimesFollowTheDamper, aNoteOffIsSettledByItsVoice, aPedalChangeDampsWhatItNoLongerHolds⟩

/-! ### Counters -/

theorem State.stat_tally_same {c : Counter} {s : State} (h : s.stats.length = 27) : (s.tally c).stat c = s.stat c + 1 := by
  have hlt : c.place < s.stats.length := by
    rw [h]
    cases c with
    | band i => exact i.isLt.trans (by decide)
    | _ => decide
  simp [State.stat, State.tally, List.getD, updateAt_getElem?, List.getElem?_eq_getElem hlt]

/-- R190: the counters in the order of their places. -/
def Counter.inOrder : List Counter :=
  (List.finRange 8).map .band ++ [.keyOnlyStrikes, .repetitions, .silentPresses, .keyFaults, .pedalFaults, .railMoves, .railFaults,
    .voiceSteals, .notesDropped, .fetchUnderruns, .mixerClips, .waitHits, .waitMisses, .waitWrong, .streamDrops, .linkCrc,
    .linkTruncated, .linkOverrun, .noticesLost]

theorem Counter.inOrder_place (c : Counter) : Counter.inOrder[c.place]? = some c := by
  cases c with
  | band i => exact (by decide : ∀ i : Fin 8, Counter.inOrder[i.val]? = some (.band i)) i
  | _ => rfl

theorem Counter.place_injective {c c' : Counter} (h : c.place = c'.place) : c = c' :=
  Option.some.inj ((Counter.inOrder_place c).symm.trans (h ▸ Counter.inOrder_place c'))

theorem State.stat_tally_other {c c' : Counter} (h : c' ≠ c) (s : State) : (s.tally c).stat c' = s.stat c' := by
  have hne : c'.place ≠ c.place := fun he => h (Counter.place_injective he)
  simp [State.stat, State.tally, List.getD, updateAt_getElem?, hne]

/-! ### POLY_SET (R86, R89) -/

theorem State.steal_withRequests (rest : List Frame) (s : State) :
    (s.withRequests rest).steal = s.steal.withRequests rest := by
  unfold State.steal
  change (match s.voices.victim with | none => _ | some i => _) = _
  cases s.voices.victim <;> rfl

theorem State.stealN_withRequests (rest : List Frame) (n : Nat) (s : State) :
    (s.withRequests rest).stealN n = (s.stealN n).withRequests rest := by
  induction n generalizing s with
  | zero => rfl
  | succ n ih => rw [State.stealN, State.steal_withRequests, ih, State.stealN]

/-- Steals one at a time, as a fold. -/
theorem State.stealN_eq_foldl (n : Nat) (s : State) : s.stealN n = (List.range n).foldl (fun x _ => x.steal) s := by
  have fold (xs : List Nat) (u : State) : u.stealN xs.length = xs.foldl (fun x _ => x.steal) u := by
    induction xs generalizing u with
    | nil => rfl
    | cons x xs ih => exact ih u.steal
  rw [← fold, List.length_range]

theorem State.stealN_priority (n : Nat) (s : State) : (s.stealN n).voices.priority = s.voices.priority := by
  obtain ⟨tb, x, h⟩ := s.stealN_frame n
  rw [h]

theorem State.stealN_limit (n : Nat) (s : State) : (s.stealN n).voices.limit = s.voices.limit := by
  obtain ⟨tb, x, h⟩ := s.stealN_frame n
  rw [h]

theorem State.steal_stat_other {c : Counter} (h : c ≠ .voiceSteals) (s : State) : s.steal.stat c = s.stat c := by
  unfold State.steal
  split
  · rfl
  · exact State.stat_tally_other h _

theorem State.stealN_stat_other {c : Counter} (h : c ≠ .voiceSteals) (n : Nat) (s : State) : (s.stealN n).stat c = s.stat c := by
  induction n generalizing s with
  | zero => rfl
  | succ n ih => rw [State.stealN, ih, State.steal_stat_other h]

/-- Each steal from a table with counted voices counts one in VOICE_STEALS. -/
theorem State.stealN_stat {n : Nat} {s : State} (hl : s.stats.length = 27) (h : n ≤ s.voices.counted) :
    (s.stealN n).stat .voiceSteals = s.stat .voiceSteals + BitVec.ofNat 24 n := by
  induction n generalizing s with
  | zero => simp [State.stealN]
  | succ n ih =>
    have hcounted := State.steal_counted (s := s) (by omega)
    obtain ⟨i, hi⟩ := Option.isSome_iff_exists.mp (Voices.victim_isSome (v := s.voices) (by omega))
    have hsteal := State.steal_eq hi
    have hstat : s.steal.stat .voiceSteals = s.stat .voiceSteals + 1 := by
      rw [hsteal]
      exact State.stat_tally_same (s := { s with voices := s.voices.fadeEntry i }) hl
    have hlength : s.steal.stats.length = 27 := by
      rw [hsteal, State.tally_stats, updateAt_length]
      exact hl
    rw [State.stealN, ih hlength (by omega), hstat, BitVec.ofNat_add, BitVec.add_assoc, BitVec.add_comm 1]
    rfl

theorem limitOk_iff (n : Nat) : limitOk n = true ↔ 8 ≤ n ∧ n ≤ 64 := inRange_iff ..

/-- Settles O31: POLY_SET's steals are those of `State.steal`, each of which fades a counted victim and counts it
(`State.stealN_counted`, `State.stealN_stat`). -/
theorem polySetStealsDownToItsLimit : Obligations.PolySetStealsDownToItsLimit := by
  intro s t f rest n p ho u set fade stealOne
  have hl : u.link.taking := State.offers_taking t ho
  have refused (q : Option Priority) (hq : ¬(8 ≤ n ∧ n ≤ 64) ∨ q = none) :
      exec (.polySet t n q) s = .next (u.answering f rest .badArgument .nothing) := by
    refine plainly_answers ho ?_ hl
    cases q with
    | none => rfl
    | some p => exact if_neg (mt (limitOk_iff n).mp (hq.resolve_right (by simp)))
  have taken (h8 : 8 ≤ n) (h64 : n ≤ 64) : exec (.polySet t n (some p)) s =
      .next ((set.stealN (s.voices.counted - n)).answering f rest .ok .nothing) := by
    refine plainly_answers ho ?_ ?_
    · refine (if_pos ((limitOk_iff n).mpr ⟨h8, h64⟩)).trans (Prod.ext ?_ rfl)
      exact State.stealN_withRequests rest (s.voices.counted - n) set
    · obtain ⟨tb, x, h⟩ := set.stealN_frame (s.voices.counted - n)
      rw [h]
      exact hl
  have hsteal (v : State) : v.steal = stealOne v := by
    cases hv : v.voices.victim with
    | none => simp only [stealOne, State.steal, hv]
    | some i =>
      obtain ⟨w, hw, hc⟩ := Voices.victim_spec hv
      have hjoin : (v.voices.table[i]?).join = some w := Voices.voice?_eq_some.mpr hw
      have hone : stealOne v = ({ v with voices :=
          { v.voices with table := v.voices.table.set i (some (fade w)) } } : State).tally .voiceSteals := by
        simp only [stealOne, hv, hjoin]
      rw [hone, State.steal_eq hv]
      exact congrArg (fun x => ({ v with voices := x } : State).tally .voiceSteals) (Voices.fadeEntry_of_counted hw hc)
  refine ⟨fun q hq => refused q (.inl (by omega)), refused none (.inr rfl), fun h8 h64 hle => ?_, ?_⟩
  · rw [taken h8 h64, Nat.sub_eq_zero_of_le hle]
    rfl
  · intro h8 h64 hlt v
    have hv : v = set.stealN (s.voices.counted - n) := by
      rw [State.stealN_eq_foldl, show (fun (x : State) (_ : Nat) => x.steal) = fun x _ => stealOne x from
        funext fun x => funext fun _ => hsteal x]
    have hle : s.voices.counted - n ≤ set.voices.counted := Nat.sub_le ..
    have hcounted : (set.stealN (s.voices.counted - n)).voices.counted + (s.voices.counted - n) = s.voices.counted :=
      State.stealN_counted hle
    rw [hv]
    refine ⟨taken h8 h64, State.stealN_limit _ set, State.stealN_priority _ set, by omega, fun hlength => ?_, fun c hc => ?_, ?_⟩
    · exact State.stealN_stat (s := set) hlength hle
    · exact State.stealN_stat_other hc _ set
    · obtain ⟨tb, x, h⟩ := set.stealN_frame (s.voices.counted - n)
      rw [h]

/-! ### SOUND_OFF (R86, R90) -/

/-- Settles O32: what the scope holds is counted, so its fade is that of a counted voice (`Voice.fade_of_counted`). -/
theorem soundOffFadesItsScope : Obligations.SoundOffFadesItsScope := by
  intro s t f rest ho u into hit fade
  have hl : u.link.taking := State.offers_taking t ho
  have hhit (c : Scope) : Voice.inScope c = hit c := by
    funext w
    cases c <;> cases h : w.source <;> simp [Voice.inScope, hit, into, scopeHolds, h]
  have hfade (c : Scope) : (fun w : Voice => if w.inScope c then w.fade else w) = fade c := by
    funext w
    simp only [fade, hhit]
    split
    next h => exact Voice.fade_of_counted ((Bool.and_eq_true _ _).mp h).1
    next => rfl
  refine ⟨request_answers ho rfl hl, fun c => request_answers ho ?_ hl⟩
  have hcount : s.voices.scopeCount c = s.voices.table.countP fun x => x.any (hit c) := by rw [Voices.scopeCount, hhit]
  have hoff : s.voices.soundOff c = { s.voices with table := s.voices.table.map (Option.map (fade c)) } := by
    rw [Voices.soundOff, hfade]
  exact Prod.ext (congrArg (fun v => ({ u.withRequests rest with voices := v } : State)) hoff)
    (congrArg (fun n => (Status.ok, Content.count n)) hcount)

end Sys2Proof.Machine
end

section
/-! The stream buffers, the fetch queue and the memory port, and what a completed read does (R84, R98 to R100, R103 to R105). -/

namespace Sys2Proof.Machine

/-! ### Stream buffers (R99) -/

theorem Fetch.setBuf_eq (i : Nat) (b : StreamBuf) (f : Fetch) : f.setBuf i b = { f with bufs := f.bufs.set i b } := by
  rw [Fetch.setBuf, updateAt_const]

theorem Fetch.buf_set_same {f : Fetch} {i : Nat} {b : StreamBuf} (h : i < f.bufs.length) :
    ({ f with bufs := f.bufs.set i b } : Fetch).buf i = b := by
  simp [Fetch.buf, List.getD, List.getElem?_set_self h]

theorem Fetch.buf_set_other {f : Fetch} {i j : Nat} (b : StreamBuf) (h : j ≠ i) :
    ({ f with bufs := f.bufs.set i b } : Fetch).buf j = f.buf j := by
  simp [Fetch.buf, List.getD, List.getElem?_set_ne (Ne.symm h)]

/-- Setting a buffer twice. -/
theorem Fetch.setBuf_setBuf (i : Nat) (b b' : StreamBuf) (f : Fetch) : (f.setBuf i b).setBuf i b' = f.setBuf i b' := by
  simp only [Fetch.setBuf_eq, List.set_set]

/-- Past the last entry there is no buffer that serves an allocation. -/
theorem Fetch.lt_of_serves {f : Fetch} {i : Nat} {x : Serves} (h : (f.buf i).serves = some x) : i < f.bufs.length := by
  by_contra hi
  rw [Fetch.buf, List.getD_eq_default _ _ (not_lt.mp hi)] at h
  cases h

theorem StreamBuf.setHalf_eq (n : Nat) (h : Half) (b : StreamBuf) :
    b.setHalf n h = if n % 2 = 0 then { b with a := h } else { b with b := h } := rfl

theorem StreamBuf.mark_eq (n : Nat) (x : Fill) (b : StreamBuf) :
    b.mark n x = if n % 2 = 0 then { b with a := { b.a with fill := x } } else { b with b := { b.b with fill := x } } := by
  unfold StreamBuf.mark StreamBuf.setHalf StreamBuf.half
  split <;> rfl

/-! ### The fetch queue and the port (R103) -/

/-- R103: what an idle port makes of the queue: it takes the head entry, whose half becomes READING. -/
def Fetch.next (f : Fetch) : Fetch :=
  match f.queue with
  | [] => { f with port := none }
  | h :: q =>
    { f with
      port := some (.segment h), queue := q, bufs := f.bufs.set h.voice ((f.buf h.voice).mark h.segment .reading) }

theorem Fetch.next_empty {f : Fetch} (h : f.queue = []) : f.next = { f with port := none } := by
  rw [Fetch.next, h]

theorem Fetch.next_cons {f : Fetch} {e : FetchEntry} {q : List FetchEntry} (h : f.queue = e :: q) :
    f.next = { f with
      port := some (.segment e), queue := q, bufs := f.bufs.set e.voice ((f.buf e.voice).mark e.segment .reading) } := by
  rw [Fetch.next, h]

theorem Fetch.kick_idle {f : Fetch} (h : f.port = none) : f.kick = f.next := by
  cases hq : f.queue with
  | nil =>
    have hkick : f.kick = f := by simp only [Fetch.kick, h, hq]
    rw [hkick, Fetch.next_empty hq, ← h]
  | cons e q =>
    rw [Fetch.next_cons hq]
    simp only [Fetch.kick, h, hq, Fetch.setBuf_eq]

theorem Fetch.kick_busy {f : Fetch} (h : f.port ≠ none) : f.kick = f := by
  obtain ⟨x, hx⟩ := Option.ne_none_iff_exists'.mp h
  rw [Fetch.kick, hx]

/-- After the port has taken an entry it takes no other; with none waiting it stays idle. -/
theorem Fetch.next_kick (f : Fetch) : f.next.kick = f.next := by
  cases hq : f.queue with
  | nil =>
    have hn := Fetch.next_empty hq
    rw [Fetch.kick_idle (by rw [hn]), Fetch.next_empty (f := f.next) (by rw [hn, hq]), hn]
  | cons e q => exact Fetch.kick_busy (by rw [Fetch.next_cons hq]; simp)

theorem Fetch.place_idle {f : Fetch} (e : FetchEntry) (h : f.port = none) :
    f.place e = ({ f with queue := placeEntry e f.queue } : Fetch).next := Fetch.kick_idle h

theorem placeEntry_runs {e : FetchEntry} {ps rs : List FetchEntry} (hp : ∀ x ∈ ps, x.cls = .prime)
    (hr : ∀ x ∈ rs, x.cls = .refill) :
    placeEntry e (ps ++ rs) = if e.cls = .prime then ps ++ e :: rs else ps ++ rs ++ [e] := by
  have hps : ∀ x ∈ ps, (x.cls == .prime) = true := fun x hx => beq_iff_eq.mpr (hp x hx)
  have hrs : rs.takeWhile (·.cls == .prime) = [] ∧ rs.dropWhile (·.cls == .prime) = rs := by
    cases rs with
    | nil => exact ⟨rfl, rfl⟩
    | cons x xs => simp [hr x List.mem_cons_self]
  unfold placeEntry
  cases e.cls with
  | refill => rfl
  | prime => simp [List.takeWhile_append_of_pos hps, List.dropWhile_append_of_pos hps, hrs]

theorem fetchEntriesQueueInTwoRuns : Claims.FetchEntriesQueueInTwoRuns := by
  refine ⟨fun e ps rs => placeEntry_runs, fun f e h => Fetch.kick_busy h, fun f e h q hp hq => ?_, fun f i seq zone => ?_⟩
  · rw [Fetch.place_idle e hp, Fetch.next_cons (f := { f with queue := placeEntry e f.queue }) hq, StreamBuf.mark_eq]
    rfl
  · rw [Fetch.askPrime, Fetch.setBuf_eq]
    rfl

/-! ### Completed reads (R84, R100, R104) -/

theorem exec_segmentReadDone {s : State} {e : FetchEntry} (t : Time) (h : s.fetch.port = some (.segment e)) :
    exec (.segmentReadDone t) s = .next ((s.upTo t).segmentDone e).arbitrate := by
  have hf : (s.upTo t).fetch.inFlight = some e := by rw [State.upTo_fetch, Fetch.inFlight, h]
  change Host.Outcome.next (State.arbitrate ((s.upTo t).fetch.inFlight.elim _ _)) = _
  rw [hf]
  rfl

theorem staleReadsAreDiscarded : Claims.StaleReadsAreDiscarded := by
  intro s t e hport hqueue hstale
  let idle : State := { s.upTo t with fetch := { s.fetch with port := none } }
  have hmatched : idle.segmentMatched e = idle := by
    unfold State.segmentMatched
    split
    next w hw =>
      refine if_neg fun hseq => ?_
      obtain hfree | hother := hstale
      · have hvoice : s.voices.table[e.voice]? = some (some w) := Voices.voice?_eq_some.mp hw
        rw [hfree] at hvoice
        cases hvoice
      · exact hother hseq
    next => rfl
  have hkick : idle.fetch.kick = idle.fetch := (Fetch.kick_idle rfl).trans (Fetch.next_empty (f := idle.fetch) hqueue)
  have hdone : (s.upTo t).segmentDone e = idle := by
    change ({ idle.segmentMatched e with fetch := (idle.segmentMatched e).fetch.kick } : State) = idle
    rw [hmatched, hkick]
  rw [exec_segmentReadDone t hport, hdone]

/-- R104: the buffer of an entry after its read of segment `n` has come. -/
def State.filledBuf (s : State) (e : FetchEntry) (z : Zone) : StreamBuf :=
  (s.fetch.buf e.voice).setHalf e.segment { fill := .full, segment := e.segment, data := s.segmentData z e.segment }

section
variable {s : State} {e : FetchEntry} {w : Voice} {z : Zone} (hw : s.voices.table[e.voice]? = some (some w))
  (hserves : (s.fetch.buf e.voice).serves = some { seq := e.seq, zone := w.zone }) (hz : s.fetch.zones[w.zone]? = some z)
include hw hserves hz

/-- R104: the read of the entry's present occupant fills the half; a PRIME is then handled. -/
theorem State.segmentMatched_eq :
    s.segmentMatched e =
      (let s' : State := { s with fetch := s.fetch.setBuf e.voice (s.filledBuf e z) }
       if e.cls = .prime then s'.primeDone e.voice w else s') := by
  have hvoice : s.voices.voice? e.voice = some w := Voices.voice?_eq_some.mpr hw
  have hzone : s.fetch.zone? w.zone = some z := hz
  rw [State.segmentMatched, hvoice]
  simp only [hserves, Option.map_some, if_true, State.segmentFills, hzone, Option.elim_some]
  rfl

/-- R104: nothing else follows a REFILL, nor a voice that has left STARTING. -/
theorem State.segmentMatched_refill (h : e.cls = .refill ∨ w.phase ≠ .starting) :
    s.segmentMatched e = { s with fetch := s.fetch.setBuf e.voice (s.filledBuf e z) } := by
  rw [State.segmentMatched_eq hw hserves hz]
  simp only
  split
  next hprime => exact if_neg (h.resolve_left (by simp [hprime]))
  next => rfl

/-- R84, R100: the prime of a STARTING voice makes it sound, due to begin, and asks for segment 1 if there is one. -/
theorem State.segmentMatched_prime (hcls : e.cls = .prime) (hp : w.phase = .starting) :
    s.segmentMatched e = { s with
      voices := s.voices.setVoice e.voice (some (({ w with phase := .sounding } : Voice).testHeld (s.context w.source)))
      fetch := if z.hasSegment 1 then
          (s.fetch.setBuf e.voice { s.filledBuf e z with due := true }).askRefill e.voice 1 w.seq
        else s.fetch.setBuf e.voice { s.filledBuf e z with due := true } } := by
  have hlt := Fetch.lt_of_serves hserves
  have hbuf : (s.fetch.setBuf e.voice (s.filledBuf e z)).buf e.voice = s.filledBuf e z := by
    rw [Fetch.setBuf_eq]
    exact Fetch.buf_set_same hlt
  have hzone : (s.fetch.setBuf e.voice (s.filledBuf e z)).zone? w.zone = some z := hz
  rw [State.segmentMatched_eq hw hserves hz]
  simp only [if_pos hcls, State.primeDone, if_pos hp, hbuf, hzone, Option.any_some, Fetch.setBuf_setBuf]
  rfl

end

theorem Zone.hasSegment_one (z : Zone) : z.hasSegment 1 = true ↔ z.loopStart ≠ none ∨ 256 < z.length := by
  simp [Zone.hasSegment, Option.isSome_iff_ne_none]

/-- R81, R84: the voice that a prime makes sound. -/
theorem Voice.testHeld_sounding (c : PedalContext) (w : Voice) :
    ({ w with phase := .sounding } : Voice).testHeld c =
      if w.released = true ∧ ¬(w.key ∈ c.set ∨ 64 ≤ c.damper) then { w with phase := .damped (releaseTime c.damper) 0 }
      else { w with phase := .sounding } := by
  split
  next h => exact Voice.testHeld_unheld (w := { w with phase := .sounding }) rfl h.1 h.2
  next h =>
    by_cases hr : w.released = true
    · exact Voice.testHeld_held (w := { w with phase := .sounding }) (not_not.mp fun hn => h ⟨hr, hn⟩)
    · exact Voice.testHeld_elsewhere (.inr (Bool.eq_false_iff.mpr hr))

/-- Asking an idle port for a refill of segment 1. -/
theorem Fetch.askRefill_idle {f : Fetch} {i : Nat} {b : StreamBuf} {seq : BitVec 32} (hp : f.port = none) (hi : i < f.bufs.length) :
    (f.setBuf i b).askRefill i 1 seq = ({ f with
      bufs := f.bufs.set i { b with b := { fill := .queued, segment := 1, data := [] } }
      queue := f.queue ++ [{ cls := .refill, voice := i, seq, segment := 1 }] } : Fetch).next := by
  have hbuf : (f.setBuf i b).buf i = b := by
    rw [Fetch.setBuf_eq]
    exact Fetch.buf_set_same hi
  rw [Fetch.askRefill, hbuf, Fetch.setBuf_setBuf, Fetch.setBuf_eq]
  exact Fetch.kick_idle hp

/-- R98: the frames of a segment. -/
theorem State.segmentData_getElem? {s : State} {z : Zone} {n j : Nat} (h : j < z.segmentFrames n) :
    (s.segmentData z n)[j]? = some (s.sampleAt z (z.frameAt (256 * n + j))) := by
  rw [State.segmentData, List.getElem?_map, List.getElem?_range h]
  rfl

section
variable {s : State} {e : FetchEntry} {w : Voice} {z : Zone} (hw : s.voices.table[e.voice]? = some (some w))
  (hserves : (s.fetch.buf e.voice).serves = some { seq := e.seq, zone := w.zone }) (hz : s.fetch.zones[w.zone]? = some z)
include hw hserves hz

/-- R103, R104: a REFILL completes, and the port takes the next head entry. -/
theorem State.segmentDone_refill (h : e.cls = .refill ∨ w.phase ≠ .starting) :
    s.segmentDone e =
      { s with fetch := ({ s.fetch with bufs := s.fetch.bufs.set e.voice (s.filledBuf e z) } : Fetch).next } := by
  let idle : State := { s with fetch := { s.fetch with port := none } }
  have hmatched := State.segmentMatched_refill (s := idle) hw hserves hz h
  have hfetch : (idle.segmentMatched e).fetch.kick =
      ({ s.fetch with bufs := s.fetch.bufs.set e.voice (s.filledBuf e z) } : Fetch).next := by
    rw [hmatched, Fetch.setBuf_eq]
    exact Fetch.kick_idle rfl
  change ({ idle.segmentMatched e with fetch := (idle.segmentMatched e).fetch.kick } : State) = _
  rw [hfetch, hmatched]

/-- R84, R100, R103: a PRIME completes for its STARTING voice, and the port takes the next head entry. -/
theorem State.segmentDone_prime (hcls : e.cls = .prime) (hp : w.phase = .starting) :
    s.segmentDone e = { s with
      voices := { s.voices with
        table := s.voices.table.set e.voice (some (({ w with phase := .sounding } : Voice).testHeld (s.context w.source))) }
      fetch := (if z.hasSegment 1 then
          ({ s.fetch with
            bufs := s.fetch.bufs.set e.voice
              { s.filledBuf e z with due := true, b := { fill := .queued, segment := 1, data := [] } }
            queue := s.fetch.queue ++ [{ cls := .refill, voice := e.voice, seq := w.seq, segment := 1 }] } : Fetch)
        else { s.fetch with bufs := s.fetch.bufs.set e.voice { s.filledBuf e z with due := true } }).next } := by
  let idle : State := { s with fetch := { s.fetch with port := none } }
  have hmatched := State.segmentMatched_prime (s := idle) hw hserves hz hcls hp
  have hlt := Fetch.lt_of_serves hserves
  have hfetch : (idle.segmentMatched e).fetch.kick = (if z.hasSegment 1 then
          ({ s.fetch with
            bufs := s.fetch.bufs.set e.voice
              { s.filledBuf e z with due := true, b := { fill := .queued, segment := 1, data := [] } }
            queue := s.fetch.queue ++ [{ cls := .refill, voice := e.voice, seq := w.seq, segment := 1 }] } : Fetch)
        else { s.fetch with bufs := s.fetch.bufs.set e.voice { s.filledBuf e z with due := true } }).next := by
    rw [hmatched]
    simp only
    split
    · rw [Fetch.askRefill_idle (f := idle.fetch) rfl hlt, Fetch.next_kick]
      rfl
    · rw [Fetch.setBuf_eq]
      exact Fetch.kick_idle rfl
  change ({ idle.segmentMatched e with fetch := (idle.segmentMatched e).fetch.kick } : State) = _
  rw [hfetch, hmatched]
  simp only [Voices.setVoice_eq]
  rfl

end

theorem completedReadsFillTheirHalf : Claims.CompletedReadsFillTheirHalf := by
  intro s t e w z hport hw hserves hz u b full filled put next c sounding frame
  have hnext (f : Fetch) : f.next = next f := by
    obtain ⟨status, header, failure, zones, bufs, queue, port⟩ := f
    cases queue with
    | nil => rfl
    | cons h q =>
      exact congrArg
        (fun y => ({ status, header, failure, zones, bufs := bufs.set h.voice y, queue := q, port := some (.segment h) } : Fetch))
        (StreamBuf.mark_eq ..)
  refine ⟨fun hor => ?_, fun hprime hsegment hstarting => ?_, ?_, fun j hj => ?_⟩
  · rw [exec_segmentReadDone t hport, State.segmentDone_refill (s := u) hw hserves hz hor, hnext]
    rfl
  · rw [exec_segmentReadDone t hport, State.segmentDone_prime (s := u) hw hserves hz hprime hstarting, hnext,
      Voice.testHeld_sounding, if_congr (Zone.hasSegment_one z) rfl rfl]
    rfl
  · unfold Zone.segmentFrames
    cases z.loopStart <;> rfl
  · rw [State.segmentData_getElem? hj]
    simp only [State.sampleAt, Zone.frameAt]
    rfl

/-- With nothing waiting, a prime leaves its entry's buffer with half A FULL, due to begin; segment 1 may be under way. -/
theorem Fetch.primed {f : Fetch} {i : Nat} {b : StreamBuf} {more : Bool} {seq : BitVec 32} (hq : f.queue = [])
    (hi : i < f.bufs.length) :
    ∃ y q p, (if more then
        ({ f with
          bufs := f.bufs.set i { b with due := true, b := { fill := .queued, segment := 1, data := [] } }
          queue := f.queue ++ [{ cls := .refill, voice := i, seq, segment := 1 }] } : Fetch)
      else { f with bufs := f.bufs.set i { b with due := true } }).next =
        { f with bufs := f.bufs.set i y, queue := q, port := p } ∧ y.a = b.a ∧ y.due = true := by
  cases more with
  | false =>
    exact ⟨{ b with due := true }, f.queue, none,
      Fetch.next_empty (f := { f with bufs := f.bufs.set i { b with due := true } }) hq, rfl, rfl⟩
  | true =>
    let x : StreamBuf := { b with due := true, b := { fill := .queued, segment := 1, data := [] } }
    let e : FetchEntry := { cls := .refill, voice := i, seq, segment := 1 }
    refine ⟨x.mark 1 .reading, [], some (.segment e), ?_, rfl, rfl⟩
    have hbuf : ({ f with bufs := f.bufs.set i x, queue := f.queue ++ [e] } : Fetch).buf i = x := Fetch.buf_set_same hi
    rw [if_pos rfl, Fetch.next_cons (f := { f with bufs := f.bufs.set i x, queue := f.queue ++ [e] }) (e := e) (q := [])
      (by rw [hq]; rfl), hbuf, List.set_set]

theorem aPrimeMakesItsVoiceSound : Claims.APrimeMakesItsVoiceSound := by
  intro s t i w z hport hqueue hw hp hi hserves hz hready c held
  let e : FetchEntry := { cls := .prime, voice := i, seq := w.seq, segment := 0 }
  have hdone := State.segmentDone_prime (s := s.upTo t) (e := e) hw hserves hz rfl hp
  obtain ⟨y, q, p, hfetch, ha, hdue⟩ := Fetch.primed (b := s.filledBuf e z) (more := z.hasSegment 1) (seq := w.seq) hqueue hi
  obtain ⟨tx, rp, ns, pk, harb⟩ := State.arbitrate_frame ((s.upTo t).segmentDone e) (by rw [hdone]; exact hready)
  have hvoices : ((s.upTo t).segmentDone e).arbitrate.voices.table = s.voices.table.set i (some
      (if w.released = true ∧ ¬held then { w with phase := .damped (releaseTime c.damper) 0 } else { w with phase := .sounding })) := by
    rw [State.arbitrate_voices, hdone, Voice.testHeld_sounding]
    rfl
  have hf : ((s.upTo t).segmentDone e).arbitrate.fetch = { s.fetch with bufs := s.fetch.bufs.set i y, queue := q, port := p } := by
    rw [harb, hdone]
    exact hfetch
  have hbuf : ((s.upTo t).segmentDone e).arbitrate.fetch.buf i = y := by
    rw [hf]
    exact Fetch.buf_set_same hi
  have hlt := (List.getElem?_eq_some_iff.mp hw).1
  refine ⟨_, exec_segmentReadDone (e := e) t hport, ?_, ?_, fun hor => ?_, fun hr hn => ?_, fun j hj => ⟨?_, ?_⟩, ?_⟩
  · rw [hbuf, ha]
    rfl
  · rw [hbuf, hdue]
  · rw [hvoices, List.getElem?_set_self hlt, if_neg (fun h => hor.elim (fun hf => by simp [hf] at h) h.2)]
  · rw [hvoices, List.getElem?_set_self hlt, if_pos ⟨hr, hn⟩]
  · rw [hvoices, List.getElem?_set_ne (Ne.symm hj)]
  · rw [hf]
    exact Fetch.buf_set_other y hj
  · rw [harb, hdone]

/-- Settles O30: what a completed read leaves is what the port, idle again, makes of the queue (`Fetch.next`). -/
theorem segmentReadsFillOrAreDiscarded : Obligations.SegmentReadsFillOrAreDiscarded :=
  ⟨aPrimeMakesItsVoiceSound, staleReadsAreDiscarded, fetchEntriesQueueInTwoRuns, completedReadsFillTheirHalf⟩

end Sys2Proof.Machine
end

section
/-! An audio block boundary: what becomes of each voice, its buffer and the fetch queue (R82, R86, R100, R105, R115 to R117). -/

namespace Sys2Proof.Machine

/-! ### Releases (R82) -/

/-- R82: the growth is a whole number of units for every release time of R80. -/
theorem attGrowth_releaseTime (l : Nat) : attGrowth (releaseTime l) * releaseTime l = 60 * attDb := by
  obtain hl | hl := Nat.lt_or_ge l 64
  · exact (by decide : ∀ l < 64, attGrowth (releaseTime l) * releaseTime l = 60 * attDb) l hl
  · obtain ⟨-, -, h4000⟩ := releaseTimesFollowTheDamper l
    rw [h4000 hl]
    decide

/-! ### One entry -/

/-- The entry becomes FREE at the boundary. -/
def Voice.endsAt (x : Option Voice) : Bool := x.any fun w => w.boundary.isNone

/-- What the boundary makes of the buffer of an entry. -/
def StreamBuf.atBoundary (x : Option Voice) (b : StreamBuf) : StreamBuf :=
  if Voice.endsAt x then b.cancelled else if x.isSome then b.begin else b

/-- A place set to what stands there. -/
theorem set_eq_self_of_getElem? {α : Type} {xs : List α} {i : Nat} {a : α} (h : ∀ x, xs[i]? = some x → x = a) :
    xs.set i a = xs := by
  refine List.ext_getElem? fun j => ?_
  by_cases hj : j = i
  · subst hj
    rw [List.getElem?_set_self']
    cases hx : xs[j]? with
    | none => rfl
    | some x => rw [h x hx]; rfl
  · rw [List.getElem?_set_ne (Ne.symm hj)]

theorem Fetch.set_buf_self (f : Fetch) (i : Nat) : f.bufs.set i (f.buf i) = f.bufs :=
  set_eq_self_of_getElem? fun x hx => by rw [Fetch.buf, List.getD, hx]; rfl

/-- R82, R86, R100, R105: the whole of a boundary for one entry. -/
theorem State.boundaryEntry_eq (s : State) (i : Nat) :
    s.boundaryEntry i = { s with
      voices := { s.voices with table := s.voices.table.set i ((s.voices.voice? i).bind Voice.boundary) }
      fetch := { s.fetch with
        bufs := s.fetch.bufs.set i ((s.fetch.buf i).atBoundary (s.voices.voice? i))
        queue := s.fetch.queue.filter fun e => !(e.voice == i && Voice.endsAt (s.voices.voice? i)) } } := by
  unfold State.boundaryEntry
  cases hw : s.voices.voice? i with
  | none =>
    have htable : s.voices.table.set i none = s.voices.table :=
      set_eq_self_of_getElem? fun x hx => by rwa [Voices.voice?, hx] at hw
    have hbufs := s.fetch.set_buf_self i
    simp [StreamBuf.atBoundary, Voice.endsAt, htable, hbufs]
  | some w =>
    cases hb : w.boundary with
    | none => simp [StreamBuf.atBoundary, Voice.endsAt, hb, State.freeVoice, Fetch.cancel, Fetch.setBuf_eq, Voices.setVoice_eq, bne]
    | some w' => simp [StreamBuf.atBoundary, Voice.endsAt, hb, Fetch.setBuf_eq, Voices.setVoice_eq]

/-! ### All entries -/

/-- `v` is `u` with the boundary made for the entries below `n`. -/
structure State.boundaryBelow (n : Nat) (u v : State) : Prop where
  frame : v = { u with
    voices := { u.voices with table := v.voices.table }, fetch := { u.fetch with bufs := v.fetch.bufs, queue := v.fetch.queue } }
  table : ∀ i, v.voices.table[i]? =
    if i < n then (u.voices.table[i]?).map (Option.bind · Voice.boundary) else u.voices.table[i]?
  length : v.fetch.bufs.length = u.fetch.bufs.length
  buf : ∀ i, v.fetch.buf i = if i < n then (u.fetch.buf i).atBoundary (u.voices.voice? i) else u.fetch.buf i
  queue : v.fetch.queue = u.fetch.queue.filter fun e => !(decide (e.voice < n) && Voice.endsAt (u.voices.voice? e.voice))

theorem State.boundaryBelow_zero (u : State) : State.boundaryBelow 0 u u where
  frame := rfl
  table i := by simp
  length := rfl
  buf i := by simp
  queue := by simp

theorem State.boundaryBelow_succ {n : Nat} {u v : State} (hn : n < u.fetch.bufs.length) (h : State.boundaryBelow n u v) :
    State.boundaryBelow (n + 1) u (v.boundaryEntry n) := by
  have htable : v.voices.table[n]? = u.voices.table[n]? := by rw [h.table, if_neg (Nat.lt_irrefl n)]
  have hvoice : v.voices.voice? n = u.voices.voice? n := congrArg Option.join htable
  have hbuf : v.fetch.buf n = u.fetch.buf n := by rw [h.buf, if_neg (Nat.lt_irrefl n)]
  have hentry := v.boundaryEntry_eq n
  rw [hvoice, hbuf] at hentry
  have below {α : Type} {i : Nat} (hi : i ≠ n) (a b : α) : (if i < n + 1 then a else b) = if i < n then a else b :=
    if_congr (by omega) rfl rfl
  constructor
  · rw [hentry, h.frame]
  · intro i
    rw [hentry]
    change (v.voices.table.set n _)[i]? = _
    by_cases hi : i = n
    · subst hi
      rw [List.getElem?_set_self', htable, if_pos (Nat.lt_succ_self i)]
      cases hx : u.voices.table[i]? with
      | none => rfl
      | some x => simp [Voices.voice?, hx]
    · rw [List.getElem?_set_ne (Ne.symm hi), h.table, below hi]
  · rw [hentry]
    exact (List.length_set ..).trans h.length
  · intro i
    rw [hentry]
    by_cases hi : i = n
    · subst hi
      rw [if_pos (Nat.lt_succ_self i)]
      exact Fetch.buf_set_same (h.length ▸ hn)
    · rw [below hi, ← h.buf]
      exact Fetch.buf_set_other _ hi
  · rw [hentry]
    change v.fetch.queue.filter _ = _
    rw [h.queue, List.filter_filter]
    refine List.filter_congr fun e _ => ?_
    by_cases he : e.voice = n
    · simp [he]
    · simp [he, show e.voice < n + 1 ↔ e.voice < n by omega]

theorem State.boundaryBelow_range {n : Nat} {u : State} (hn : n ≤ u.fetch.bufs.length) :
    State.boundaryBelow n u ((List.range n).foldl State.boundaryEntry u) := by
  induction n with
  | zero => exact u.boundaryBelow_zero
  | succ n ih =>
    rw [List.range_succ, List.foldl_append]
    exact State.boundaryBelow_succ hn (ih (by omega))

/-- R82, R86: which voices a boundary ends. -/
theorem Voice.boundary_isNone (w : Voice) :
    w.boundary.isNone = (match w.phase with
      | .starting | .sounding => false
      | .damped r a => decide (96 * attDb ≤ a + attGrowth r)
      | .fading n begun _ => begun && decide (4 ≤ n)) := by
  unfold Voice.boundary attEnd
  cases w.phase with
  | starting => rfl
  | sounding => rfl
  | damped r a =>
    simp only
    split
    next h => simp [h]
    next h => simp [h]
  | fading n b a =>
    cases b with
    | false => rfl
    | true =>
      simp only [Bool.not_true, Bool.false_eq_true, if_false]
      split
      next h => simp [h]
      next h => simp [h]

/-- Settles O28: the boundary takes each entry once (`State.boundaryBelow`), so what becomes of an entry is told by
its voice alone. -/
theorem audioBoundariesAdvanceReleasesAndFades : Obligations.AudioBoundariesAdvanceReleasesAndFades := by
  refine ⟨attGrowth_releaseTime, ?_⟩
  intro s t htable hbufs hready ends
  obtain ⟨v, hv, hexec⟩ : ∃ v, State.boundaryBelow 80 (s.upTo t) v
      ∧ exec (.audioBlockBoundary t) s = .next (State.arbitrate { v with mixer := v.mixer.boundary }) :=
    ⟨_, State.boundaryBelow_range hbufs.ge, rfl⟩
  have hlink : v.link = s.link := by rw [hv.frame]; rfl
  have hmixer : v.mixer = (s.upTo t).mixer := by rw [hv.frame]
  obtain ⟨tx, rp, ns, pk, harb⟩ :=
    State.arbitrate_frame { v with mixer := v.mixer.boundary } (by rw [← hready]; exact congrArg Link.readyPlace hlink)
  rw [harb] at hexec
  have hends (x : Option Voice) : Voice.endsAt x = x.any ends := by
    cases x with
    | none => rfl
    | some w => exact w.boundary_isNone
  have entry {i : Nat} {x : Option Voice} (h : s.voices.table[i]? = some x) :
      v.voices.table[i]? = some (x.bind Voice.boundary) ∧ v.fetch.buf i = (s.fetch.buf i).atBoundary x := by
    have hi : i < 80 := htable ▸ (List.getElem?_eq_some_iff.mp h).1
    have hvoice : (s.upTo t).voices.voice? i = x := congrArg Option.join h
    refine ⟨?_, ?_⟩
    · rw [hv.table, if_pos hi, State.upTo_voices, h]
      rfl
    · rw [hv.buf, if_pos hi, hvoice]
      rfl
  refine ⟨_, hexec, fun i h => entry h, ?_, hv.length.trans hbufs, fun i w h => ?_, ?_, ?_⟩
  · refine hv.queue.trans (List.filter_congr fun e _ => ?_)
    rw [hends]
    change (!(decide (e.voice < 80) && ((s.voices.table[e.voice]?).join).any ends)) = _
    obtain he | he := Nat.lt_or_ge e.voice 80
    · rw [decide_eq_true he, Bool.true_and]
    · rw [List.getElem?_eq_none (htable ▸ he), Option.join_none, Option.any_none, Bool.and_false]
  · intro empty freed kept
    obtain ⟨htb, hbuf⟩ := entry h
    have hfreed (hb : w.boundary = none) : freed := by
      refine ⟨htb.trans (congrArg some hb), hbuf.trans ?_⟩
      simp only [StreamBuf.atBoundary, Voice.endsAt, Option.any_some, hb, Option.isNone_none, if_true]
      rfl
    have hkept {w' : Voice} (hb : w.boundary = some w') : kept w' := by
      refine ⟨htb.trans (congrArg some hb), hbuf.trans ?_⟩
      simp only [StreamBuf.atBoundary, Voice.endsAt, Option.any_some, hb, Option.isNone_some, Bool.false_eq_true, if_false,
        Option.isSome_some, if_true]
      rfl
    cases hp : w.phase with
    | starting => exact hkept (by rw [Voice.boundary, hp])
    | sounding => exact hkept (by rw [Voice.boundary, hp])
    | damped r a =>
      simp only
      split
      next h => exact hfreed (by rw [Voice.boundary, hp]; exact if_pos h)
      next h => exact hkept (by rw [Voice.boundary, hp]; exact if_neg h)
    | fading n begun a =>
      cases begun with
      | false => exact hkept (by rw [Voice.boundary, hp]; rfl)
      | true =>
        simp only [Bool.true_eq_false, if_false]
        split
        next h => exact hfreed (by rw [Voice.boundary, hp]; exact if_pos h)
        next h => exact hkept (by rw [Voice.boundary, hp]; exact if_neg h)
  · exact congrArg Mixer.boundary hmixer
  · rw [hv.frame]
    rfl

end Sys2Proof.Machine
end

section
/-! One output frame for the voices: every play position present advances (R101, R102, R105). -/

namespace Sys2Proof.Machine

/-! ### One entry -/

theorem State.freeVoice_eq (i : Nat) (s : State) : s.freeVoice i = { s with
    voices := { s.voices with table := s.voices.table.set i none }
    fetch := { s.fetch with
      bufs := s.fetch.bufs.set i (s.fetch.buf i).cancelled, queue := s.fetch.queue.filter (·.voice != i) } } := by
  rw [State.freeVoice, Fetch.cancel, Fetch.setBuf_eq, Voices.setVoice_eq]

/-- Past the last entry there is no play position. -/
theorem Fetch.lt_of_pos {f : Fetch} {i p : Nat} (h : (f.buf i).pos = some p) : i < f.bufs.length := by
  by_contra hi
  rw [Fetch.buf, List.getD_eq_default _ _ (not_lt.mp hi)] at h
  cases h

/-- R99: the segment after `n` is held in the other half. -/
theorem StreamBuf.setHalf_succ (n : Nat) (h : Half) (b : StreamBuf) :
    b.setHalf (n + 1) h = if n % 2 = 0 then { b with b := h } else { b with a := h } := by
  rw [StreamBuf.setHalf_eq]
  obtain hn | hn := Nat.mod_two_eq_zero_or_one n
  · have hs : (n + 1) % 2 ≠ 0 := by omega
    rw [if_pos hn, if_neg hs]
  · have hs : (n + 1) % 2 = 0 := by omega
    rw [hn, if_pos hs, if_neg (by decide)]

theorem Zone.hasSegment_iff (z : Zone) (n : Nat) : z.hasSegment n = true ↔ z.loopStart ≠ none ∨ 256 * n < z.length := by
  rw [Zone.hasSegment, Bool.or_eq_true, decide_eq_true_iff, Option.isSome_iff_ne_none]

theorem State.playEntry_idle {s : State} {i : Nat} (h : s.voices.voice? i = none ∨ (s.fetch.buf i).pos = none) :
    s.playEntry i = s := by
  unfold State.playEntry
  obtain h | h := h
  · rw [h]
  · rw [h]
    cases s.voices.voice? i <;> rfl

section
variable {s : State} {i p : Nat} {w : Voice} {z : Zone} (hw : s.voices.table[i]? = some (some w))
  (hp : (s.fetch.buf i).pos = some p) (hz : s.fetch.zones[w.zone]? = some z)
include hw hp hz

theorem State.playEntry_ended (h : z.loopStart = none ∧ z.length ≤ p + 1) : s.playEntry i = s.freeVoice i := by
  obtain ⟨hloop, hlen⟩ := h
  simp [State.playEntry, Voices.voice?_eq_some.mpr hw, hp, State.advance, Fetch.zone?, hz, hloop, hlen]

theorem State.playEntry_within (h : ¬(z.loopStart = none ∧ z.length ≤ p + 1)) (hn : (p + 1) % 256 ≠ 0) :
    s.playEntry i = { s with fetch := { s.fetch with bufs := s.fetch.bufs.set i { s.fetch.buf i with pos := some (p + 1) } } } := by
  simp [State.playEntry, Voices.voice?_eq_some.mpr hw, hp, State.advance, Fetch.zone?, hz, h, hn, Fetch.setBuf_eq]

theorem State.playEntry_cross (h : ¬(z.loopStart = none ∧ z.length ≤ p + 1)) (hn : (p + 1) % 256 = 0) :
    s.playEntry i = s.cross i ((p + 1) / 256) w z := by
  simp [State.playEntry, Voices.voice?_eq_some.mpr hw, hp, State.advance, Fetch.zone?, hz, h, hn]

end

/-- The buffer of an entry that has crossed into the half of segment `n`, the other half being `h`. -/
def StreamBuf.crossed (n : Nat) (h : Half) (b : StreamBuf) : StreamBuf :=
  if n % 2 = 0 then { b with pos := some (256 * n), b := h } else { b with pos := some (256 * n), a := h }

theorem StreamBuf.setHalf_crossed (n : Nat) (h : Half) (b : StreamBuf) :
    ({ b with pos := some (256 * n) } : StreamBuf).setHalf (n + 1) h = b.crossed n h := StreamBuf.setHalf_succ ..

theorem State.cross_full {s : State} {i n : Nat} {w : Voice} {z : Zone} (hi : i < s.fetch.bufs.length)
    (h : ((s.fetch.buf i).half n).fill = .full ∧ ((s.fetch.buf i).half n).segment = n) :
    s.cross i n w z =
      (let put (x : StreamBuf) : Fetch := { s.fetch with bufs := s.fetch.bufs.set i x }
       if z.hasSegment (n + 1) then
         { s with
           fetch := (put ((s.fetch.buf i).crossed n { fill := .queued, segment := n + 1, data := [] })).place
             { cls := .refill, voice := i, seq := w.seq, segment := n + 1 } }
       else { s with fetch := put ((s.fetch.buf i).crossed n Half.empty) }) := by
  unfold State.cross
  simp only [h.1, h.2, and_self, if_true, Fetch.askRefill, Fetch.setBuf_eq, Fetch.buf_set_same hi, List.set_set,
    StreamBuf.setHalf_crossed]

theorem State.cross_underrun {s : State} {i n : Nat} (w : Voice) (z : Zone)
    (h : ¬(((s.fetch.buf i).half n).fill = .full ∧ ((s.fetch.buf i).half n).segment = n)) :
    s.cross i n w z = (s.freeVoice i).tally .fetchUnderruns := if_neg h

theorem playingVoicesCrossEndOrUnderrun : Claims.PlayingVoicesCrossEndOrUnderrun := by
  intro s i
  refine ⟨State.playEntry_idle, ?_⟩
  intro p w z hw hp hz b n empty put into left freed ended full more
  have hi := Fetch.lt_of_pos hp
  have hfreed : s.freeVoice i = freed := s.freeVoice_eq i
  have hleft (hn : (p + 1) % 256 = 0) (h : Half) : b.crossed n h = left h := by
    have hn' : 256 * n = p + 1 := Nat.mul_div_cancel' (Nat.dvd_of_mod_eq_zero hn)
    rw [StreamBuf.crossed, hn']
  have hmore : z.hasSegment (n + 1) = true ↔ more := z.hasSegment_iff (n + 1)
  refine ⟨fun he => ?_, State.playEntry_within hw hp hz, fun he hn hf hm => ?_, fun he hn hf hm => ?_, fun he hn hf => ?_⟩
  · rw [State.playEntry_ended hw hp hz he, hfreed]
  · rw [State.playEntry_cross hw hp hz he hn, State.cross_full hi hf, ← hleft hn]
    exact if_pos (hmore.mpr hm)
  · rw [State.playEntry_cross hw hp hz he hn, State.cross_full hi hf, ← hleft hn]
    exact if_neg (mt hmore.mp hm)
  · rw [State.playEntry_cross hw hp hz he hn, State.cross_underrun w z hf, hfreed]

/-! ### The entries apart -/

/-- `g` is `f` but for what does not touch the zones and the play position of entry `j`. -/
structure Fetch.playsApart (j : Nat) (f g : Fetch) : Prop where
  zones : g.zones = f.zones
  length : g.bufs.length = f.bufs.length
  pos : (g.buf j).pos = (f.buf j).pos

/-- A buffer is set: of another entry, or one whose play position is kept. -/
theorem Fetch.playsApart_set {f : Fetch} {i j : Nat} {b : StreamBuf} (q : List FetchEntry) (x : Option PortRead)
    (h : j ≠ i ∨ b.pos = (f.buf j).pos) : f.playsApart j { f with bufs := f.bufs.set i b, queue := q, port := x } where
  zones := rfl
  length := List.length_set ..
  pos := by
    change (({ f with bufs := f.bufs.set i b } : Fetch).buf j).pos = _
    by_cases hj : j = i
    · subst hj
      obtain hlt | hge := Nat.lt_or_ge j f.bufs.length
      · rw [Fetch.buf_set_same hlt]
        exact h.resolve_left (fun hne => hne rfl)
      · rw [List.set_eq_of_length_le hge]
    · rw [Fetch.buf_set_other b hj]

theorem Fetch.playsApart.trans {j : Nat} {f g h : Fetch} (hf : f.playsApart j g) (hg : g.playsApart j h) : f.playsApart j h :=
  ⟨hg.zones.trans hf.zones, hg.length.trans hf.length, hg.pos.trans hf.pos⟩

@[simp] theorem StreamBuf.mark_pos (n : Nat) (x : Fill) (b : StreamBuf) : (b.mark n x).pos = b.pos := by
  rw [StreamBuf.mark_eq]
  split <;> rfl

/-- The port may take the entry of any voice; no play position moves by it. -/
theorem Fetch.place_playsApart (e : FetchEntry) (j : Nat) (f : Fetch) : f.playsApart j (f.place e) := by
  let g : Fetch := { f with queue := placeEntry e f.queue }
  change f.playsApart j g.kick
  have hg : f.playsApart j g := ⟨rfl, rfl, rfl⟩
  by_cases hport : g.port = none
  · cases hq : g.queue with
    | nil =>
      rw [Fetch.kick_idle hport, Fetch.next_empty hq]
      exact ⟨rfl, rfl, rfl⟩
    | cons x q =>
      rw [Fetch.kick_idle hport, Fetch.next_cons hq]
      refine hg.trans (Fetch.playsApart_set q _ ?_)
      by_cases hj : j = x.voice
      · exact .inr (by rw [StreamBuf.mark_pos, hj])
      · exact .inl hj
  · rwa [Fetch.kick_busy hport]

/-- `v` is `u` with its voices played on, of which entry `j` has kept its voice and its play position. -/
structure State.playsApart (j : Nat) (u v : State) : Prop where
  frame : v = { u with voices := v.voices, fetch := v.fetch, stats := v.stats }
  clips : v.stat .mixerClips = u.stat .mixerClips
  fetch : u.fetch.playsApart j v.fetch
  voice : v.voices.table[j]? = u.voices.table[j]?

theorem State.playsApart_self (j : Nat) (u : State) : u.playsApart j u := ⟨rfl, rfl, ⟨rfl, rfl, rfl⟩, rfl⟩

theorem State.playsApart.trans {j : Nat} {u v t : State} (hu : u.playsApart j v) (hv : v.playsApart j t) : u.playsApart j t where
  frame := by rw [hv.frame, hu.frame]
  clips := hv.clips.trans hu.clips
  fetch := hu.fetch.trans hv.fetch
  voice := hv.voice.trans hu.voice

/-- What the unit of the fetch makes of its own state alone. -/
theorem State.playsApart_fetch {j : Nat} {u : State} {f : Fetch} (h : u.fetch.playsApart j f) :
    u.playsApart j { u with fetch := f } :=
  ⟨rfl, rfl, h, rfl⟩

theorem State.freeVoice_playsApart {i j : Nat} (u : State) (h : j ≠ i) : u.playsApart j (u.freeVoice i) := by
  rw [State.freeVoice_eq]
  exact ⟨rfl, rfl, Fetch.playsApart_set _ u.fetch.port (.inl h), List.getElem?_set_ne (Ne.symm h)⟩

theorem State.cross_playsApart {i j n : Nat} {w : Voice} {z : Zone} {u : State} (hi : i < u.fetch.bufs.length) (h : j ≠ i) :
    u.playsApart j (u.cross i n w z) := by
  have put (b : StreamBuf) : u.fetch.playsApart j { u.fetch with bufs := u.fetch.bufs.set i b } :=
    Fetch.playsApart_set u.fetch.queue u.fetch.port (.inl h)
  by_cases hf : ((u.fetch.buf i).half n).fill = .full ∧ ((u.fetch.buf i).half n).segment = n
  · rw [State.cross_full hi hf]
    cases z.hasSegment (n + 1) with
    | true => exact State.playsApart_fetch ((put _).trans (Fetch.place_playsApart ..))
    | false => exact State.playsApart_fetch (put _)
  · rw [State.cross_underrun w z hf]
    obtain ⟨hframe, hclips, hfetch, hvoice⟩ := u.freeVoice_playsApart h
    refine ⟨?_, ?_, hfetch, hvoice⟩
    · rw [State.freeVoice_eq]
      rfl
    · exact (State.stat_tally_other (by decide) _).trans hclips

theorem State.playEntry_playsApart {i j : Nat} (u : State) (h : j ≠ i) : u.playsApart j (u.playEntry i) := by
  cases hv : u.voices.voice? i with
  | none =>
    rw [State.playEntry_idle (.inl hv)]
    exact u.playsApart_self j
  | some w =>
    have hw := Voices.voice?_eq_some.mp hv
    cases hp : (u.fetch.buf i).pos with
    | none =>
      rw [State.playEntry_idle (.inr hp)]
      exact u.playsApart_self j
    | some p =>
      cases hz : u.fetch.zones[w.zone]? with
      | none =>
        have hsame : u.playEntry i = u := by simp [State.playEntry, hv, hp, State.advance, Fetch.zone?, hz]
        rw [hsame]
        exact u.playsApart_self j
      | some z =>
        by_cases he : z.loopStart = none ∧ z.length ≤ p + 1
        · rw [State.playEntry_ended hw hp hz he]
          exact u.freeVoice_playsApart h
        · by_cases hn : (p + 1) % 256 = 0
          · rw [State.playEntry_cross hw hp hz he hn]
            exact State.cross_playsApart (Fetch.lt_of_pos hp) h
          · rw [State.playEntry_within hw hp hz he hn]
            exact State.playsApart_fetch (Fetch.playsApart_set u.fetch.queue u.fetch.port (.inl h))

theorem State.playEntries_playsApart {j : Nat} {xs : List Nat} (h : j ∉ xs) (u : State) :
    u.playsApart j (xs.foldl State.playEntry u) := by
  induction xs generalizing u with
  | nil => exact u.playsApart_self j
  | cons i xs ih =>
    obtain ⟨hi, hxs⟩ := not_or.mp (mt List.mem_cons.mpr h)
    exact (u.playEntry_playsApart hi).trans (ih hxs _)

/-- An entry is played once in a frame, so a voice that neither ends nor crosses has moved on by one frame. -/
theorem State.playEntries_within {u : State} {xs : List Nat} {i p : Nat} {w : Voice} {z : Zone} (hxs : xs.Nodup) (hi : i ∈ xs)
    (hw : u.voices.table[i]? = some (some w)) (hp : (u.fetch.buf i).pos = some p) (hz : u.fetch.zones[w.zone]? = some z)
    (he : ¬(z.loopStart = none ∧ z.length ≤ p + 1)) (hn : (p + 1) % 256 ≠ 0) :
    ((xs.foldl State.playEntry u).fetch.buf i).pos = some (p + 1)
      ∧ (xs.foldl State.playEntry u).voices.table[i]? = some (some w) := by
  obtain ⟨before, after, rfl⟩ := List.append_of_mem hi
  obtain ⟨hnot, -⟩ := List.nodup_cons.mp (List.nodup_middle.mp hxs)
  obtain ⟨hbefore, hafter⟩ : i ∉ before ∧ i ∉ after := by simpa using hnot
  rw [List.foldl_append, List.foldl_cons]
  have hb := State.playEntries_playsApart hbefore u
  have hp' := hb.fetch.pos.trans hp
  have hentry := State.playEntry_within (hb.voice.trans hw) hp' ((congrArg (·[w.zone]?) hb.fetch.zones).trans hz) he hn
  have ha := State.playEntries_playsApart hafter ((before.foldl State.playEntry u).playEntry i)
  refine ⟨ha.fetch.pos.trans ?_, ha.voice.trans ?_⟩
  · rw [hentry]
    exact congrArg StreamBuf.pos (Fetch.buf_set_same (Fetch.lt_of_pos hp'))
  · rw [hentry]
    exact hb.voice.trans hw

/-! ### The frame -/

theorem anOutputFrameSendsAndPlaysOn : Claims.AnOutputFrameSendsAndPlaysOn :=
  fun _ _ => ⟨rfl, rfl⟩

/-- R116: a silent frame clips nothing. -/
theorem State.sendFrame_silent {s : State} (h : s.mixer.silentOut = true) :
    s.sendFrame = { s with mixer := { s.mixer with port := silentFrame, frameInBlock := s.mixer.frameInBlock + 1 } } := by
  have hform : s.mixer.form s.supplies = (silentFrame, false) := if_pos h
  rw [State.sendFrame, hform]
  rfl

theorem silentFramesAreZeroAndVoicesPlayOn : Claims.SilentFramesAreZeroAndVoicesPlayOn := by
  intro s t hsilent hready _
  let u : State := { s.upTo t with
    mixer := { (s.upTo t).mixer with port := silentFrame, frameInBlock := (s.upTo t).mixer.frameInBlock + 1 } }
  obtain ⟨v, hv, hplay, hexec⟩ : ∃ v, u.playsApart 80 v
      ∧ (∀ (i p : Nat) (w : Voice) (z : Zone), i < 80 → u.voices.table[i]? = some (some w) → (u.fetch.buf i).pos = some p →
          u.fetch.zones[w.zone]? = some z → ¬(z.loopStart = none ∧ z.length ≤ p + 1) → (p + 1) % 256 ≠ 0 →
          (v.fetch.buf i).pos = some (p + 1) ∧ v.voices.table[i]? = some (some w))
      ∧ exec (.outputFrame t) s = .next v.arbitrate := by
    have hsent : (s.upTo t).sendFrame = u := State.sendFrame_silent hsilent
    exact ⟨(List.range 80).foldl State.playEntry u, State.playEntries_playsApart List.not_mem_range_self u,
      fun i p w z hi hw hp hz he hn => State.playEntries_within List.nodup_range (List.mem_range.mpr hi) hw hp hz he hn,
      hsent ▸ (anOutputFrameSendsAndPlaysOn s t).1⟩
  have hlink : v.link = s.link := by
    rw [hv.frame]
    rfl
  obtain ⟨tx, rp, ns, pk, harb⟩ := State.arbitrate_frame v (hlink ▸ hready)
  rw [harb] at hexec
  refine ⟨_, hexec, ?_, hv.clips, ?_, fun i p w z hi hw hp hz hlast hn => ?_⟩
  · rw [hv.frame]
    rfl
  · rw [hv.frame]
  · refine hplay i p w z hi hw hp hz ?_ hn
    rintro ⟨hloop, hlen⟩
    obtain hsome | hlt := hlast
    · rw [hloop] at hsome
      cases hsome
    · omega

end Sys2Proof.Machine
end

section
/-! What an output frame is formed from and how: supplies, decibels, mixing, ramps, rounding and saturation (R86, R87, R98, R101,
R111 to R113, R115 to R117). -/

namespace Sys2Proof.Machine

/-! ### Attenuations and their factors (R111) -/

/-- Half decibels counted in either unit. -/
theorem mul_attDb_half (n : Nat) : n * attDb / 2 = n * attHalfDb := by
  rw [attHalfDb_two, Nat.mul_left_comm, Nat.mul_div_cancel_left _ Nat.zero_lt_two]

theorem attDb_pos : 0 < 20 * attDb := by decide

theorem fixedGain_zero : fixedGain 0 = 1 := by
  simp [fixedGain, fixedOne]

/-- R111: 20 dB are a factor of ten. -/
theorem fixedGain_add (a : Nat) : fixedGain (a + 20 * attDb) = fixedGain a / 10 := by
  simp only [fixedGain, Nat.add_mod_right, Nat.add_div_right a attDb_pos, pow_succ, div_div, mul_assoc]

theorem fixedGain_of_lt {a : Nat} (h0 : 0 < a) (h : a < 20 * attDb) :
    fixedGain a = (fixedExpNeg (fixedLn10 * a / (20 * attDb)) : Rat) / 2 ^ 256 := by
  simp only [fixedGain, Nat.mod_eq_of_lt h, Nat.div_eq_of_lt h, if_neg h0.ne', pow_zero, div_one, fixedOne, Nat.cast_pow,
    Nat.cast_ofNat]

/-- The terms of the series two by two: the even ones are added and the odd ones taken off. -/
theorem expTerms_two_mul {x : Nat} {term : Nat → Nat} (h : ∀ n, term (n + 1) = term n * x / fixedOne / (n + 1)) (m j : Nat) :
    expTerms x (2 * m) (2 * j) (term (2 * j)) =
      (((List.range m).map fun i => term (2 * (i + j))).sum, ((List.range m).map fun i => term (2 * (i + j) + 1)).sum) := by
  induction m generalizing j with
  | zero => rfl
  | succ m ih =>
    have hnext := ih (j + 1)
    have heven : 2 * j % 2 = 0 := Nat.mul_mod_right ..
    have hodd : (2 * j + 1) % 2 ≠ 0 := by omega
    rw [show 2 * (m + 1) = 2 * m + 1 + 1 from rfl]
    simp only [expTerms, ← h, heven, hodd, if_true, if_false]
    rw [show 2 * j + 1 + 1 = 2 * (j + 1) from rfl, hnext, List.range_succ_eq_map]
    simp only [List.map_cons, List.map_map, List.sum_cons, Function.comp_def, Nat.zero_add, Nat.succ_add_eq_add_succ]
    exact Prod.ext (Nat.add_comm ..) (Nat.add_comm ..)

/-- The 40th power of the factor of each half dB below 20 dB, times the power of ten it stands for. -/
theorem halfDb_roots : ∀ h < 40, 0 < h →
    let e := fixedExpNeg (fixedLn10 * (h * attHalfDb) / (20 * attDb)) ^ 40 * 10 ^ h
    e * 2 ^ 240 ≤ (2 ^ 256) ^ 40 * (2 ^ 240 + 1) ∧ (2 ^ 256) ^ 40 * 2 ^ 240 ≤ e * 2 ^ 240 + (2 ^ 256) ^ 40 := by
  decide +kernel

/-- The series of exp(−x) is that of its even terms less that of its odd ones. -/
theorem fixedExpNeg_eq {x : Nat} {term : Nat → Nat} (h0 : term 0 = fixedOne)
    (h : ∀ n, term (n + 1) = term n * x / fixedOne / (n + 1)) :
    fixedExpNeg x = ((List.range 50).map fun n => term (2 * n)).sum - ((List.range 50).map fun n => term (2 * n + 1)).sum := by
  have hterms := expTerms_two_mul h 50 0
  simp only [Nat.mul_zero, Nat.add_zero, h0, Nat.reduceMul] at hterms
  rw [fixedExpNeg, hterms]

/-- A quotient near 1, in whole numbers. -/
theorem div_near_one {e d u : Nat} (hd : 0 < d) (hu : 0 < u) (hle : e * u ≤ d * (u + 1)) (hge : d * u ≤ e * u + d) :
    (e : Rat) / d ≤ 1 + 1 / u ∧ 1 ≤ (e : Rat) / d + 1 / u := by
  have hd' : (0 : Rat) < d := Nat.cast_pos.mpr hd
  have hu' : (0 : Rat) < u := Nat.cast_pos.mpr hu
  have hle' : (e : Rat) * u ≤ d * (u + 1) := by exact_mod_cast hle
  have hge' : (d : Rat) * u ≤ e * u + d := by exact_mod_cast hge
  constructor
  · rw [one_add_div hu'.ne', div_le_div_iff₀ hd' hu']
    linarith
  · rw [div_add_div _ _ hd'.ne' hu'.ne', one_le_div (mul_pos hd' hu')]
    linarith

theorem decibelsAreFactors : Claims.DecibelsAreFactors := by
  refine ⟨fixedGain_zero, fixedGain_add, fun h hh => ?_, fun a term h0 ha hterm hnext => ?_⟩
  · obtain rfl | hpos := Nat.eq_zero_or_pos h
    · simp [fixedGain_zero]
    · have hlt : h * attHalfDb < 20 * attDb :=
        calc h * attHalfDb < 40 * attHalfDb := Nat.mul_lt_mul_of_pos_right hh (by decide)
          _ = 20 * attDb := rfl
      obtain ⟨hle, hge⟩ := halfDb_roots h hh hpos
      obtain ⟨hbelow, habove⟩ := div_near_one (by positivity) (by positivity) hle hge
      rw [mul_attDb_half, fixedGain_of_lt (Nat.mul_pos hpos (by decide : 0 < attHalfDb)) hlt, div_pow, div_mul_eq_mul_div]
      simp only [Nat.cast_mul, Nat.cast_pow, Nat.cast_ofNat] at hbelow habove
      exact ⟨hbelow, habove⟩
  · rw [fixedGain_of_lt h0 ha, fixedExpNeg_eq hterm hnext]

/-! ### What the voices supply (R86, R87, R98, R101) -/

theorem Voices.allocated_eq (v : Voices) : v.allocated = v.table.zipIdx.filterMap fun x => x.1.map fun w => (x.2, w) := by
  rw [Voices.allocated, numbered_eq_zipIdx, List.filterMap_map]
  rfl

theorem State.supplies_eq (s : State) :
    s.supplies = s.voices.table.zipIdx.filterMap fun x => x.1.bind fun w => s.supply s.mixer.frameNumber (x.2, w) := by
  rw [State.supplies, Voices.allocated_eq, List.filterMap_filterMap]
  refine List.filterMap_congr fun x _ => ?_
  cases x.1 <;> rfl

theorem voicesSupplyTheirSampleAtTheirLevel : Claims.VoicesSupplyTheirSampleAtTheirLevel := by
  intro s
  refine ⟨s.supplies_eq, fun k i w => ?_⟩
  intro b
  refine ⟨?_, fun p z hp hz => ?_⟩
  · rintro (hnone | hstart)
    · rw [State.supply, show (s.fetch.buf i).pos = none from hnone]
      rfl
    · simp only [State.supply, hstart]
      cases (s.fetch.buf i).pos <;> rfl
  · intro half gives
    have hpos : (s.fetch.buf i).pos = some p := hp
    have hpan : (s.fetch.zone? w.zone).elim 64 (·.pan) = z.pan := by rw [Fetch.zone?, hz]; rfl
    have hsample : b.sample p = (half.data.getD (p % 256) 0).toInt := rfl
    have hgives {att fade : Nat} (h : s.supply k (i, w) = some { source := w.source, sample := b.sample p
                                                                 att := w.gain * attHalfDb + att, fade, pan := z.pan }) :
        gives att fade := h.trans (by rw [hsample, mul_attDb_half])
    cases hph : w.phase with
    | starting => trivial
    | sounding => exact hgives (by simp only [State.supply, hpos, hpan, hph, Option.bind_some, b])
    | damped r a => exact hgives (by simp only [State.supply, hpos, hpan, hph, Option.bind_some, b])
    | fading n begun a => exact hgives (by simp only [State.supply, hpos, hpan, hph, Option.bind_some, b, fadeWeight])

/-! ### Rounding and saturation (R113, R117) -/

/-- The nearest whole number, a half going away from zero. -/
theorem roundAway_nearest (y : Rat) :
    ((roundAway y : Int) : Rat) - 1 / 2 ≤ y ∧ y ≤ (roundAway y : Rat) + 1 / 2
      ∧ (y = (roundAway y : Rat) - 1 / 2 → 0 < y) ∧ (y = (roundAway y : Rat) + 1 / 2 → y < 0) := by
  have whole_ne_half (n : Int) : (n : Rat) ≠ 1 / 2 := by
    intro h
    have : 2 * n = 1 := by exact_mod_cast (by linarith : 2 * (n : Rat) = 1)
    omega
  unfold roundAway
  split
  next h =>
    have hle := Rat.floor_le (y + 1 / 2)
    have hlt := Rat.lt_floor (x := y + 1 / 2)
    refine ⟨by linarith, by linarith, fun he => h.lt_of_ne fun h0 => ?_, fun he => by linarith⟩
    exact whole_ne_half (y + 1 / 2).floor (by linarith)
  next h =>
    have hle := Rat.floor_le (-y + 1 / 2)
    have hlt := Rat.lt_floor (x := -y + 1 / 2)
    push_cast
    exact ⟨by linarith, by linarith, fun he => by linarith, fun _ => not_le.mp h⟩

theorem roundAway_intCast (n : Int) : roundAway n = n := by
  obtain ⟨hge, hle, -, -⟩ := roundAway_nearest n
  have h1 : 2 * roundAway n - 1 ≤ 2 * n := by exact_mod_cast (by linarith : 2 * ((roundAway n : Int) : Rat) - 1 ≤ 2 * n)
  have h2 : 2 * n ≤ 2 * roundAway n + 1 := by exact_mod_cast (by linarith : 2 * (n : Rat) ≤ 2 * (roundAway n : Int) + 1)
  omega

theorem saturate24_eq (n : Int) : saturate24 n = max (-8388608) (min 8388607 n) := by
  unfold saturate24
  omega

/-! ### The mixed frame (R111 to R113, R115, R116) -/

theorem panRight_eq (p : Nat) : panRight p = if 64 ≤ p then 1 else (p : Rat) / 64 := by
  unfold panRight
  split
  next h => rw [if_neg (not_le.mpr h)]
  next h => rw [if_pos (not_lt.mp h)]

theorem GainPath.trimFor_eq (g : GainPath) (src : Source) :
    g.trimFor src = (match src with
      | .live => if g.source = .both ∨ g.source = .liveOnly then some g.liveTrim else none
      | .playback => if g.source = .both ∨ g.source = .playbackOnly then some g.playTrim else none) := by
  unfold GainPath.trimFor
  cases src <;> cases g.source <;> rfl

theorem Mixer.form_eq {m : Mixer} (h : m.silentOut = false) (xs : List Supply) :
    m.form xs =
      (let l := roundAway (m.ramped m.frameNumber xs).1
       let r := roundAway (m.ramped m.frameNumber xs).2
       ({ left := slotOf m.widthInForce (saturate24 l), right := slotOf m.widthInForce (saturate24 r) },
         decide (saturate24 l ≠ l ∨ saturate24 r ≠ r))) := by
  simp [Mixer.form, h, bne, beq_eq_decide]

theorem framesAreMixedRampedRoundedAndSaturated : Claims.FramesAreMixedRampedRoundedAndSaturated := by
  intro m xs hsilent w trim gain part leftOf rightOf left right mixed new out nearest clip slot
  have hpart (g : GainPath) (x : Supply) : g.part x = (part g x * leftOf x.pan, part g x * rightOf x.pan) := by
    have htrim : trim g x = g.trimFor x.source := (g.trimFor_eq x.source).symm
    have hleft : leftOf x.pan = panLeft x.pan := rfl
    have hright : rightOf x.pan = panRight x.pan := (panRight_eq x.pan).symm
    simp only [part, gain, htrim, hleft, hright, GainPath.part]
    cases g.master with
    | muted => simp [masterAtt]
    | code n =>
      cases g.trimFor x.source with
      | none => simp [masterAtt]
      | some d =>
        have hatt : x.att + d * attHalfDb + n * attHalfDb = x.att + (d + n) * attDb / 2 := by
          rw [mul_attDb_half, Nat.add_mul, Nat.add_assoc]
        simp only [masterAtt, hatt]
  have hmixed (g : GainPath) : g.mix xs = mixed g := by
    simp only [GainPath.mix, hpart]
    rfl
  have hout : m.ramped m.frameNumber xs = out := by
    simp only [Mixer.ramped, hmixed]
    rfl
  have hclip (n : Int) : saturate24 n = clip n := saturate24_eq n
  have hslot (n : Int) : slotOf m.widthInForce n = slot n := by
    simp only [slotOf, slot]
    split <;> rfl
  refine ⟨_, _, roundAway_nearest out.1, roundAway_nearest out.2, ?_⟩
  rw [Mixer.form_eq hsilent, hout]
  simp only [hclip, hslot]

theorem aFullLevelVoiceIsSentUnchanged : Claims.AFullLevelVoiceIsSentUnchanged := by
  intro m x src hlo hhi hsilent hramp hwidth hgains
  have hpart : m.inForce.part { source := src, sample := x, att := 0, fade := 240, pan := 64 }
      = (((x * 256 : Int) : Rat), ((x * 256 : Int) : Rat)) := by
    cases src <;> simp [hgains, GainPath.part, GainPath.trimFor, masterAtt, fixedGain_zero, panLeft, panRight]
  have hsum : m.ramped m.frameNumber [{ source := src, sample := x, att := 0, fade := 240, pan := 64 }]
      = (((x * 256 : Int) : Rat), ((x * 256 : Int) : Rat)) := by
    have hchannel : m.inForce.channel = .stereo := by rw [hgains]
    simp only [Mixer.ramped, hramp, GainPath.mix, hchannel, List.map_cons, List.map_nil, List.sum_cons, List.sum_nil,
      add_zero, hpart]
  have hsat : saturate24 (x * 256) = x * 256 := by
    rw [saturate24_eq]
    omega
  have hslot : slotOf m.widthInForce (x * 256) = BitVec.ofInt 32 (x * 65536) := by
    rw [hwidth, slotOf, if_neg (by decide), Int.mul_assoc]
    rfl
  rw [Mixer.form_eq hsilent, hsum]
  simp only [roundAway_intCast, hsat, hslot, ne_eq, not_true_eq_false, or_self, decide_false]

/-- Settles O29: a frame is formed from what the voices supply, and the entries then play on apart from each other
(`State.playsApart`). -/
theorem outputFramesAreFormed : Obligations.OutputFramesAreFormed :=
  ⟨silentFramesAreZeroAndVoicesPlayOn, aFullLevelVoiceIsSentUnchanged, voicesSupplyTheirSampleAtTheirLevel, decibelsAreFactors,
    framesAreMixedRampedRoundedAndSaturated, anOutputFrameSendsAndPlaysOn, playingVoicesCrossEndOrUnderrun⟩

end Sys2Proof.Machine
end

section
/-! Loading a sound set: its header, its zones and their checks in order, and how a load begins and ends (R94 to R97, R107, R109,
R110, R191, R192). -/

namespace Sys2Proof.Machine

/-! ### Numbers in the sound memory (R94, R95) -/

theorem State.flashNat_zero (s : State) (a : Nat) : s.flashNat a 0 = 0 := rfl

/-- The least significant byte stands first. -/
theorem State.flashNat_succ (s : State) (a n : Nat) :
    s.flashNat a (n + 1) = (Memory.read flashByte s.soundMem a).toNat + 256 * s.flashNat (a + 1) n := rfl

theorem State.flashNat_one (s : State) (a : Nat) : s.flashNat a 1 = (Memory.read flashByte s.soundMem a).toNat := by
  rw [State.flashNat_succ, State.flashNat_zero, Nat.mul_zero, Nat.add_zero]

theorem State.flashNat_two (s : State) (a : Nat) :
    s.flashNat a 2 = (Memory.read flashByte s.soundMem a).toNat + 256 * (Memory.read flashByte s.soundMem (a + 1)).toNat := by
  rw [State.flashNat_succ, State.flashNat_one]

theorem State.flashNat_four (s : State) (a : Nat) : s.flashNat a 4 = s.flashNat a 2 + 65536 * s.flashNat (a + 2) 2 := by
  simp only [State.flashNat_succ, State.flashNat_zero, Nat.add_assoc, Nat.reduceAdd]
  omega

theorem State.setSigned_iff (s : State) :
    s.setSigned = true ↔
      s.flashNat 0 1 = 0x4D ∧ s.flashNat 1 1 = 0x42 ∧ s.flashNat 2 1 = 0x53 ∧ s.flashNat 3 1 = 0x53 := by
  simp only [State.setSigned, Memory.readAll, State.flashNat_one, beq_iff_eq, List.cons.injEq, and_true, BitVec.toNat_eq,
    Nat.zero_add, Nat.reduceAdd]
  rfl

/-! ### The checks of a zone (R96, check 4) -/

theorem Zone.fault_eq (z : Zone) (size : Nat) :
    z.fault size =
      if ¬(z.lowKey ≤ z.highKey ∧ z.highKey ≤ 87) then some .keyRange
      else if ¬(1 ≤ z.lowVel ∧ z.lowVel ≤ z.highVel ∧ z.highVel ≤ 127) then some .velocityRange
      else if ¬(z.start % 2 = 0 ∧ 1 ≤ z.length ∧ z.start + 2 * z.length ≤ size) then some .extent
      else if ¬z.loopStart.all (· < z.length) then some .loop
      else if ¬(z.gain ≤ 96 ∧ z.pan ≤ 127) then some .levels
      else none := by
  simp only [Zone.fault, Bool.not_eq_true', Bool.and_eq_true, decide_eq_true_eq, beq_iff_eq, and_assoc,
    ← Bool.not_eq_true]

theorem Zone.loopInside_iff (z : Zone) :
    z.loopStart.all (· < z.length) = true ↔ ∀ l, z.loopStart = some l → l < z.length := by
  simp only [Option.all_eq_true, decide_eq_true_eq]

section
variable {z : Zone} {size : Nat}

theorem Zone.fault_keyRange (hkeys : ¬(z.lowKey ≤ z.highKey ∧ z.highKey ≤ 87)) : z.fault size = some .keyRange :=
  (z.fault_eq size).trans (if_pos hkeys)

variable (hkeys : z.lowKey ≤ z.highKey ∧ z.highKey ≤ 87)
include hkeys

theorem Zone.fault_velocityRange (hvels : ¬(1 ≤ z.lowVel ∧ z.lowVel ≤ z.highVel ∧ z.highVel ≤ 127)) :
    z.fault size = some .velocityRange := by
  rw [Zone.fault_eq, if_neg (not_not.2 hkeys), if_pos hvels]

variable (hvels : 1 ≤ z.lowVel ∧ z.lowVel ≤ z.highVel ∧ z.highVel ≤ 127)
include hvels

theorem Zone.fault_extent (hextent : ¬(z.start % 2 = 0 ∧ 1 ≤ z.length ∧ z.start + 2 * z.length ≤ size)) :
    z.fault size = some .extent := by
  rw [Zone.fault_eq, if_neg (not_not.2 hkeys), if_neg (not_not.2 hvels), if_pos hextent]

variable (hextent : z.start % 2 = 0 ∧ 1 ≤ z.length ∧ z.start + 2 * z.length ≤ size)
include hextent

theorem Zone.fault_loop (hloop : ¬∀ l, z.loopStart = some l → l < z.length) : z.fault size = some .loop := by
  rw [Zone.fault_eq, if_neg (not_not.2 hkeys), if_neg (not_not.2 hvels), if_neg (not_not.2 hextent),
    if_pos (mt z.loopInside_iff.1 hloop)]

variable (hloop : ∀ l, z.loopStart = some l → l < z.length)
include hloop

theorem Zone.fault_of_loop : z.fault size = if ¬(z.gain ≤ 96 ∧ z.pan ≤ 127) then some .levels else none := by
  rw [Zone.fault_eq, if_neg (not_not.2 hkeys), if_neg (not_not.2 hvels), if_neg (not_not.2 hextent),
    if_neg (not_not.2 (z.loopInside_iff.2 hloop))]

theorem Zone.fault_levels (hlevels : ¬(z.gain ≤ 96 ∧ z.pan ≤ 127)) : z.fault size = some .levels :=
  (Zone.fault_of_loop hkeys hvels hextent hloop).trans (if_pos hlevels)

theorem Zone.fault_none (hlevels : z.gain ≤ 96 ∧ z.pan ≤ 127) : z.fault size = none :=
  (Zone.fault_of_loop hkeys hvels hextent hloop).trans (if_neg (not_not.2 hlevels))

end

theorem firstFault_none {size n : Nat} {zs : List Zone} (h : ∀ z ∈ zs, z.fault size = none) : firstFault size n zs = none := by
  induction zs generalizing n with
  | nil => rfl
  | cons z zs ih =>
    rw [firstFault, h z List.mem_cons_self]
    exact ih fun x hx => h x (List.mem_cons_of_mem z hx)

/-- R96: the first zone that fails gives the reason and its number. -/
theorem firstFault_first {size n j : Nat} {zs : List Zone} {z : Zone} {why : LoadFailure} (hz : zs[j]? = some z)
    (hwhy : z.fault size = some why) (hbelow : ∀ i < j, ∀ x, zs[i]? = some x → x.fault size = none) :
    firstFault size n zs = some (why, some (n + j)) := by
  induction zs generalizing n j with
  | nil => cases hz
  | cons y ys ih =>
    cases j with
    | zero =>
      cases hz
      rw [firstFault, hwhy]
      rfl
    | succ j =>
      rw [firstFault, hbelow 0 j.succ_pos y rfl, Nat.add_comm j, ← Nat.add_assoc]
      exact ih hz fun i hi x hx => hbelow (i + 1) (Nat.succ_lt_succ hi) x hx

/-! ### What a load finds (R96) -/

theorem State.loadResult_eq (s : State) :
    s.loadResult =
      if ¬s.setSigned then { header := none, failure := some (.signature, none), zones := [] }
      else if ¬(1 ≤ s.readHeader.zoneCount ∧ s.readHeader.zoneCount ≤ 512) then
        { header := some s.readHeader, failure := some (.zoneCount, none), zones := [] }
      else if ¬(65536 ≤ s.readHeader.memorySize ∧ s.readHeader.memorySize ≤ 16777216
          ∧ 16 + 18 * s.readHeader.zoneCount ≤ s.readHeader.memorySize) then
        { header := some s.readHeader, failure := some (.memorySize, none), zones := [] }
      else
        (firstFault s.readHeader.memorySize 0 ((List.range s.readHeader.zoneCount).map s.readZone)).elim
          { header := some s.readHeader, failure := none, zones := (List.range s.readHeader.zoneCount).map s.readZone }
          fun e => { header := some s.readHeader, failure := some e, zones := [] } := by
  simp only [State.loadResult, Bool.not_eq_true', ← Bool.not_eq_true, Bool.and_eq_true, inRange_iff, decide_eq_true_eq,
    and_assoc]
  cases firstFault s.readHeader.memorySize 0 ((List.range s.readHeader.zoneCount).map s.readZone) <;> rfl

section
variable {s : State} (hsigned : s.setSigned = true)
  (hcounted : 1 ≤ s.readHeader.zoneCount ∧ s.readHeader.zoneCount ≤ 512)
  (hsized : 65536 ≤ s.readHeader.memorySize ∧ s.readHeader.memorySize ≤ 16777216
    ∧ 16 + 18 * s.readHeader.zoneCount ≤ s.readHeader.memorySize)
include hsigned hcounted hsized

/-- R96: with the header's checks passed the zones decide. -/
theorem State.loadResult_zones :
    s.loadResult =
      (firstFault s.readHeader.memorySize 0 ((List.range s.readHeader.zoneCount).map s.readZone)).elim
        { header := some s.readHeader, failure := none, zones := (List.range s.readHeader.zoneCount).map s.readZone }
        fun e => { header := some s.readHeader, failure := some e, zones := [] } := by
  rw [State.loadResult_eq, if_neg (not_not.2 hsigned), if_neg (not_not.2 hcounted), if_neg (not_not.2 hsized)]

theorem State.loadResult_zoneFails {n : Nat} {why : LoadFailure} (hn : n < s.readHeader.zoneCount)
    (hwhy : (s.readZone n).fault s.readHeader.memorySize = some why)
    (hbelow : ∀ j < n, (s.readZone j).fault s.readHeader.memorySize = none) :
    s.loadResult = { header := some s.readHeader, failure := some (why, some n), zones := [] } := by
  have hfirst : firstFault s.readHeader.memorySize 0 ((List.range s.readHeader.zoneCount).map s.readZone)
      = some (why, some (0 + n)) := by
    refine firstFault_first (z := s.readZone n) (by simp [hn]) hwhy fun i hi x hx => ?_
    obtain rfl : s.readZone i = x := by simpa [hi.trans hn] using hx
    exact hbelow i hi
  rw [State.loadResult_zones hsigned hcounted hsized, hfirst, Nat.zero_add]
  rfl

theorem State.loadResult_valid (hgood : ∀ n < s.readHeader.zoneCount, (s.readZone n).fault s.readHeader.memorySize = none) :
    s.loadResult =
      { header := some s.readHeader, failure := none, zones := (List.range s.readHeader.zoneCount).map s.readZone } := by
  rw [State.loadResult_zones hsigned hcounted hsized, firstFault_none fun z hz => ?_]
  · rfl
  · obtain ⟨n, hn, rfl⟩ := List.mem_map.1 hz
    exact hgood n (List.mem_range.1 hn)

end

theorem theSoundSetIsCheckedInOrder : Claims.TheSoundSetIsCheckedInOrder := by
  intro s byte two four signed h zone counted sized keys vels extent loop levels good fails
  have hone (a : Nat) : s.flashNat a 1 = byte a := s.flashNat_one a
  have htwo (a : Nat) : s.flashNat a 2 = two a := s.flashNat_two a
  have hfour (a : Nat) : s.flashNat a 4 = four a := by rw [State.flashNat_four, htwo, htwo]
  have hsigned : s.setSigned = true ↔ signed := by simp only [State.setSigned_iff, hone, signed]
  have hh : s.readHeader = h := by simp only [State.readHeader, htwo, hfour, h]
  have hzone : s.readZone = zone := by
    funext n
    simp only [State.readZone, hone, hfour, zone]
  clear_value h zone
  subst hh hzone
  have hsound {z : Zone} : good z → z.fault s.readHeader.memorySize = none := fun ⟨hk, hv, he, hl, hg⟩ =>
    Zone.fault_none hk hv he hl hg
  refine ⟨fun hs => ?_, fun hs hc => ?_, fun hs hc hm => ?_, fun n hs hc hm hn hbelow => ?_, fun hs hc hm hall => ?_⟩
  · exact s.loadResult_eq.trans (if_pos (mt hsigned.1 hs))
  · exact s.loadResult_eq.trans ((if_neg (not_not.2 (hsigned.2 hs))).trans (if_pos hc))
  · exact s.loadResult_eq.trans ((if_neg (not_not.2 (hsigned.2 hs))).trans ((if_neg (not_not.2 hc)).trans (if_pos hm)))
  · have failsWith {why : LoadFailure} (hwhy : (s.readZone n).fault s.readHeader.memorySize = some why) :
        fails (some s.readHeader) why (some n) :=
      State.loadResult_zoneFails (hsigned.2 hs) hc hm hn hwhy fun j hj => hsound (hbelow j hj)
    exact ⟨fun hk => failsWith (Zone.fault_keyRange hk), fun hk hv => failsWith (Zone.fault_velocityRange hk hv),
      fun hk hv he => failsWith (Zone.fault_extent hk hv he), fun hk hv he hl => failsWith (Zone.fault_loop hk hv he hl),
      fun hk hv he hl hg => failsWith (Zone.fault_levels hk hv he hl hg)⟩
  · exact State.loadResult_valid (hsigned.2 hs) hc hm fun n hn => hsound (hall n hn)

/-! ### A load begins (R107) -/

theorem State.reloadBusy_iff (s : State) :
    s.reloadBusy = true ↔
      s.fetch.status = .loading ∨ (∃ w, some w ∈ s.voices.table) ∨ s.fetch.queue ≠ [] ∨ s.fetch.port ≠ none := by
  have hvoices : (s.voices.table.any Option.isSome) = true ↔ ∃ w, some w ∈ s.voices.table := by
    simp only [List.any_eq_true, Option.isSome_iff_exists]
    exact ⟨fun ⟨_, hx, w, hw⟩ => ⟨w, hw ▸ hx⟩, fun ⟨w, hw⟩ => ⟨_, hw, w, rfl⟩⟩
  simp only [State.reloadBusy, Bool.or_eq_true, hvoices, beq_iff_eq, Bool.not_eq_true', List.isEmpty_eq_false_iff,
    Option.isSome_iff_ne_none, or_assoc]

theorem reloadBeginsALoad : Claims.ReloadBeginsALoad := by
  intro s t f rest ho u busy
  have hl : u.link.taking := State.offers_taking t ho
  have hbusy : (u.withRequests rest).reloadBusy = true ↔ busy := s.reloadBusy_iff
  exact ⟨fun hb => plainly_answers ho (if_pos (hbusy.2 hb)) hl, fun hb => plainly_answers ho (if_neg (mt hbusy.1 hb)) hl⟩

/-! ### A load ends (R96, R97, R107, R109, R110) -/

theorem exec_soundsetLoadDone (t : Time) (s : State) :
    exec (.soundsetLoadDone t) s = .next (s.upTo t).loadDone.arbitrate := rfl

/-- R97: the state with what its load has found in the fetch unit. -/
def State.loaded (s : State) : State := { s with fetch := s.fetch.loaded s.loadResult }

theorem State.setupOffset_isSome_iff (s : State) :
    s.setupOffset.isSome = true ↔ s.pins.strap = false ∧ ∃ h, s.fetch.header = some h ∧ h.setupOffset ≠ 0 := by
  cases hp : s.pins.strap with
  | true => simp [State.setupOffset, hp]
  | false =>
    cases hx : s.fetch.header with
    | none => simp [State.setupOffset, hp, hx]
    | some x =>
      rw [State.setupOffset_eq hp hx]
      by_cases h0 : x.setupOffset = 0 <;> simp [h0]

section
variable {s : State} (hport : s.fetch.port = some .load)
include hport

theorem State.loadDone_over (hstart : s.link.start = .over) : s.loadDone = s.loaded.notify s.loaded.fetch.setNotice := by
  rw [State.loadDone, if_neg (not_not.2 hport), hstart]
  rfl

theorem State.loadDone_warm (hstart : s.link.start = .loading false) : s.loadDone = s.loaded.endStartUp true := by
  rw [State.loadDone, if_neg (not_not.2 hport), hstart]
  rfl

/-- R191: in a full start-up the port goes on to the setup area when there is one to be read. -/
theorem State.loadDone_full (hstart : s.link.start = .loading true) :
    s.loadDone = { s.loaded with
      link := { s.link with start := .setup }
      fetch := { s.loaded.fetch with port := if s.loaded.setupOffset.isSome then some .setup else none } } := by
  rw [State.loadDone, if_neg (not_not.2 hport), hstart]
  rfl

end

theorem aLoadEndsValidOrInvalid : Claims.ALoadEndsValidOrInvalid := by
  intro s t hport hstart r status
  rw [exec_soundsetLoadDone, State.loadDone_over (s := s.upTo t) hport hstart]
  rfl

/-- After a full start-up's load no READY notice is placed yet; after a warm one's it is, and the free line takes it at once. -/
theorem theLoadOfAStartUpEnds : Claims.TheLoadOfAStartUpEnds := by
  intro s t hport u r fetch
  refine ⟨fun hstart => ?_, fun hstart htx hrestart => ?_⟩
  · intro area
    have harea : u.loaded.setupOffset.isSome = true ↔ area := u.loaded.setupOffset_isSome_iff
    rw [exec_soundsetLoadDone, State.loadDone_full (s := u) hport hstart]
    refine ⟨fun ha => ?_, fun ha => ?_⟩
    · rw [if_pos (harea.2 ha)]
      rfl
    · rw [if_neg (mt harea.1 ha)]
      rfl
  · have hready : (u.loaded.endStartUp true).arbitrate = (u.loaded.endStartUp true).beginReady (u.loaded.readyNotice true) :=
      State.arbitrate_ready htx (by change s.link.restart ≠ _; rw [hrestart]; decide) rfl
    rw [exec_soundsetLoadDone, State.loadDone_warm (s := u) hport hstart, hready]
    rfl

/-- Settles O33: each clause is one branch of what a load finds (`State.loadResult_eq`, `Zone.fault_eq`) or of how it ends. -/
theorem loadsOfTheSoundSet : Obligations.LoadsOfTheSoundSet :=
  ⟨reloadBeginsALoad, theSoundSetIsCheckedInOrder, aLoadEndsValidOrInvalid, theLoadOfAStartUpEnds⟩

end Sys2Proof.Machine
end

section
/-! The transmit arbiter's choice on a free line, the packets it takes, and the notice queue (R117, R157, R158, R187, R188,
R192). -/

namespace Sys2Proof.Machine

/-! ### The arbiter's choice (R188) -/

/-- R188: the state once the frame in progress has left the line. -/
def State.lineFree (s : State) : State := { s with link := { s.link with tx := none } }

theorem exec_txFrameDone {s : State} (h : s.link.restart = .none) (t : Time) :
    exec (.txFrameDone t) s = .next (s.upTo t).lineFree.arbitrate := by
  have hstays : (s.upTo t).restartLeaves = false := by simp [State.restartLeaves, h]
  have hdone : (s.upTo t).txDone = (s.upTo t).lineFree := by
    rw [State.txDone, hstays]
    rfl
  rw [← hdone]
  rfl

section
variable {s : State} (htx : s.link.tx = none) (hrestart : s.link.restart ≠ .replied) (hplace : s.link.readyPlace = none)
  (hready : s.link.ready = true)
include htx hrestart hplace hready

theorem State.arbitrate_reply {p : ReplyPlace} (hreply : s.link.reply = some p) : s.arbitrate = s.beginReply p := by
  have hr : (s.link.restart == .replied) = false := beq_eq_false_iff_ne.2 hrestart
  simp [State.arbitrate, htx, hr, hplace, hready, hreply]

theorem State.arbitrate_notice {n : Notice} {ns : List Notice} (hreply : s.link.reply = none)
    (hnotices : s.link.notices = n :: ns) :
    s.arbitrate = { s with link := { s.link with tx := some (.notice n), notices := ns } } := by
  have hr : (s.link.restart == .replied) = false := beq_eq_false_iff_ne.2 hrestart
  simp [State.arbitrate, htx, hr, hplace, hready, hreply, hnotices]

theorem State.arbitrate_packet (hreply : s.link.reply = none) (hnotices : s.link.notices = []) :
    s.arbitrate = s.beginPacket := by
  have hr : (s.link.restart == .replied) = false := beq_eq_false_iff_ne.2 hrestart
  simp [State.arbitrate, htx, hr, hplace, hready, hreply, hnotices]

end

theorem State.beginPacket_cons {s : State} {es : List LiveEvent} {q : List (List LiveEvent)} (h : s.packer.queue = es :: q) :
    s.beginPacket = { s with
      link := { s.link with tx := some (.stream s.packer.gap es) }
      packer := ({ s.packer with queue := q, gap := 0 } : Packer).settle } := by
  simp [State.beginPacket, Packer.takeHead, h]

theorem State.beginPacket_nil {s : State} (h : s.packer.queue = []) : s.beginPacket = s := by
  simp [State.beginPacket, Packer.takeHead, h]

theorem transmitOrder : Claims.TransmitOrder := by
  intro s t hrestart u
  have hr : u.lineFree.link.restart ≠ .replied := by
    change s.link.restart ≠ _
    rw [hrestart]
    decide
  rw [exec_txFrameDone hrestart]
  congr 1
  split
  next n hplace =>
    rw [State.arbitrate_ready rfl hr hplace, State.beginReady, beq_eq_decide]
    rfl
  next hplace =>
    split
    next hready => exact State.arbitrate_starting hready hplace
    next hready =>
      have hready := Bool.eq_true_of_not_eq_false hready
      split
      next p hreply => exact State.arbitrate_reply rfl hr hplace hready hreply
      next n ns hreply hnotices => exact State.arbitrate_notice rfl hr hplace hready hreply hnotices
      next es q hreply hnotices hqueue =>
        exact (State.arbitrate_packet rfl hr hplace hready hreply hnotices).trans (State.beginPacket_cons hqueue)
      next hreply hnotices hqueue =>
        exact (State.arbitrate_packet rfl hr hplace hready hreply hnotices).trans (State.beginPacket_nil hqueue)

/-! ### Packets (R157, R158) -/

theorem Packer.becomesReady_iff (p : Packer) :
    p.becomesReady = true ↔ p.openPacket ≠ [] ∧
      (p.maximum ≤ p.openPacket.length ∨ (p.mode = .packed ∧ p.hold = 0) ∨ p.enabled = false) := by
  simp [Packer.becomesReady, or_assoc]

/-- R157: a packet that is ready, or does not become so, is left alone. -/
theorem Packer.testReady_keeps {p : Packer} (h : p.ready = true ∨ p.becomesReady = false) : p.testReady = p :=
  if_neg (by obtain h | h := h <;> simp [h])

theorem Packer.testReady_ripe {p : Packer} (h : p.ready = false) (hripe : p.becomesReady = true) :
    p.testReady = { p with ready := true, timer := none } :=
  if_pos (by simp [h, hripe])

theorem Packer.testReady_ready (p : Packer) : p.testReady.ready = true ↔ p.ready = true ∨ p.becomesReady = true := by
  cases hready : p.ready with
  | true => simp [Packer.testReady, hready]
  | false => cases hripe : p.becomesReady <;> simp [Packer.testReady, hready, hripe]

@[simp] theorem Packer.testReady_queue (p : Packer) : p.testReady.queue = p.queue := by
  unfold Packer.testReady
  split <;> rfl

/-- R158: the next packet's readiness and hold timer are set afresh, whatever the test made of this one's. -/
theorem Packer.testReady_join (p : Packer) : p.testReady.join = p.join := by
  unfold Packer.testReady
  split <;> rfl

/-- R157, R158: the open packet is due to join a queue that has a place. -/
def Packer.joins (p : Packer) : Prop := (p.ready = true ∨ p.becomesReady = true) ∧ p.queue.length < 8

theorem Packer.joins_iff_test (p : Packer) :
    (p.testReady.ready && p.testReady.queue.length < 8) = true ↔ p.joins := by
  rw [Bool.and_eq_true, Packer.testReady_ready, Packer.testReady_queue, decide_eq_true_eq, Packer.joins]

theorem Packer.settleFor_joins {p : Packer} (h : p.joins) (n : Nat) : p.settleFor (n + 1) = p.join.settleFor n := by
  rw [Packer.settleFor, if_pos (p.joins_iff_test.2 h), Packer.testReady_join]

theorem Packer.settleFor_stays {p : Packer} (h : ¬p.joins) (n : Nat) : p.settleFor (n + 1) = p.testReady := by
  rw [Packer.settleFor, if_neg (mt p.joins_iff_test.1 h)]

theorem Packer.join_queue_length (p : Packer) : p.join.queue.length = p.queue.length + 1 := List.length_append

/-- Each packet that joins takes a place of the queue, so more tests than there are places left make no difference. -/
theorem Packer.settleFor_succ {n : Nat} {p : Packer} (hn : 0 < n) (h : 8 < n + p.queue.length) :
    p.settleFor (n + 1) = p.settleFor n := by
  induction n generalizing p with
  | zero => exact absurd hn (Nat.lt_irrefl 0)
  | succ n ih =>
    by_cases hj : p.joins
    · have hlen := p.join_queue_length
      have hplace := hj.2
      rw [Packer.settleFor_joins hj, Packer.settleFor_joins hj]
      exact ih (by omega) (by omega)
    · rw [Packer.settleFor_stays hj, Packer.settleFor_stays hj]

/-- R158: a packet that joins leaves the packer to settle the next one. -/
theorem Packer.settle_joins {p : Packer} (h : p.joins) : p.settle = p.join.settle := by
  have hlen := p.join_queue_length
  exact (Packer.settleFor_joins h 8).trans (Packer.settleFor_succ (by decide) (by omega)).symm

/-- R157: an open packet that is not ready stays open. -/
theorem Packer.settle_open {p : Packer} (h : p.ready = false) (hripe : p.becomesReady = false) : p.settle = p := by
  have hj : ¬p.joins := fun hj => by simp [Packer.joins, h, hripe] at hj
  exact (Packer.settleFor_stays hj 8).trans (Packer.testReady_keeps (.inr hripe))

/-- R158: with no place in the queue the packet is only tested. -/
theorem Packer.settle_full {p : Packer} (h : 8 ≤ p.queue.length) : p.settle = p.testReady :=
  Packer.settleFor_stays (fun hj => Nat.not_lt.2 h hj.2) 8

/-- R156, R158: the hold timer of a packet formed from the backlog. -/
theorem Packer.join_timer (p : Packer) :
    p.join.timer = if p.backlog.take p.maximum = [] ∨ p.mode = .single ∨ p.hold = 0 then none else some (p.hold * 1000) := by
  simp only [Packer.join, Packer.startHold, Timer.ofMs, List.isEmpty_iff]
  cases p.mode with
  | packed => split_ifs <;> simp_all
  | single => simp

theorem packetsBecomeReadyAndJoinTheQueue : Claims.PacketsBecomeReadyAndJoinTheQueue := by
  intro p most ripe moved next
  have hripe : p.becomesReady = true ↔ ripe := p.becomesReady_iff
  have hnext : p.join = next := congrArg (fun x => ({ p.join with timer := x } : Packer)) p.join_timer
  have joined (h : p.ready = true ∨ ripe) (hq : p.queue.length < 8) : p.settle = next.settle :=
    hnext ▸ Packer.settle_joins ⟨h.imp_right hripe.2, hq⟩
  refine ⟨fun h hr => ?_, fun h hq => ?_, fun h hr hq => ?_, fun h hq hmoved => ?_, joined⟩
  · exact Packer.settle_open h (Bool.eq_false_iff.2 (mt hripe.1 hr))
  · exact (Packer.settle_full hq).trans (Packer.testReady_keeps (.inl h))
  · exact (Packer.settle_full hq).trans (Packer.testReady_ripe h (hripe.2 hr))
  · refine (joined h hq).trans (Packer.settle_open rfl (Bool.eq_false_iff.2 fun hn => ?_))
    obtain ⟨hne, hwhy⟩ := next.becomesReady_iff.1 hn
    obtain hnil | ⟨hshort, hhold, hon⟩ := hmoved
    · exact hne hnil
    · obtain hmost | hzero | hoff := hwhy
      · exact Nat.not_lt.2 hmost hshort
      · exact hhold hzero
      · exact Bool.false_ne_true (hoff.symm.trans hon)

/-! ### Notices (R187) -/

theorem noticesQueueUpToSixteen : Claims.NoticesQueueUpToSixteen := fun _ _ => rfl

/-- Settles O7: the arbiter's choice by what waits, one packet's step of the settling (`Packer.settle_joins`), and the queue of
notices. -/
theorem noticesQueueAndFramesAreSentInOrder : Obligations.NoticesQueueAndFramesAreSentInOrder :=
  ⟨transmitOrder, packetsBecomeReadyAndJoinTheQueue, noticesQueueUpToSixteen⟩

end Sys2Proof.Machine
end

section
/-! The silence flag, and VOLUME_SET and MIX_SET (R114 to R117, R123, R124; log 56). -/

namespace Sys2Proof.Machine

/-! ### The silence conditions (R116) -/

/-- R120: in LEVEL the mute is the line's. -/
theorem State.muteActive_level {s : State} (h : s.mixer.muteMode = .level) : s.muteActive = s.pins.mute := by
  simp [State.muteActive, h]

/-- R120: in LATCH the mute is the latch's. -/
theorem State.muteActive_latch {s : State} (h : s.mixer.muteMode = .latch) : s.muteActive = s.mixer.latched := by
  simp [State.muteActive, h]

theorem State.silenceCondition_iff (s : State) :
    s.silenceCondition = true ↔
      s.mixer.plug ≠ .seated ∨ s.muteActive = true ∨ s.mixer.settings.source = .silence ∨ s.link.ready = false := by
  simp [State.silenceCondition, or_assoc]

theorem State.followSilence_begins {s : State} (hc : s.silenceCondition = true) (hf : s.mixer.silenceFlag = false) :
    s.followSilence = { s with mixer := { s.mixer with silenceFlag := true, silentOut := true, ramp := .none } } := by
  simp [State.followSilence, hc, hf]

theorem State.followSilence_stands {s : State} (hc : s.silenceCondition = true) (hf : s.mixer.silenceFlag = true) :
    s.followSilence = s := by
  simp [State.followSilence, hc, hf]

theorem State.followSilence_ends {s : State} (hc : s.silenceCondition = false) :
    s.followSilence = { s with mixer := { s.mixer with silenceFlag := false } } := by
  simp [State.followSilence, hc]

theorem theSilenceFlagFollowsTheConditions : Claims.TheSilenceFlagFollowsTheConditions := by
  intro s muted quiet
  have hmuted : s.muteActive = true ↔ muted := by
    cases hm : s.mixer.muteMode with
    | level => simp only [muted, State.muteActive_level hm, hm]
    | latch => simp only [muted, State.muteActive_latch hm, hm]
  have hquiet : s.silenceCondition = true ↔ quiet := by rw [State.silenceCondition_iff, hmuted]
  exact ⟨fun hq => State.followSilence_stands (hquiet.2 hq), fun hq => State.followSilence_begins (hquiet.2 hq),
    fun hq => State.followSilence_ends (Bool.eq_false_iff.2 (mt hquiet.1 hq))⟩

/-! ### Following the conditions and the link -/

/-- Whether the output is silent does not depend on the request queue. -/
theorem State.followSilence_withRequests (rest : List Frame) (s : State) :
    (s.withRequests rest).followSilence = s.followSilence.withRequests rest := by
  change (if s.silenceCondition then _ else _) = State.withRequests rest (if s.silenceCondition then _ else _)
  split
  · change (if s.mixer.silenceFlag then _ else _) = State.withRequests rest (if s.mixer.silenceFlag then _ else _)
    split <;> rfl
  · rfl

theorem State.followSilence_taking {s : State} (h : s.link.taking) : s.followSilence.link.taking := by
  rw [State.followSilence_eq]
  exact h

/-! ### VOLUME_SET and MIX_SET (R114) -/

theorem gainSettingsAreTaken : Claims.GainSettingsAreTaken := by
  intro s t f rest m a b x c u refused set
  have sets {q : Request} {run : State → State × Status} (g : GainPath) (h : s.offers q f rest)
      (e : run (u.withRequests rest) = ((u.withRequests rest).setGainPath g, .ok)) :
      .next (s.takeRequest q t (plainly run)) = set g :=
    plainly_answers h (e.trans (Prod.ext (State.followSilence_withRequests rest { u with mixer := _ }) rfl))
      (State.followSilence_taking (State.offers_taking t h))
  have refuses {q : Request} {run : State → State × Status} (h : s.offers q f rest)
      (e : run (u.withRequests rest) = (u.withRequests rest, .badArgument)) :
      .next (s.takeRequest q t (plainly run)) = refused :=
    plainly_answers h e (State.offers_taking t h)
  refine ⟨fun h => ?_, fun h => ?_, fun y h => refuses h rfl, fun y h => refuses h (by cases y <;> rfl)⟩
  · change _ = if masterOk m = true then _ else _
    split
    next hm => exact sets _ h (if_pos hm)
    next hm => exact refuses h (if_neg hm)
  · have htrims : (trimOk a && trimOk b) = true ↔ a ≤ 60 ∧ b ≤ 60 := by simp [trimOk]
    split
    next hab => exact sets _ h (if_pos (htrims.2 hab))
    next hab => exact refuses h (if_neg (mt htrims.1 hab))

/-- Settles O34: the flag by its conditions (`State.silenceCondition_iff`), and the settings by their ranges. -/
theorem gainSettingsAndTheSilenceFlag : Obligations.GainSettingsAndTheSilenceFlag :=
  ⟨theSilenceFlagFollowsTheConditions, gainSettingsAreTaken⟩

end Sys2Proof.Machine
end

section
/-! HP_CONFIG, UNMUTE, the plug detect line with its timer, and the mute line (R116, R118 to R121). -/

namespace Sys2Proof.Machine

/-! ### The MUTE notice (R120) -/

theorem State.muteFollows_eq {s : State} {mode : MuteMode} {now : Bool} (hmode : s.mixer.muteMode = mode)
    (hnow : s.muteActive = now) (was : Bool) :
    s.muteFollows was = if now = was then s else s.notify (.mute now mode s.pins.mute s.mixer.latched) := by
  subst hmode hnow
  rfl

theorem State.muteFollows_withRequests (rest : List Frame) (was : Bool) (s : State) :
    (s.withRequests rest).muteFollows was = (s.muteFollows was).withRequests rest := by
  change (if s.muteActive = was then _ else _) = State.withRequests rest (if s.muteActive = was then _ else _)
  split
  · rfl
  · exact State.withRequests_notify rest _ s

theorem State.muteFollows_taking {s : State} (was : Bool) (h : s.link.taking) : (s.muteFollows was).link.taking := by
  unfold State.muteFollows
  split
  · exact h
  · exact State.notify_taking _ h

/-! ### The plug detection and the mute mode (R119, R120) -/

/-- R119: the plug detection enable changes the plug monitor, and its notice the link and the counters. -/
theorem State.setPlugDetect_frame (on : Bool) (s : State) :
    ∃ ns x d p n, s.setPlugDetect on = { s with
      link := { s.link with notices := ns }, stats := x
      mixer := { s.mixer with plugDetect := d, plug := p, plugTimer := n } } := by
  unfold State.setPlugDetect
  split
  · exact ⟨s.link.notices, s.stats, s.mixer.plugDetect, s.mixer.plug, s.mixer.plugTimer, rfl⟩
  · split
    · exact ⟨s.link.notices, s.stats, _, _, _, rfl⟩
    · simp only
      split
      · exact ⟨s.link.notices, s.stats, _, _, _, rfl⟩
      · obtain ⟨ns, x, h⟩ := State.notify_frame _ _
        exact ⟨ns, x, _, _, _, h⟩

theorem State.setPlugDetect_withRequests (rest : List Frame) (on : Bool) (s : State) :
    (s.withRequests rest).setPlugDetect on = (s.setPlugDetect on).withRequests rest := by
  have hm : (s.withRequests rest).mixer = s.mixer := rfl
  simp only [State.setPlugDetect, hm]
  split
  · rfl
  · split
    · rfl
    · split
      · rfl
      · exact State.withRequests_notify rest _ { s with mixer := _ }

theorem State.setPlugDetect_muteMode (on : Bool) (s : State) : (s.setPlugDetect on).mixer.muteMode = s.mixer.muteMode := by
  obtain ⟨ns, x, d, p, n, h⟩ := s.setPlugDetect_frame on
  rw [h]

theorem State.setPlugDetect_pins (on : Bool) (s : State) : (s.setPlugDetect on).pins = s.pins := by
  obtain ⟨ns, x, d, p, n, h⟩ := s.setPlugDetect_frame on
  rw [h]

theorem State.setPlugDetect_muteActive (on : Bool) (s : State) : (s.setPlugDetect on).muteActive = s.muteActive := by
  obtain ⟨ns, x, d, p, n, h⟩ := s.setPlugDetect_frame on
  rw [h]
  rfl

theorem State.setPlugDetect_taking {s : State} (on : Bool) (h : s.link.taking) : (s.setPlugDetect on).link.taking := by
  obtain ⟨ns, x, d, p, n, hs⟩ := s.setPlugDetect_frame on
  rw [hs]
  exact h

/-- R120: on a change of mode the mute becomes what the line says, in LATCH through the latch. -/
theorem State.setMuteMode_eq (mode : MuteMode) (s : State) :
    s.setMuteMode mode =
      if s.mixer.muteMode = mode then s
      else
        let latched := decide (mode = .latch) && s.pins.mute
        let v : State := { s with mixer := { s.mixer with muteMode := mode, latched } }
        if s.pins.mute = s.muteActive then v else v.notify (.mute s.pins.mute mode s.pins.mute latched) := by
  unfold State.setMuteMode
  split
  · rfl
  · refine State.muteFollows_eq rfl ?_ _
    cases mode with
    | level => exact State.muteActive_level rfl
    | latch => exact State.muteActive_latch rfl

theorem State.setMuteMode_withRequests (rest : List Frame) (mode : MuteMode) (s : State) :
    (s.withRequests rest).setMuteMode mode = (s.setMuteMode mode).withRequests rest := by
  have hm : (s.withRequests rest).mixer = s.mixer := rfl
  simp only [State.setMuteMode, hm]
  split
  · rfl
  · exact State.muteFollows_withRequests rest s.muteActive { s with mixer := _ }

theorem State.setMuteMode_taking {s : State} (mode : MuteMode) (h : s.link.taking) : (s.setMuteMode mode).link.taking := by
  unfold State.setMuteMode
  split
  · exact h
  · exact State.muteFollows_taking _ h

/-! ### HP_CONFIG (R121) -/

theorem State.setHeadphones_withRequests (rest : List Frame) (n : Nat) (p : Bool) (m : MuteMode) (s : State) :
    (s.withRequests rest).setHeadphones n p m = (s.setHeadphones n p m).withRequests rest := by
  have hplug := State.setPlugDetect_withRequests rest p { s with mixer := { s.mixer with width := n } }
  unfold State.setHeadphones
  rw [← State.followSilence_withRequests, ← State.setMuteMode_withRequests, ← hplug]
  rfl

theorem State.setHeadphones_taking {s : State} (n : Nat) (p : Bool) (m : MuteMode) (h : s.link.taking) :
    (s.setHeadphones n p m).link.taking :=
  State.followSilence_taking (State.setMuteMode_taking m
    (State.setPlugDetect_taking (s := { s with mixer := { s.mixer with width := n } }) p h))

theorem widthOk_iff (n : Nat) : widthOk n = true ↔ n = 24 ∨ n = 16 := by simp [widthOk]

theorem headphoneSettingsAreTaken : Claims.HeadphoneSettingsAreTaken := by
  intro s t f rest n p m h u refused wide plugged latched was muted
  have hl : u.link.taking := State.offers_taking t h
  have hmuted : u.setHeadphones n p m = muted.followSilence := by
    have hmode : plugged.mixer.muteMode = s.mixer.muteMode := State.setPlugDetect_muteMode p { u with mixer := wide }
    have hline : plugged.pins.mute = s.pins.mute :=
      congrArg Pins.mute (State.setPlugDetect_pins p { u with mixer := wide })
    have hwas : plugged.muteActive = was := State.setPlugDetect_muteActive p { u with mixer := wide }
    have hset := plugged.setMuteMode_eq m
    rw [hmode, hline, hwas] at hset
    exact congrArg State.followSilence hset
  refine ⟨fun x y h24 h16 => plainly_answers h ?_ hl, fun y => plainly_answers h rfl hl,
    fun x => plainly_answers h (by cases x <;> rfl) hl, fun hn => ?_⟩
  · have hwidth : ¬widthOk n = true := mt (widthOk_iff n).1 (not_or.2 ⟨h24, h16⟩)
    cases x with
    | none => rfl
    | some x =>
      cases y with
      | none => rfl
      | some y => exact if_neg hwidth
  · rw [← hmuted]
    refine plainly_answers h ((if_pos ((widthOk_iff n).2 hn)).trans ?_) (State.setHeadphones_taking n p m hl)
    rw [State.setHeadphones_withRequests]

/-! ### UNMUTE (R121) -/

theorem State.unmute_level {s : State} (h : s.mixer.muteMode = .level) : s.unmute = (s, .refusedState) := by
  simp [State.unmute, h]

theorem State.unmute_asserted {s : State} (h : s.mixer.muteMode = .latch) (hline : s.pins.mute = true) :
    s.unmute = (s, .busy) := by
  simp [State.unmute, h, hline]

/-- R121: the latch is cleared, which ends the mute if it was set. -/
theorem State.unmute_deasserted {s : State} (h : s.mixer.muteMode = .latch) (hline : s.pins.mute = false) :
    s.unmute =
      let v : State := { s with mixer := { s.mixer with latched := false } }
      ((if s.mixer.latched = false then v else v.notify (.mute false .latch false false)).followSilence, .ok) := by
  have hfollows := State.muteFollows_eq (s := { s with mixer := { s.mixer with latched := false } }) h
    (State.muteActive_latch h) s.mixer.latched
  simp only [h, hline, eq_comm (a := false)] at hfollows
  simp only [State.unmute, h, hline, State.muteActive_latch h]
  exact congrArg (fun v : State => (v.followSilence, Status.ok)) hfollows

theorem State.unmute_blind : queueBlind State.unmute := by
  intro rest s
  have hr : (s.withRequests rest).mixer = s.mixer := rfl
  have hp : (s.withRequests rest).pins = s.pins := rfl
  cases hmode : s.mixer.muteMode with
  | level => rw [State.unmute_level hmode, State.unmute_level (s := s.withRequests rest) hmode]
  | latch =>
    cases hline : s.pins.mute with
    | true => rw [State.unmute_asserted hmode hline, State.unmute_asserted (s := s.withRequests rest) hmode hline]
    | false =>
      simp only [State.unmute, hmode, hline, hr, hp]
      rw [← State.followSilence_withRequests, ← State.muteFollows_withRequests]
      rfl

/-- R116: an exact silence flag already follows its conditions. -/
theorem State.followSilence_of_exact {s : State} (h : s.silenceExact) : s.followSilence = s := by
  obtain ⟨hflag, _⟩ := h
  cases hc : s.silenceCondition with
  | true => exact State.followSilence_stands hc (hflag.trans hc)
  | false =>
    rw [State.followSilence_ends hc, ← hc, ← hflag]

theorem unmuteIsSettledByModeAndLine : Claims.UnmuteIsSettledByModeAndLine := by
  intro s t f rest h hexact u
  have hl : u.link.taking := State.offers_taking t h
  have hu : u.silenceExact := State.silenceExact_of_silencing (b := s) rfl hexact
  have answers {v : State} {x : Status} (e : u.unmute = (v, x)) (l : v.link.taking) :
      exec (.unmute t) s = .next (v.answering f rest x .nothing) := State.unmute_blind.answers h e l
  refine ⟨fun hmode => answers (State.unmute_level hmode) hl,
    fun hmode hline => answers (State.unmute_asserted hmode hline) hl,
    fun hmode hline hlatched => answers ?_ ?_, fun hmode hline hlatched => answers ?_ hl⟩
  · have hset : u.mixer.latched ≠ false := by
      change s.mixer.latched ≠ false
      rw [hlatched]
      decide
    rw [State.unmute_deasserted (s := u) hmode hline]
    simp only [if_neg hset]
  · exact State.followSilence_taking (State.notify_taking _ hl)
  · have hclear : ({ u with mixer := { u.mixer with latched := false } } : State) = u := by
      rw [← hlatched]
      rfl
    rw [State.unmute_deasserted (s := u) hmode hline]
    simp only [hclear]
    rw [if_pos (show u.mixer.latched = false from hlatched), State.followSilence_of_exact hu]

/-! ### The plug detect line (R118) -/

theorem exec_plugDetectChange (t : Time) (a : Bool) (s : State) :
    exec (.plugDetectChange t a) s = .next ((s.upTo t).plugLine a).arbitrate := rfl

theorem exec_plugSettleTimer (t : Time) (s : State) :
    exec (.plugSettleTimer t) s =
      .next (if (s.upTo t).mixer.plugTimer.due then (s.upTo t).plugSettled else s.upTo t).arbitrate := rfl

theorem State.plugLine_same {s : State} {a : Bool} (h : s.pins.plug = a) : s.plugLine a = s := if_pos h

theorem State.plugLine_detected {s : State} {a : Bool} (h : s.pins.plug ≠ a) (hon : s.mixer.plugDetect = true) :
    s.plugLine a = ({ s with
      pins := { s.pins with plug := a }
      mixer := { s.mixer with plug := .settling, plugTimer := some 50000 } } : State).followSilence := by
  rw [State.plugLine, if_neg h]
  exact if_pos hon

theorem State.plugLine_undetected {s : State} {a : Bool} (h : s.pins.plug ≠ a) (hoff : s.mixer.plugDetect = false) :
    s.plugLine a = { s with pins := { s.pins with plug := a } } := by
  rw [State.plugLine, if_neg h]
  exact if_neg (by simp [hoff])

/-- A timer with time left is not due. -/
theorem Timer.after_notDue {x : Timer} {n dt : Nat} (h : x = some n) (hn : dt < n) : (Timer.after dt x).due = false := by
  subst h
  simp [Timer.after, Timer.due, Nat.sub_eq_zero_iff_le, hn]

/-! ### The mute line (R120) -/

theorem exec_muteLineChange (t : Time) (a : Bool) (s : State) :
    exec (.muteLineChange t a) s = .next ((s.upTo t).muteLine a).arbitrate := rfl

theorem State.muteLine_same {s : State} {a : Bool} (h : s.pins.mute = a) : s.muteLine a = s := if_pos h

theorem State.muteLine_level {s : State} {a : Bool} (h : s.pins.mute ≠ a) (hmode : s.mixer.muteMode = .level) :
    s.muteLine a =
      (({ s with pins := { s.pins with mute := a } } : State).notify (.mute a .level a s.mixer.latched)).followSilence := by
  have hlatched : (s.mixer.latched || (a && s.mixer.muteMode == .latch)) = s.mixer.latched := by simp [hmode]
  have hfollows := State.muteFollows_eq (s := { s with pins := { s.pins with mute := a } }) hmode
    (State.muteActive_level hmode) s.muteActive
  rw [State.muteActive_level hmode, if_neg (Ne.symm h)] at hfollows
  rw [State.muteLine, if_neg h]
  simp only [hlatched, State.muteActive_level hmode]
  exact congrArg State.followSilence hfollows

/-- R120: in LATCH an assertion sets the latch, and a deassertion leaves it. -/
theorem State.muteLine_latch {s : State} {a : Bool} (h : s.pins.mute ≠ a) (hmode : s.mixer.muteMode = .latch) :
    s.muteLine a =
      let v : State := { s with pins := { s.pins with mute := a }, mixer := { s.mixer with latched := s.mixer.latched || a } }
      (if (s.mixer.latched || a) = s.mixer.latched then v
        else v.notify (.mute (s.mixer.latched || a) .latch a (s.mixer.latched || a))).followSilence := by
  have hlatched : (s.mixer.latched || (a && s.mixer.muteMode == .latch)) = (s.mixer.latched || a) := by simp [hmode]
  rw [State.muteLine, if_neg h]
  simp only [hlatched, State.muteActive_latch hmode]
  exact congrArg State.followSilence (State.muteFollows_eq (s := { s with
    pins := { s.pins with mute := a }, mixer := { s.mixer with latched := s.mixer.latched || a } }) hmode
    (State.muteActive_latch hmode) s.mixer.latched)

/-- R120: a latched mute goes on, whatever the line does. -/
theorem State.muteLine_kept {s : State} {a : Bool} (h : s.pins.mute ≠ a) (hmode : s.mixer.muteMode = .latch)
    (hkept : (s.mixer.latched || a) = s.mixer.latched) :
    s.muteLine a = ({ s with pins := { s.pins with mute := a } } : State).followSilence := by
  rw [State.muteLine_latch h hmode]
  simp only [hkept, if_pos]

theorem State.muteLine_latches {s : State} (h : s.pins.mute = false) (hmode : s.mixer.muteMode = .latch)
    (hlatched : s.mixer.latched = false) :
    s.muteLine true =
      (({ s with pins := { s.pins with mute := true }, mixer := { s.mixer with latched := true } } : State).notify
        (.mute true .latch true true)).followSilence := by
  rw [State.muteLine_latch (by simp [h]) hmode]
  simp [hlatched]

theorem plugAndMuteLinesAreFollowed : Claims.PlugAndMuteLinesAreFollowed := by
  intro s t a u plugged line
  refine ⟨fun h hon => ?_, fun h hoff => ?_, fun n htimer hn => ?_, fun h hmode => ?_, fun h ha hmode hlatched => ?_,
    fun h ha hmode hlatched => ?_, fun h ha hmode => ?_, fun h => ?_, fun h => ?_, fun n htimer hn => ?_⟩
  · rw [exec_plugDetectChange, State.plugLine_detected (s := u) h hon]
    rfl
  · rw [exec_plugDetectChange, State.plugLine_undetected (s := u) h hoff]
    rfl
  · have hdue : u.mixer.plugTimer.due = true := Timer.after_due htimer hn
    rw [exec_plugSettleTimer, if_pos hdue]
    rfl
  · rw [exec_muteLineChange, State.muteLine_level (s := u) h hmode]
    rfl
  · subst ha
    rw [exec_muteLineChange, State.muteLine_latches (s := u) h hmode hlatched]
    rfl
  · subst ha
    have hkept : (u.mixer.latched || true) = u.mixer.latched := (Bool.or_true _).trans hlatched.symm
    rw [exec_muteLineChange, State.muteLine_kept (s := u) (by simp [u, h]) hmode hkept]
    rfl
  · subst ha
    rw [exec_muteLineChange, State.muteLine_kept (s := u) (by simp [u, h]) hmode (Bool.or_false _)]
    rfl
  · rw [exec_plugDetectChange, State.plugLine_same (s := u) h]
  · rw [exec_muteLineChange, State.muteLine_same (s := u) h]
  · have hdue : u.mixer.plugTimer.due = false := Timer.after_notDue htimer hn
    rw [exec_plugSettleTimer, hdue]
    rfl

/-- Settles O35: HP_CONFIG by its three settings, UNMUTE by mode and line, and each line by what it moves. -/
theorem headphonePlugAndMute : Obligations.HeadphonePlugAndMute :=
  ⟨headphoneSettingsAreTaken, unmuteIsSettledByModeAndLine, plugAndMuteLinesAreFollowed⟩

end Sys2Proof.Machine
end

section
/-! What the Stream Packer holds, and how it fills, empties and is set (R156 to R159). -/

namespace Sys2Proof.Machine

/-! ### The number of events held (R156) -/

theorem Packer.held_eq (p : Packer) :
    p.held = (p.queue.map List.length).sum + p.openPacket.length + p.backlog.length := rfl

@[simp] theorem Packer.testReady_held (p : Packer) : p.testReady.held = p.held := by
  unfold Packer.testReady
  split <;> rfl

/-- R158: the open packet moves to the queue, and what follows it comes from the backlog. -/
@[simp] theorem Packer.join_held (p : Packer) : p.join.held = p.held := by
  have hmoved : (p.backlog.take p.maximum).length + (p.backlog.drop p.maximum).length = p.backlog.length := by
    rw [← List.length_append, List.take_append_drop]
  have hqueue : (p.join.queue.map List.length).sum = (p.queue.map List.length).sum + p.openPacket.length := by
    simp [Packer.join]
  rw [Packer.held_eq, Packer.held_eq, hqueue, Nat.add_assoc]
  exact congrArg _ hmoved

@[simp] theorem Packer.settleFor_held (n : Nat) (p : Packer) : (p.settleFor n).held = p.held := by
  induction n generalizing p with
  | zero => rfl
  | succ n ih =>
    by_cases hj : p.joins
    · rw [Packer.settleFor_joins hj, ih, Packer.join_held]
    · rw [Packer.settleFor_stays hj, Packer.testReady_held]

@[simp] theorem Packer.settle_held (p : Packer) : p.settle.held = p.held := p.settleFor_held 9

/-! ### A live event (R156) -/

theorem Packer.maximum_eq (p : Packer) : p.maximum = if p.mode = .single then 1 else p.perPacket := rfl

theorem Packer.startHold_eq (p : Packer) :
    p.startHold = if p.mode = .packed ∧ p.hold ≠ 0 then some (p.hold * 1000) else none := by
  unfold Packer.startHold Timer.ofMs
  split_ifs <;> simp_all

/-- The open packet with one event more. -/
def Packer.extended (e : LiveEvent) (p : Packer) : Packer :=
  { p with
    openPacket := p.openPacket ++ [e]
    timer := if p.openPacket.isEmpty then p.startHold else p.timer }

theorem Packer.accept_backlog {p : Packer} (h : p.backlog ≠ [] ∨ p.maximum ≤ p.openPacket.length) (e : LiveEvent) :
    p.accept e = { p with backlog := p.backlog ++ [e] } :=
  if_pos (by simpa using h)

theorem Packer.accept_open {p : Packer} (h : p.backlog = []) (h' : p.openPacket.length < p.maximum) (e : LiveEvent) :
    p.accept e = (p.extended e).settle :=
  if_neg (by simp [h, h'])

theorem Packer.accept_held (e : LiveEvent) (p : Packer) : (p.accept e).held = p.held + 1 := by
  by_cases h : p.backlog ≠ [] ∨ p.maximum ≤ p.openPacket.length
  · rw [Packer.accept_backlog h]
    simp only [Packer.held_eq, List.length_append, List.length_singleton]
    omega
  · obtain ⟨hnil, hroom⟩ := not_or.1 h
    rw [Packer.accept_open (not_not.1 hnil) (Nat.lt_of_not_le hroom), Packer.settle_held]
    simp only [Packer.held_eq, Packer.extended, List.length_append, List.length_singleton]
    omega

theorem State.streamEvent_full {s : State} (h : 256 ≤ s.packer.held) (e : LiveEvent) :
    s.streamEvent e =
      ({ s with packer := { s.packer with gap := min 65535 (s.packer.gap + 1) } } : State).tally .streamDrops :=
  if_pos h

theorem State.streamEvent_room {s : State} (h : s.packer.held < 256) (e : LiveEvent) :
    s.streamEvent e = { s with packer := s.packer.accept e } :=
  if_neg (Nat.not_le.2 h)

theorem aFullStreamBufferDropsEvents : Claims.AFullStreamBufferDropsEvents := by
  intro s e
  refine ⟨fun hfull => State.streamEvent_full hfull e, fun hroom => ?_⟩
  rw [State.streamEvent_room hroom]
  exact ⟨s.packer.accept_held e, rfl⟩

theorem eventsJoinTheOpenPacketOrTheBacklog : Claims.EventsJoinTheOpenPacketOrTheBacklog := by
  intro s e hroom p most
  refine ⟨fun h => ?_, fun hnil hmost => ?_⟩
  · rw [State.streamEvent_room hroom, Packer.accept_backlog h]
  · rw [State.streamEvent_room hroom, Packer.accept_open hnil hmost, Packer.extended, Packer.startHold_eq]
    simp only [List.isEmpty_iff, ite_not, p]

/-! ### An open packet joins the queue (R157 to R159) -/

/-- R158: with nothing in the backlog, the open packet that joins the queue leaves an empty one, which stays open. -/
theorem Packer.settle_sends {p : Packer} (h : p.joins) (hnil : p.backlog = []) :
    p.settle = { p with queue := p.queue ++ [p.openPacket], openPacket := [], ready := false, timer := none } := by
  have hjoin : p.join = { p with queue := p.queue ++ [p.openPacket], openPacket := [], ready := false, timer := none } := by
    simp [Packer.join, hnil]
  rw [Packer.settle_joins h, hjoin]
  exact Packer.settle_open rfl rfl

theorem Packer.holdExpires_eq {p : Packer} (h : p.openPacket ≠ []) :
    p.holdExpires = ({ p with ready := true, timer := none } : Packer).settle := by
  have hready : (p.ready || !p.openPacket.isEmpty) = true := by simp [h]
  rw [Packer.holdExpires, hready]

theorem exec_streamHoldTimer {s : State} {n : Nat} (t : Time) (h : s.packer.timer = some n) (hn : n ≤ (t - s.clock).toNat) :
    exec (.streamHoldTimer t) s =
      .next (State.arbitrate { s.upTo t with packer := (s.upTo t).packer.holdExpires }) := by
  have hdue : (s.upTo t).packer.timer.due = true := Timer.after_due h hn
  change Host.Outcome.next (State.arbitrate (if (s.upTo t).packer.timer.due = true then _ else _)) = _
  rw [if_pos hdue]

theorem theHoldTimerSendsThePacketOn : Claims.TheHoldTimerSendsThePacketOn := by
  intro s t n htimer hn hopen u runs ready
  have hruns : runs ready.settle := by
    have hopen' : u.packer.openPacket ≠ [] := hopen
    change exec (.streamHoldTimer t) s = .next (State.arbitrate { u with packer := ready.settle })
    rw [exec_streamHoldTimer t htimer hn, Packer.holdExpires_eq hopen']
  refine ⟨hruns, fun hnil hplace => ?_, fun hfull => ?_⟩
  · have hsends := Packer.settle_sends (p := ready) ⟨.inl rfl, hplace⟩ hnil
    exact hsends ▸ hruns
  · have hstays : ready.settle = ready :=
      (Packer.settle_full (p := ready) hfull).trans (Packer.testReady_keeps (p := ready) (.inl rfl))
    exact hstays ▸ hruns

/-! ### The enable and STREAM_CONFIG (R159) -/

theorem Packer.setEnabled_same {p : Packer} {x : Bool} (h : p.enabled = x) : p.setEnabled x = p := if_pos h

theorem Packer.setEnabled_change {p : Packer} {x : Bool} (h : p.enabled ≠ x) :
    p.setEnabled x = ({ p with enabled := x } : Packer).settle := if_neg h

/-- R157: a DISABLED packer's open packet that holds an event becomes ready. -/
theorem Packer.becomesReady_disabled {p : Packer} (h : p.enabled = false) (hopen : p.openPacket ≠ []) : p.becomesReady = true :=
  p.becomesReady_iff.2 ⟨hopen, .inr (.inr h)⟩

theorem Packer.becomesReady_empty {p : Packer} (h : p.openPacket = []) : p.becomesReady = false :=
  Bool.eq_false_iff.2 fun hr => (p.becomesReady_iff.1 hr).1 h

theorem theEnableSettlesTheOpenPacket : Claims.TheEnableSettlesTheOpenPacket := by
  intro p
  refine ⟨fun x => Packer.setEnabled_same, fun x => Packer.setEnabled_change, fun hon hopen hfull hready => ?_,
    fun hon hopen hplace hnil => ?_, fun x hopen hready => ?_⟩
  · have hripe := Packer.becomesReady_disabled (p := { p with enabled := false }) rfl hopen
    rw [Packer.setEnabled_change (by simp [hon])]
    exact (Packer.settle_full (p := { p with enabled := false }) hfull).trans
      (Packer.testReady_ripe (p := { p with enabled := false }) hready hripe)
  · have hripe := Packer.becomesReady_disabled (p := { p with enabled := false }) rfl hopen
    rw [Packer.setEnabled_change (by simp [hon])]
    exact Packer.settle_sends ⟨.inr hripe, hplace⟩ hnil
  · by_cases hx : p.enabled = x
    · rw [Packer.setEnabled_same hx, ← hx]
    · rw [Packer.setEnabled_change hx]
      exact Packer.settle_open hready (Packer.becomesReady_empty hopen)

theorem packOk_eq_false_iff (n h : Nat) : packOk n h = false ↔ n = 0 ∨ 28 < n ∨ 50 < h := by
  simp only [packOk, inRange, Bool.and_eq_false_iff, decide_eq_false_iff_not]
  omega

theorem Packer.configure_refused {n h : Nat} (hbad : n = 0 ∨ 28 < n ∨ 50 < h) (m : PackMode) (p : Packer) :
    p.configure m n h = (p, .badArgument) := by
  rw [Packer.configure, (packOk_eq_false_iff n h).2 hbad]
  rfl

theorem Packer.configure_ok {n h : Nat} (hok : ¬(n = 0 ∨ 28 < n ∨ 50 < h)) (m : PackMode) (p : Packer) :
    p.configure m n h =
      if p.held ≠ 0 then (p, .busy) else ({ p with mode := m, perPacket := n, hold := h }, .ok) := by
  have hpack : packOk n h = true := Bool.of_not_eq_false (mt (packOk_eq_false_iff n h).1 hok)
  rw [Packer.configure, hpack]
  rfl

theorem streamConfigNeedsAnEmptyBuffer : Claims.StreamConfigNeedsAnEmptyBuffer := by
  intro s t f rest m n h hoffers u answer
  have taking := State.offers_taking t hoffers
  have configures {p : Packer} {y : Status} (hp : u.packer.configure m n h = (p, y)) :
      exec (.streamConfig t (some m) n h) s = answer { u with packer := p } y := by
    refine plainly_answers hoffers ?_ taking
    change (({ u.withRequests rest with packer := (u.packer.configure m n h).1 } : State), (u.packer.configure m n h).2) = _
    rw [hp]
    rfl
  refine ⟨plainly_answers hoffers rfl taking, ?_⟩
  by_cases hbad : n = 0 ∨ 28 < n ∨ 50 < h
  · rw [if_pos hbad]
    exact configures (Packer.configure_refused hbad m _)
  · rw [if_neg hbad]
    by_cases hbusy : s.packer.held ≠ 0
    · rw [if_pos hbusy]
      exact configures ((Packer.configure_ok hbad m _).trans (if_pos hbusy))
    · rw [if_neg hbusy]
      exact configures ((Packer.configure_ok hbad m _).trans (if_neg hbusy))

/-- Settles O25: an event that is taken joins the backlog or the open packet, and whatever makes the open packet ready settles
it: it joins a queue that has a place (`Packer.settle_sends`), or it is ready and stays. -/
theorem streamPacking : Obligations.StreamPacking :=
  ⟨aFullStreamBufferDropsEvents, eventsJoinTheOpenPacketOrTheBacklog, theHoldTimerSendsThePacketOn,
    theEnableSettlesTheOpenPacket, streamConfigNeedsAnEmptyBuffer⟩

end Sys2Proof.Machine
end

section
/-! What the canonical memories, the bounded queues and the table of kinds are measured against, and the operations of the
voices, the rail, the output and the link that keep it (R156, R158, R174, R175, R185, R187). -/

namespace Sys2Proof.Machine

/-! ### The bounds of the packer (R156, R158) -/

/-- R156, R158: at most 8 packets queued and 256 events held. -/
def Packer.bounded (p : Packer) : Prop := p.queue.length ≤ 8 ∧ p.held ≤ 256

/-- R158: a packet joins the queue only where it has a place. -/
theorem Packer.settleFor_queue_le (n : Nat) {p : Packer} (h : p.queue.length ≤ 8) : (p.settleFor n).queue.length ≤ 8 := by
  induction n generalizing p with
  | zero => exact h
  | succ n ih =>
    by_cases hj : p.joins
    · rw [Packer.settleFor_joins hj]
      exact ih (p.join_queue_length ▸ hj.2)
    · rw [Packer.settleFor_stays hj, Packer.testReady_queue]
      exact h

theorem Packer.settle_bounded {p : Packer} (h : p.bounded) : p.settle.bounded :=
  ⟨Packer.settleFor_queue_le 9 h.1, p.settle_held.symm ▸ h.2⟩

theorem Packer.accept_bounded {p : Packer} (h : p.bounded) (hroom : p.held < 256) (e : LiveEvent) : (p.accept e).bounded := by
  refine ⟨?_, p.accept_held e ▸ hroom⟩
  by_cases hb : p.backlog ≠ [] ∨ p.maximum ≤ p.openPacket.length
  · rw [Packer.accept_backlog hb]
    exact h.1
  · obtain ⟨hnil, hmost⟩ := not_or.1 hb
    rw [Packer.accept_open (not_not.1 hnil) (Nat.lt_of_not_le hmost)]
    exact Packer.settleFor_queue_le 9 (p := p.extended e) h.1

/-- R158: the packet at the head leaves a place. -/
theorem Packer.takeHead_bounded {p p' : Packer} {f : TxFrame} (h : p.bounded) (hp : p.takeHead = some (f, p')) : p'.bounded := by
  unfold Packer.takeHead at hp
  split at hp
  next => cases hp
  next es q hq =>
    cases hp
    obtain ⟨hqueue, hheld⟩ := h
    rw [Packer.held_eq, hq] at hheld
    rw [hq] at hqueue
    simp only [List.map_cons, List.sum_cons, List.length_cons] at hheld hqueue
    refine Packer.settle_bounded ⟨?_, ?_⟩
    · change q.length ≤ 8
      omega
    · change (q.map List.length).sum + p.openPacket.length + p.backlog.length ≤ 256
      omega

theorem Packer.setEnabled_bounded {p : Packer} (h : p.bounded) (x : Bool) : (p.setEnabled x).bounded := by
  unfold Packer.setEnabled
  split
  · exact h
  · exact Packer.settle_bounded (p := { p with enabled := x }) h

theorem Packer.configure_bounded {p : Packer} (h : p.bounded) (m : PackMode) (n k : Nat) : (p.configure m n k).1.bounded := by
  unfold Packer.configure
  split_ifs <;> exact h

theorem Packer.holdExpires_bounded {p : Packer} (h : p.bounded) : p.holdExpires.bounded :=
  Packer.settle_bounded (p := { p with timer := none, ready := p.ready || !p.openPacket.isEmpty }) h

/-! ### States that stay within the bounds of another -/

/-- What the invariants look at: the memories, the table of kinds, and what the queues and lists hold. -/
def State.holdings (s : State) : (Memory × Memory × List KindRow) × (Nat × Nat) × (Nat × Nat) × Nat × Nat :=
  ((s.store.mem, s.soundMem, s.kinds), (s.link.requests.length, s.link.notices.length),
    (s.packer.queue.length, s.packer.held), s.player.expected.length, s.player.recent.length)

/-- `s'` has the sound memory and the table of kinds of `s`, and keeps the take store's canonical form and each bound that `s`
keeps. -/
structure State.staysWithin (s' s : State) : Prop where
  soundMem : s'.soundMem = s.soundMem
  kinds : s'.kinds = s.kinds
  storeMem : s.store.mem.wf storeByte = true → s'.store.mem.wf storeByte = true
  requests : s.link.requests.length ≤ 4 → s'.link.requests.length ≤ 4
  notices : s.link.notices.length ≤ 16 → s'.link.notices.length ≤ 16
  packer : s.packer.bounded → s'.packer.bounded
  expected : s.player.expected.length ≤ 16 → s'.player.expected.length ≤ 16
  recent : s.player.recent.length ≤ 16 → s'.player.recent.length ≤ 16

theorem State.staysWithin_refl (s : State) : s.staysWithin s := ⟨rfl, rfl, id, id, id, id, id, id⟩

theorem State.staysWithin.memoriesCanonical {s' s : State} (h : s'.staysWithin s) (hs : s.memoriesCanonical) :
    s'.memoriesCanonical :=
  ⟨h.storeMem hs.1, h.soundMem ▸ hs.2⟩

theorem State.staysWithin.queuesBounded {s' s : State} (h : s'.staysWithin s) (hs : s.queuesBounded) : s'.queuesBounded := by
  obtain ⟨hrequests, hnotices, hqueue, hheld, hexpected, hrecent⟩ := hs
  obtain ⟨hqueue', hheld'⟩ := h.packer ⟨hqueue, hheld⟩
  exact ⟨h.requests hrequests, h.notices hnotices, hqueue', hheld', h.expected hexpected, h.recent hrecent⟩

theorem State.staysWithin.kindsLawful {s' s : State} (h : s'.staysWithin s) (hs : s.kindsLawful) : s'.kindsLawful := by
  unfold State.kindsLawful
  rw [h.kinds]
  exact hs

section
variable {u v s : State} (h : u.staysWithin s)
include h

/-- An update of what the invariants do not look at. -/
theorem State.staysWithin.update (e : v.holdings = u.holdings) : v.staysWithin s := by
  simp only [State.holdings, Prod.mk.injEq] at e
  obtain ⟨⟨hstore, hsound, hkinds⟩, ⟨hrequests, hnotices⟩, ⟨hqueue, hheld⟩, hexpected, hrecent⟩ := e
  exact {
    soundMem := hsound.trans h.soundMem
    kinds := hkinds.trans h.kinds
    storeMem := hstore ▸ h.storeMem
    requests := hrequests ▸ h.requests
    notices := hnotices ▸ h.notices
    packer := by
      unfold Packer.bounded
      rw [hqueue, hheld]
      exact h.packer
    expected := hexpected ▸ h.expected
    recent := hrecent ▸ h.recent }

theorem State.staysWithin.withStore {st : Store} (hm : u.store.mem.wf storeByte = true → st.mem.wf storeByte = true) :
    ({ u with store := st } : State).staysWithin s :=
  { h with storeMem := fun hs => hm (h.storeMem hs) }

theorem State.staysWithin.withPacker {p : Packer} (hp : u.packer.bounded → p.bounded) :
    ({ u with packer := p } : State).staysWithin s :=
  { h with packer := fun hs => hp (h.packer hs) }

theorem State.staysWithin.withPlayer {p : Player} (he : u.player.expected.length ≤ 16 → p.expected.length ≤ 16)
    (hr : u.player.recent.length ≤ 16 → p.recent.length ≤ 16) : ({ u with player := p } : State).staysWithin s :=
  { h with expected := fun hs => he (h.expected hs), recent := fun hs => hr (h.recent hs) }

theorem State.staysWithin.withNotices {ns : List Notice} (hn : u.link.notices.length ≤ 16 → ns.length ≤ 16) :
    ({ u with link := { u.link with notices := ns } } : State).staysWithin s :=
  { h with notices := fun hs => hn (h.notices hs) }

theorem State.staysWithin.withRequests {rs : List Frame} (hr : u.link.requests.length ≤ 4 → rs.length ≤ 4) :
    ({ u with link := { u.link with requests := rs } } : State).staysWithin s :=
  { h with requests := fun hs => hr (h.requests hs) }

theorem State.staysWithin.upTo (t : Time) : (u.upTo t).staysWithin s := h.update (by rfl)

theorem State.staysWithin.tally (c : Counter) : (u.tally c).staysWithin s := h.update (by rfl)

/-- R187: a notice joins only where it has a place. -/
theorem State.staysWithin.notify (n : Notice) : (u.notify n).staysWithin s := by
  unfold State.notify
  split
  next hplace => exact h.withNotices fun _ => by simpa using hplace
  next => exact h.tally _

theorem State.staysWithin.popRequest : u.popRequest.staysWithin s :=
  h.withRequests fun hr => Nat.le_trans (List.length_tail ▸ Nat.sub_le ..) hr

/-- A fold of operations that stay within the bounds. -/
theorem State.staysWithin.foldl {α : Type} {op : State → α → State}
    (hop : ∀ a {u : State}, u.staysWithin s → (op u a).staysWithin s) (xs : List α) : (xs.foldl op u).staysWithin s :=
  State.foldl_keeps (P := (·.staysWithin s)) hop xs h

/-! ### The rail -/

theorem State.staysWithin.enterRail (st : RailState) (why : RailReason) : (u.enterRail st why).staysWithin s := by
  unfold State.enterRail
  simp only
  split
  · exact h.update (by rfl)
  · exact (h.update (by rfl)).notify _

theorem State.staysWithin.arrive (why : RailReason) : (u.arrive why).staysWithin s := by
  unfold State.arrive
  split
  · exact h
  · exact (h.update (by rfl)).enterRail ..

theorem State.staysWithin.driveMove (why arrival : RailReason) (start : Bool) : (u.driveMove why arrival start).staysWithin s := by
  unfold State.driveMove
  split
  · exact h
  · simp only
    split
    · exact h.arrive _
    · exact (h.update (by rfl)).enterRail ..

theorem State.staysWithin.driveHome (why : RailReason) : (u.driveHome why).staysWithin s :=
  (h.update (by rfl)).enterRail ..

theorem State.staysWithin.faultRail (kind : RailFault) : (u.faultRail kind).staysWithin s := by
  unfold State.faultRail
  split
  · exact h
  · exact ((h.update (by rfl)).enterRail ..).tally _

theorem State.staysWithin.flightAdded : u.flightAdded.staysWithin s := by
  unfold State.flightAdded
  simp only
  split
  · exact (h.update (by rfl)).enterRail ..
  · exact h.update (by rfl)

theorem State.staysWithin.flightEmptied : u.flightEmptied.staysWithin s := by
  unfold State.flightEmptied
  simp only
  split
  · split
    · exact h.update (by rfl)
    · split
      · exact (h.update (by rfl)).driveHome _
      · exact (h.update (by rfl)).driveMove ..
  · exact h.update (by rfl)

theorem State.staysWithin.flightRemoved : u.flightRemoved.staysWithin s := by
  unfold State.flightRemoved
  split
  · exact h.flightEmptied
  · exact h

theorem State.staysWithin.beginHome : u.beginHome.staysWithin s := by
  unfold State.beginHome
  simp only
  split
  · exact (h.update (by rfl)).enterRail ..
  · exact (h.update (by rfl)).driveHome _

theorem State.staysWithin.autoHome : u.autoHome.staysWithin s := by
  unfold State.autoHome
  split
  · simp only
    split
    · exact (h.update (by rfl)).beginHome
    · exact h.update (by rfl)
  · exact h

theorem State.staysWithin.setUpMove (g : RailTarget) (p : Policy) : (u.setUpMove g p).staysWithin s := by
  unfold State.setUpMove
  simp only
  split
  · exact (h.update (by rfl)).enterRail ..
  · exact (h.update (by rfl)).driveMove ..

theorem State.staysWithin.replaceTarget (g : RailTarget) (p : Policy) : (u.replaceTarget g p).staysWithin s := by
  unfold State.replaceTarget
  split
  · exact h
  · simp only
    split
    · exact (h.update (by rfl)).driveMove ..
    · exact h.update (by rfl)

theorem State.staysWithin.railMove (g : RailTarget) (p : Policy) : (u.railMove g p).1.staysWithin s := by
  unfold State.railMove
  split
  case h_1 | h_2 | h_3 => exact h
  case h_4 => split <;> [exact h; exact h.replaceTarget g p]
  case h_5 => exact h.replaceTarget g p
  case h_6 | h_7 => split <;> [exact h; exact h.setUpMove g p]
  case h_8 => exact h.setUpMove g p

theorem State.staysWithin.railStop : u.railStop.1.staysWithin s := by
  unfold State.railStop
  simp only
  split
  case h_1 | h_2 | h_3 => exact (h.update (by rfl)).enterRail ..
  case h_4 => exact h

theorem State.staysWithin.railConfig (c : RailConfig) : (u.railConfig c).1.staysWithin s := by
  unfold State.railConfig
  split
  · exact h
  · split
    case h_1 | h_2 | h_3 => exact h
    case h_4 => exact h.update (by rfl)

theorem State.staysWithin.encoderStep (up : Bool) : (u.encoderStep up).staysWithin s := by
  unfold State.encoderStep
  simp only
  split
  · exact (h.update (by rfl)).driveMove ..
  · exact h.update (by rfl)

theorem State.staysWithin.encoderIllegal : u.encoderIllegal.staysWithin s := by
  unfold State.encoderIllegal
  split
  · exact h
  · exact h.faultRail _

theorem State.staysWithin.indexEdge : u.indexEdge.staysWithin s := by
  unfold State.indexEdge
  split
  · simp only
    split
    · exact (h.update (by rfl)).driveMove ..
    · split
      · exact (h.update (by rfl)).arrive _
      · exact h.update (by rfl)
    · exact h
  · exact h

theorem State.staysWithin.switchLevelSet (sw : EndSwitch) (b : Bool) : (u.switchLevelSet sw b).staysWithin s := by
  cases sw <;> exact h.update (by rfl)

theorem State.staysWithin.switchCloses (sw : EndSwitch) : (u.switchCloses sw).staysWithin s := by
  unfold State.switchCloses
  split
  · split <;> [exact h; exact h.faultRail _]
  · split
    · exact h.faultRail _
    · split <;> [exact h.faultRail _; exact h]
  · split
    · exact h
    · split <;> [exact h.faultRail _; exact h]
  · exact h

theorem State.staysWithin.switchOpens (sw : EndSwitch) : (u.switchOpens sw).staysWithin s := by
  unfold State.switchOpens
  split
  · split
    case h_1 | h_2 => exact h.update (by rfl)
    case h_3 => exact h
  · exact h

/-! ### The headphone output -/

theorem State.staysWithin.followSilence : u.followSilence.staysWithin s := by
  obtain ⟨f, o, r, he⟩ := u.followSilence_frame
  rw [he]
  exact h.update (by rfl)

theorem State.staysWithin.muteFollows (was : Bool) : (u.muteFollows was).staysWithin s := by
  unfold State.muteFollows
  split
  · exact h
  · exact h.notify _

theorem State.staysWithin.plugLine (b : Bool) : (u.plugLine b).staysWithin s := by
  unfold State.plugLine
  split
  · exact h
  · simp only
    split
    · exact (h.update (by rfl)).followSilence
    · exact h.update (by rfl)

theorem State.staysWithin.plugSettled : u.plugSettled.staysWithin s :=
  ((h.update (by rfl)).notify _).followSilence

theorem State.staysWithin.muteLine (b : Bool) : (u.muteLine b).staysWithin s := by
  unfold State.muteLine
  split
  · exact h
  · exact ((h.update (by rfl)).muteFollows _).followSilence

theorem State.staysWithin.setPlugDetect (on : Bool) : (u.setPlugDetect on).staysWithin s := by
  unfold State.setPlugDetect
  split
  · exact h
  · split
    · exact h.update (by rfl)
    · simp only
      split
      · exact h.update (by rfl)
      · exact (h.update (by rfl)).notify _

theorem State.staysWithin.setMuteMode (m : MuteMode) : (u.setMuteMode m).staysWithin s := by
  unfold State.setMuteMode
  split
  · exact h
  · exact (h.update (by rfl)).muteFollows _

theorem State.staysWithin.setHeadphones (w : Nat) (p : Bool) (m : MuteMode) : (u.setHeadphones w p m).staysWithin s :=
  (((h.update (by rfl)).setPlugDetect p).setMuteMode m).followSilence

theorem State.staysWithin.setGainPath (g : GainPath) : (u.setGainPath g).staysWithin s := (h.update (by rfl)).followSilence

theorem State.staysWithin.unmute : u.unmute.1.staysWithin s := by
  unfold State.unmute
  split
  · exact h
  · exact h
  · exact ((h.update (by rfl)).muteFollows _).followSilence

/-! ### The link (R184, R185, R188, R191) -/

theorem State.staysWithin.arbitrate : u.arbitrate.staysWithin s := by
  unfold State.arbitrate
  split
  · exact h
  · split
    · exact (h.update (by rfl)).followSilence
    · split
      · exact h
      · split
        next => exact h.update (by rfl)
        next n ns _ hns =>
          have hpopped := h.withNotices (ns := ns) fun hn => by
            rw [hns, List.length_cons] at hn
            omega
          exact hpopped.update (by rfl)
        next =>
          unfold State.beginPacket
          split
          · exact h
          next f p hp =>
            have htaken := h.withPacker (p := p) fun hb => Packer.takeHead_bounded hb hp
            exact htaken.update (by rfl)

/-- R185: a frame joins the request queue only where it has a place. -/
theorem State.staysWithin.offerFrame (f : Frame) : (u.offerFrame f).staysWithin s := by
  unfold State.offerFrame
  split
  next hplace => exact h.withRequests fun _ => by simpa using hplace
  next => exact h.tally _

theorem State.staysWithin.receive (b : RxByte) : (u.receive b).staysWithin s := by
  have ends (bs : List Byte) {u : State} (h : u.staysWithin s) : (u.endFrame bs).staysWithin s := by
    unfold State.endFrame
    split
    · exact (h.update (by rfl)).offerFrame _
    · exact h.update (by rfl)
  have grow (bs : List Byte) {u : State} (h : u.staysWithin s) : (u.growFrame bs).staysWithin s := by
    unfold State.growFrame
    split_ifs
    · exact h.update (by rfl)
    · exact ends bs h
    · exact h.update (by rfl)
  unfold State.receive
  split
  · split <;> [exact h.update (by rfl); exact h]
  · split
    · exact h.update (by rfl)
    · exact grow _ (h.update (by rfl))

theorem State.staysWithin.rxGap : u.rxGap.staysWithin s := by
  unfold State.rxGap
  split <;> [exact h.update (by rfl); exact h]

theorem State.staysWithin.txDone : u.txDone.staysWithin s := by
  unfold State.txDone
  split <;> exact h.update (by rfl)

theorem State.staysWithin.rejectFrame : u.rejectFrame.staysWithin s := by
  unfold State.rejectFrame
  split
  · exact h
  · split
    · exact h
    · exact h.popRequest.update (by rfl)

theorem State.staysWithin.statsRead (n : Nat) : (u.statsRead n).1.staysWithin s := by
  unfold State.statsRead
  split_ifs
  · exact h
  · exact h.update (by rfl)
  · exact h

theorem State.staysWithin.loadDone : u.loadDone.staysWithin s := by
  unfold State.loadDone
  split
  · exact h
  · simp only
    split
    · exact h.update (by rfl)
    · exact h.update (by rfl)
    · exact (h.update (by rfl)).notify _

theorem State.staysWithin.setupDone : u.setupDone.staysWithin s := by
  unfold State.setupDone
  split <;> [exact h; exact h.update (by rfl)]

theorem State.staysWithin.routeSet (m : Bool) (n : Nat) (x : Bool) : (u.routeSet m n x).1.staysWithin s := by
  have hpacker := h.withPacker (p := if u.router.streaming = x then u.packer else u.packer.setEnabled x) fun hb => by
    split
    · exact hb
    · exact Packer.setEnabled_bounded hb x
  unfold State.routeSet
  split
  · exact h
  · exact hpacker.update (by rfl)

end

/-! ### Voices and fetch -/

/-- R103, R104: a completed read changes the voices and the fetch unit. -/
theorem State.segmentDone_frame (e : FetchEntry) (s : State) :
    ∃ v f, s.segmentDone e = { s with voices := v, fetch := f } := by
  have prime (i : Nat) (w : Voice) (u : State) : ∃ v f, u.primeDone i w = { u with voices := v, fetch := f } := by
    unfold State.primeDone
    split
    · exact ⟨_, _, rfl⟩
    · exact ⟨u.voices, u.fetch, rfl⟩
  have fills (w : Voice) (u : State) : ∃ v f, u.segmentFills e w = { u with voices := v, fetch := f } := by
    unfold State.segmentFills
    simp only
    split
    · obtain ⟨v, f, h⟩ := prime e.voice w _
      exact ⟨v, f, h⟩
    · exact ⟨u.voices, _, rfl⟩
  have matched (u : State) : ∃ v f, u.segmentMatched e = { u with voices := v, fetch := f } := by
    unfold State.segmentMatched
    split
    · split
      · exact fills _ u
      · exact ⟨u.voices, u.fetch, rfl⟩
    · exact ⟨u.voices, u.fetch, rfl⟩
  obtain ⟨v, f, h⟩ := matched { s with fetch := { s.fetch with port := none } }
  exact ⟨v, f.kick, by rw [State.segmentDone, h]⟩

/-- R101: an output frame changes one entry's voice, the fetch unit and the statistics. -/
theorem State.playEntry_frame (s : State) (i : Nat) :
    ∃ v f x, s.playEntry i = { s with voices := v, fetch := f, stats := x } := by
  have cross (n : Nat) (w : Voice) (z : Zone) : ∃ v f x, s.cross i n w z = { s with voices := v, fetch := f, stats := x } := by
    unfold State.cross
    simp only
    split
    · split <;> exact ⟨s.voices, _, s.stats, rfl⟩
    · exact ⟨_, _, _, rfl⟩
  unfold State.playEntry
  split
  · unfold State.advance
    split
    · exact ⟨s.voices, s.fetch, s.stats, rfl⟩
    · split_ifs
      · exact ⟨_, _, s.stats, rfl⟩
      · exact cross ..
      · exact ⟨s.voices, _, s.stats, rfl⟩
  · exact ⟨s.voices, s.fetch, s.stats, rfl⟩

/-- R82, R86: a boundary changes one entry's voice and the fetch unit. -/
theorem State.boundaryEntry_frame (s : State) (i : Nat) : ∃ v f, s.boundaryEntry i = { s with voices := v, fetch := f } := by
  unfold State.boundaryEntry
  split
  · exact ⟨s.voices, s.fetch, rfl⟩
  · split <;> exact ⟨_, _, rfl⟩

section
variable {u s : State} (h : u.staysWithin s)
include h

theorem State.staysWithin.segmentDone (e : FetchEntry) : (u.segmentDone e).staysWithin s := by
  obtain ⟨v, f, he⟩ := u.segmentDone_frame e
  rw [he]
  exact h.update (by rfl)

theorem State.staysWithin.outputFrame : u.outputFrame.staysWithin s := by
  have hsent : u.sendFrame.staysWithin s := by
    unfold State.sendFrame
    simp only
    split <;> exact h.update (by rfl)
  refine hsent.foldl (fun i v hv => ?_) voiceEntries
  obtain ⟨vs, f, x, he⟩ := v.playEntry_frame i
  rw [he]
  exact hv.update (by rfl)

theorem State.staysWithin.audioBoundary : u.audioBoundary.staysWithin s := by
  have hvoices : (voiceEntries.foldl State.boundaryEntry u).staysWithin s := by
    refine h.foldl (fun i v hv => ?_) voiceEntries
    obtain ⟨vs, f, he⟩ := v.boundaryEntry_frame i
    rw [he]
    exact hv.update (by rfl)
  unfold State.audioBoundary
  generalize voiceEntries.foldl State.boundaryEntry u = v at hvoices ⊢
  exact hvoices.update (by rfl)

theorem State.staysWithin.setPoly (n : Nat) (p : Priority) : (u.setPoly n p).staysWithin s := by
  obtain ⟨tb, x, he⟩ := State.stealN_frame _ { u with voices := { u.voices with limit := n, priority := p } }
  rw [State.setPoly, he]
  exact h.update (by rfl)

theorem State.staysWithin.noteOn (src : Source) (k v : Nat) : (u.noteOn src k v).staysWithin s := by
  obtain ⟨tb, c, f, x, he⟩ := u.noteOn_frame src k v
  rw [he]
  exact h.update (by rfl)

theorem State.staysWithin.noteOff (src : Source) (k : Nat) : (u.noteOff src k).staysWithin s := by
  obtain ⟨tb, he⟩ := u.noteOff_frame src k
  rw [he]
  exact h.update (by rfl)

/-- R156: an event is taken only with room in the stream buffer. -/
theorem State.staysWithin.streamEvent (e : LiveEvent) : (u.streamEvent e).staysWithin s := by
  unfold State.streamEvent
  split
  next => exact h.update (by rfl)
  next hroom => exact h.withPacker fun hb => Packer.accept_bounded hb (Nat.lt_of_not_le hroom) e

end

end Sys2Proof.Machine
end

section
/-! The operations of the Take Store, the Recorder, the Practice Player, the router and the scanner that keep the memories
canonical and the queues and lists bounded (R135, R154, R156, R174, R175, R187). -/

namespace Sys2Proof.Machine

/-! ### The take store's memory (R126, R129, R132 to R145) -/

@[simp] theorem Store.setHolder_mem (x : Holder) (b : Bool) (id : Nat) (st : Store) : (st.setHolder x b id).mem = st.mem := by
  unfold Store.setHolder
  split <;> rfl

@[simp] theorem Store.pin_mem (x : Holder) (id : Nat) (st : Store) : (st.pin x id).mem = st.mem := st.setHolder_mem x true id

@[simp] theorem Store.unpin_mem (x : Holder) (id : Nat) (st : Store) : (st.unpin x id).mem = st.mem := st.setHolder_mem x false id

@[simp] theorem Store.movePin_mem (x y : Holder) (id : Nat) (st : Store) : (st.movePin x y id).mem = st.mem :=
  (Store.setHolder_mem ..).trans (Store.setHolder_mem ..)

theorem Store.putRecord_wf (tk : Take) (p : Nat) (r : TakeRecord) {st : Store} (h : st.mem.wf storeByte = true) :
    (st.putRecord tk p r).mem.wf storeByte = true :=
  Memory.writeAll_wf _ _ _ _ h

theorem Store.fill_wf (tk : Take) (p n : Nat) {st : Store} (h : st.mem.wf storeByte = true) :
    (st.fill tk p n).mem.wf storeByte = true := by
  induction n generalizing p st with
  | zero => exact h
  | succ n ih => exact ih (p + 1) (Store.putRecord_wf tk p _ h)

theorem Store.closeTake_wf (id : Nat) (b : Bool) (tk : Take) {st : Store} (h : st.mem.wf storeByte = true) :
    (st.closeTake id b tk).mem.wf storeByte = true :=
  Store.fill_wf tk tk.count _ h

theorem Store.openRecording_mem (id : Nat) (name : List Byte) (st : Store) : (st.openRecording id name).1.mem = st.mem := by
  unfold Store.openRecording
  split
  · rfl
  · split
    · split <;> rfl
    · split <;> rfl

theorem Store.openUpload_mem (id n : Nat) (name : List Byte) (st : Store) : (st.openUpload id n name).1.mem = st.mem := by
  unfold Store.openUpload
  split
  · rfl
  · split
    · rfl
    · split
      · split <;> rfl
      · split <;> rfl

theorem Store.endUpload_mem (id : Nat) (tk : Take) (st : Store) : (st.endUpload id tk).1.mem = st.mem := by
  unfold Store.endUpload
  simp only
  split <;> rfl

/-- R141: the bytes of a block are written at rising addresses. -/
theorem Store.uploadBlock_wf (i : Nat) (data : List Byte) {st : Store} (h : st.mem.wf storeByte = true) :
    (st.uploadBlock i data).1.mem.wf storeByte = true := by
  have takes (id next remaining : Nat) (tk : Take) : (st.takeBlock id next remaining tk data).1.mem.wf storeByte = true := by
    have hwritten := Memory.writeAll_wf storeByte st.mem (128 * tk.blocks.getD next 0) data h
    unfold Store.takeBlock
    simp only
    split
    · rw [Store.endUpload_mem]
      exact hwritten
    · exact hwritten
  unfold Store.uploadBlock
  split
  · split
    · exact h
    · split
      · exact takes ..
      · exact h
  · exact h

theorem Store.openDownload_mem (id a n : Nat) (st : Store) : (st.openDownload id a n).1.mem = st.mem := by
  unfold Store.openDownload
  split_ifs
  · rfl
  · rfl
  · split
    · rfl
    · split_ifs
      · rfl
      · rfl
      · exact Store.pin_mem ..

theorem Store.downloadBlock_mem (st : Store) : st.downloadBlock.1.mem = st.mem := by
  unfold Store.downloadBlock
  split
  · simp only
    split
    · exact Store.unpin_mem ..
    · rfl
  · rfl

theorem Store.abort_mem (st : Store) : st.abort.1.mem = st.mem := by
  unfold Store.abort
  split
  · rfl
  · simp only
    split <;> rfl
  · exact Store.unpin_mem ..

theorem Store.rename_mem (id : Nat) (name : List Byte) (st : Store) : (st.rename id name).1.mem = st.mem := by
  unfold Store.rename
  split
  · rfl
  · split <;> rfl

theorem Store.deleteTake_mem (id : Nat) (st : Store) : (st.deleteTake id).1.mem = st.mem := by
  unfold Store.deleteTake
  split
  · rfl
  · split
    · rfl
    · split_ifs <;> rfl

/-! ### The lists of the Wait Matcher (R174, R175) -/

theorem insertNat_length_le (k : Nat) (xs : List Nat) : (insertNat k xs).length ≤ xs.length + 1 := by
  induction xs with
  | nil => rfl
  | cons x xs ih =>
    unfold insertNat
    split_ifs
    · rfl
    · exact Nat.le_succ _
    · exact Nat.succ_le_succ ih

theorem removeNat_length_le (k : Nat) (xs : List Nat) : (removeNat k xs).length ≤ xs.length := List.length_filter_le ..

/-- R174: the oldest entry leaves when the list holds 16. -/
theorem addRecent_length_le (k : Nat) (t : Time) {es : List (Nat × Time)} (h : es.length ≤ 16) :
    (addRecent k t es).length ≤ 16 := by
  unfold addRecent
  rw [List.length_append, List.length_singleton]
  split
  · rw [List.length_drop]
    omega
  · omega

/-! ### The slots (R178, R179) -/

@[simp] theorem Player.setSlot_expected (x : SlotId) (c : Option Saved) (p : Player) : (p.setSlot x c).expected = p.expected := by
  cases x <;> rfl

@[simp] theorem Player.setSlot_recent (x : SlotId) (c : Option Saved) (p : Player) : (p.setSlot x c).recent = p.recent := by
  cases x <;> rfl

section
variable {u s : State} (h : u.staysWithin s)
include h

/-- The take store changes, but for its memory. -/
theorem State.staysWithin.sameMem {st : Store} (hm : st.mem = u.store.mem) : ({ u with store := st } : State).staysWithin s :=
  h.withStore fun hs => hm ▸ hs

/-! ### The Recorder (R135, R146 to R154) -/

theorem State.staysWithin.emit (b : RecordBody) (x : Hand) (d : Nat) : (u.emit b x d).1.staysWithin s := by
  have asks (id : Nat) (tk : Take) {v : State} (hv : v.staysWithin s) : (v.askBlock id tk).1.staysWithin s := by
    unfold State.askBlock
    split
    · exact hv
    · exact hv.update (by rfl)
  unfold State.emit
  split
  next => exact h
  next id tk _ =>
    have hput := h.withStore (Store.putRecord_wf tk tk.count { body := b, hand := x.code, delta := d })
    simp only
    split_ifs
    · exact asks _ _ (hput.update (by rfl))
    · exact hput.update (by rfl)

theorem State.staysWithin.emitGaps (n : Nat) : (u.emitGaps n).1.staysWithin s := by
  induction n generalizing u with
  | zero => exact h
  | succ n ih =>
    have hgap := h.emit (.gap 65535) .none 0
    unfold State.emitGaps
    split
    next v he =>
      rw [he] at hgap
      exact ih hgap
    next v he =>
      rw [he] at hgap
      exact hgap

theorem State.staysWithin.emitTime (d : Nat) : (u.emitTime d).1.staysWithin s := by
  have hgaps := h.emitGaps (d / 65535)
  unfold State.emitTime
  split
  next => exact h
  next =>
    split
    next v he =>
      rw [he] at hgaps
      exact hgaps
    next v he =>
      rw [he] at hgaps
      split
      · exact hgaps
      · exact hgaps.emit ..

theorem State.staysWithin.write (b : RecordBody) (x : Hand) : (u.write b x).1.staysWithin s := by
  have htime := h.emitTime u.recorder.since
  unfold State.write
  split
  next v he =>
    rw [he] at htime
    exact htime
  next v he =>
    rw [he] at htime
    exact htime.emit ..

theorem State.staysWithin.writeAll (rs : List (RecordBody × Hand)) : (u.writeAll rs).1.staysWithin s := by
  induction rs generalizing u with
  | nil => exact h
  | cons r rs ih =>
    have hwrite := h.write r.1 r.2
    unfold State.writeAll
    split
    next v he =>
      rw [he] at hwrite
      exact ih hwrite
    next v he =>
      rw [he] at hwrite
      exact hwrite

theorem State.staysWithin.emitAll (rs : List (RecordBody × Hand)) : (u.emitAll rs).1.staysWithin s := by
  induction rs generalizing u with
  | nil => exact h
  | cons r rs ih =>
    have hemit := h.emit r.1 r.2 0
    unfold State.emitAll
    split
    next v he =>
      rw [he] at hemit
      exact ih hemit
    next v he =>
      rw [he] at hemit
      exact hemit

theorem State.staysWithin.emitClosing (timed : Bool) (rs : List (RecordBody × Hand)) :
    (u.emitClosing timed rs).1.staysWithin s := by
  induction rs generalizing u timed with
  | nil => exact h
  | cons r rs ih => exact ih (h.emit ..) false

theorem State.staysWithin.closeRecording (b : Bool) : (u.closeRecording b).staysWithin s := by
  have hclosing := (h.emitTime u.recorder.since).emitClosing (u.emitTime u.recorder.since).2 u.recorder.closing
  unfold State.closeRecording
  simp only
  generalize ((u.emitTime u.recorder.since).1.emitClosing (u.emitTime u.recorder.since).2 u.recorder.closing) = y at hclosing ⊢
  split
  next id tk _ => exact (hclosing.withStore (Store.closeTake_wf id (b || !((u.emitTime u.recorder.since).2 && y.2)) tk)).update (by rfl)
  next => exact hclosing.update (by rfl)

theorem State.staysWithin.recNotify (id : Option Nat) (why : RecReason) : (u.recNotify id why).staysWithin s := by
  unfold State.recNotify
  split
  · exact h.notify _
  · exact h

theorem State.staysWithin.storeExhausted : u.storeExhausted.staysWithin s := (h.closeRecording true).recNotify ..

theorem State.staysWithin.runTakeClock : u.runTakeClock.staysWithin s := h.update (by rfl)

end

section
variable {s : State} {x : State × Bool} (h : x.1.staysWithin s)
include h

/-- What was written is finished. -/
theorem State.staysWithin.finishWrite : (State.finishWrite x).staysWithin s := by
  unfold State.finishWrite
  split
  · exact h
  · exact h.storeExhausted

theorem State.staysWithin.replyWrite {was : State} {done : State → State} {ok : Content}
    (hd : ∀ {v : State}, v.staysWithin s → (done v).staysWithin s) : (State.replyWrite x was done ok).1.staysWithin s := by
  unfold State.replyWrite
  split
  · exact hd h
  · exact h.storeExhausted

end

section
variable {u s : State} (h : u.staysWithin s)
include h

theorem State.staysWithin.firstKey (k v : Nat) (x : Hand) : (u.firstKey k v x).staysWithin s := by
  have hstarted : (({ u with recorder := { u.recorder with clock := 0 } } : State).runTakeClock).staysWithin s :=
    (h.update (by rfl)).runTakeClock
  have hwritten := hstarted.writeAll (u.pedals.context.records ++ [(.noteOn k v, x)])
  unfold State.firstKey
  simp only
  split
  · exact hwritten.recNotify ..
  · exact hwritten.storeExhausted

theorem State.staysWithin.recordEvent (e : LiveEvent) : (u.recordEvent e).staysWithin s := by
  unfold State.recordEvent
  split
  · split
    · exact h.firstKey ..
    · exact h
  · exact (h.writeAll _).finishWrite
  · exact h

theorem State.staysWithin.recStart (id : Nat) (a : ArmMode) (name : List Byte) : (u.recStart id a name).1.staysWithin s := by
  have hopened := h.sameMem (u.store.openRecording_mem id name)
  unfold State.recStart
  split
  · exact h
  · simp only
    split
    · exact h
    · split
      · exact hopened.update (by rfl)
      · exact ((hopened.update (by rfl)).runTakeClock.writeAll _).finishWrite

theorem State.staysWithin.recMark (n : Nat) : (u.recMark n).1.staysWithin s := by
  unfold State.recMark
  split_ifs
  · exact h
  · exact h
  · exact (h.write ..).replyWrite id

theorem State.staysWithin.recPause : u.recPause.1.staysWithin s := by
  unfold State.recPause
  split
  · exact h
  · exact (h.writeAll _).replyWrite fun hv => hv.update (by rfl)

theorem State.staysWithin.recResume : u.recResume.1.staysWithin s := by
  have hresumed : u.resumeRecords.1.staysWithin s := by
    have htime := h.emitTime u.recorder.since
    unfold State.resumeRecords
    split
    next v he =>
      rw [he] at htime
      exact htime.emitAll _
    next v he =>
      rw [he] at htime
      exact htime
  unfold State.recResume
  split
  · exact h
  · exact hresumed.replyWrite State.staysWithin.runTakeClock

theorem State.staysWithin.recStop : u.recStop.1.staysWithin s := by
  unfold State.recStop
  split
  · exact h
  · exact h
  · simp only
    exact (h.closeRecording false).recNotify ..

/-! ### Waits (R175, R176) -/

/-- R175: a key joins the expected set only with room in it. -/
theorem State.staysWithin.offerKey (k : Nat) : (u.offerKey k).staysWithin s := by
  unfold State.offerKey
  split_ifs with _ hfull
  · exact h
  · exact h.update (by rfl)
  · refine h.withPlayer (fun _ => ?_) id
    have hle := insertNat_length_le k u.player.expected
    change (insertNat k u.player.expected).length ≤ 16
    omega

theorem State.staysWithin.endWait (how : WaitEnd) (d : Nat) : (u.endWait how d).staysWithin s := (h.update (by rfl)).notify _

theorem State.staysWithin.earlyMatch : u.earlyMatch.staysWithin s := by
  refine h.foldl (fun k v hv => ?_) u.player.expected
  unfold State.earlyMatchKey
  split
  next => exact hv
  next i _ =>
    have hmatched := hv.withPlayer
      (p := { v.player with expected := removeNat k v.player.expected, recent := v.player.recent.eraseIdx i })
      (Nat.le_trans (removeNat_length_le ..)) (Nat.le_trans (List.length_eraseIdx_le ..))
    exact hmatched.update (by rfl)

theorem State.staysWithin.waitTest : u.waitTest.staysWithin s := by
  unfold State.waitTest
  split
  · exact h.update (by rfl)
  · simp only
    split
    · exact (h.earlyMatch.endWait .allStruck 0).update (by rfl)
    · exact h.earlyMatch.update (by rfl)

/-! ### Ends, pauses and loops (R163, R168, R170 to R172) -/

theorem State.staysWithin.releaseOpen : u.releaseOpen.staysWithin s := by
  obtain ⟨tb, he⟩ := u.releaseOpen_frame
  rw [he]
  exact h.update (by rfl)

theorem State.staysWithin.setContext (c : PedalContext) (b : Bool) : (u.setContext c b).staysWithin s := by
  obtain ⟨tb, he⟩ := u.setContext_frame c b
  rw [he]
  exact h.update (by rfl)

/-- R171, R178: the wait is dropped with both lists. -/
theorem State.staysWithin.emptied {st : Store} {p : Player} (hm : st.mem = u.store.mem)
    (he : p.expected = []) (hr : p.recent = []) :
    ({ u with store := st, player := p } : State).staysWithin s :=
  (h.sameMem hm).withPlayer (fun _ => he ▸ Nat.zero_le 16) fun _ => hr ▸ Nat.zero_le 16

/-- Nothing is expected any more. -/
theorem State.staysWithin.expectingNone {p : Player} (he : p.expected = [])
    (hr : p.recent = u.player.recent) : ({ u with player := p } : State).staysWithin s :=
  h.withPlayer (fun _ => he ▸ Nat.zero_le 16) (hr ▸ id)

theorem State.staysWithin.endTake (why : PlayReason) : (u.endTake why).staysWithin s := by
  have hreleased := h.releaseOpen.setContext PedalContext.clear false
  unfold State.endTake
  simp only
  generalize u.releaseOpen.setContext PedalContext.clear false = v at hreleased ⊢
  refine State.staysWithin.notify ?_ _
  refine hreleased.emptied ?_ (by rfl) (by rfl)
  split
  · exact Store.unpin_mem ..
  · rfl

theorem State.staysWithin.pausePlay : u.pausePlay.staysWithin s := (h.releaseOpen.update (by rfl)).notify _

theorem State.staysWithin.loopEnd (j : Bool) : (u.loopEnd j).1.staysWithin s := by
  unfold State.loopEnd
  split
  · exact (h.releaseOpen.setContext ..).update (by rfl)
  · exact h.endTake _

theorem State.staysWithin.haltActs (go : Go) : (u.haltActs go).1.staysWithin s := by
  unfold State.haltActs
  split
  · exact h
  · exact h.endTake _
  · exact (h.update (by rfl)).pausePlay

theorem State.staysWithin.markPassed (n time : Nat) : (u.markPassed n time).staysWithin s := by
  have hnoticed : (if u.player.reportMarks then
        ({ u with player := { u.player with mark := some n } } : State).notify (.playerMark n time u.player.repeats)
      else { u with player := { u.player with mark := some n } }).staysWithin s := by
    split
    · exact (h.update (by rfl)).notify _
    · exact h.update (by rfl)
  unfold State.markPassed
  simp only
  split
  · exact hnoticed
  · exact hnoticed.update (by rfl)

theorem State.staysWithin.handleMark (n time : Nat) (j : Bool) : (u.handleMark n time j).1.staysWithin s := by
  have hpassed := h.markPassed n time
  have hloop := hpassed.loopEnd j
  unfold State.handleMark
  simp only
  split
  · split
    next v he =>
      rw [he] at hloop
      exact hloop
    next v go _ he =>
      rw [he] at hloop
      exact hloop.haltActs go
  · exact hpassed.haltActs _

/-! ### Records (R164, R166) -/

theorem State.staysWithin.handleOn (k v : Nat) (part : Part) : (u.handleOn k v part).staysWithin s := by
  cases part with
  | sound => exact (h.noteOn .playback k v).update (by rfl)
  | mute => exact h
  | practice => exact h.offerKey k

theorem State.staysWithin.handleOff (k : Nat) : (u.handleOff k).staysWithin s := by
  unfold State.handleOff
  split
  · exact (h.noteOff .playback k).update (by rfl)
  · exact h

theorem State.staysWithin.handleRecord (x : Timed) (j : Bool) : (u.handleRecord x j).1.staysWithin s := by
  have hpos : ({ u with player := { u.player with pos := x.pos + 1 } } : State).staysWithin s := h.update (by rfl)
  unfold State.handleRecord
  simp only
  split
  · exact hpos.handleOn ..
  · exact hpos.handleOff _
  · exact hpos.setContext ..
  · exact hpos.handleMark ..
  · split
    · exact hpos.loopEnd j
    · exact hpos.endTake _
  all_goals exact hpos

theorem State.staysWithin.handleList (j : Bool) (xs : List Timed) : (u.handleList j xs).1.staysWithin s := by
  induction xs generalizing u with
  | nil => exact h
  | cons x xs ih =>
    have hx := h.handleRecord x j
    unfold State.handleList
    split
    next v he =>
      rw [he] at hx
      exact ih hx
    next v go _ he =>
      rw [he] at hx
      exact hx

theorem State.staysWithin.handleDue : u.handleDue.1.staysWithin s := by
  have hfirst := h.handleList false u.dueRecords
  unfold State.handleDue
  split
  next v he =>
    rw [he] at hfirst
    exact hfirst
  next v he =>
    rw [he] at hfirst
    exact hfirst
  next v he =>
    rw [he] at hfirst
    have hsecond := hfirst.handleList true v.dueRecords
    split
    next w he' =>
      rw [he'] at hsecond
      exact hsecond
    next w go _ he' =>
      rw [he'] at hsecond
      exact hsecond

theorem State.staysWithin.handleAndTest : u.handleAndTest.staysWithin s := by
  have hdue := h.handleDue
  unfold State.handleAndTest
  split
  next v he =>
    rw [he] at hdue
    exact hdue.waitTest
  next v he =>
    rw [he] at hdue
    exact hdue

theorem State.staysWithin.enterPlaying : u.enterPlaying.staysWithin s := (h.update (by rfl)).handleAndTest

theorem State.staysWithin.playTick : u.playTick.staysWithin s := (h.update (by rfl)).handleAndTest

/-! ### Cues and slots (R162, R163, R178, R179) -/

theorem State.staysWithin.cueDone : u.cueDone.staysWithin s := by
  have hcue : u.cueEnd.staysWithin s := by
    unfold State.cueEnd
    simp only
    split <;> exact (h.update (by rfl)).setContext ..
  exact (hcue.notify _).enterPlaying

theorem State.staysWithin.beginCue (why : PlayReason) : (u.beginCue why).staysWithin s := (h.update (by rfl)).notify _

theorem State.staysWithin.playStart (id : Nat) (a b : Option Nat) (loops tempo : Nat) (parts : Parts) (report : Bool) :
    (u.playStart id a b loops tempo parts report).1.staysWithin s := by
  unfold State.playStart
  split
  · exact h
  · split
    · exact h
    · split
      · exact h
      · split
        · exact h
        · exact ((h.sameMem (u.store.pin_mem .player id)).expectingNone (by rfl) (by rfl)).beginCue _

/-- A slot changes with the pins of its take. -/
theorem State.staysWithin.setSlot (x : SlotId) (c : Option Saved) {st : Store} (hm : st.mem = u.store.mem) :
    ({ u with store := st, player := u.player.setSlot x c } : State).staysWithin s :=
  (h.sameMem hm).withPlayer (p := u.player.setSlot x c) (u.player.setSlot_expected x c ▸ id)
    (u.player.setSlot_recent x c ▸ id)

theorem State.staysWithin.playSuspend (x : SlotId) : (u.playSuspend x).1.staysWithin s := by
  unfold State.playSuspend
  split
  case h_1 | h_2 | h_3 => exact h
  case h_4 id _ _ _ =>
    split
    · exact h
    · have hsaved := h.setSlot x (some (u.player.saved id)) (u.store.movePin_mem .player (SlotHolder x) id)
      exact ((hsaved.releaseOpen.setContext PedalContext.clear false).emptied (by rfl) (by rfl) (by rfl)).notify _

theorem State.staysWithin.playResume (x : SlotId) : (u.playResume x).1.staysWithin s := by
  unfold State.playResume
  split
  · exact h
  · split
    next => exact h
    next c _ =>
      have hemptied := h.setSlot x none (u.store.movePin_mem (SlotHolder x) .player c.take)
      exact (hemptied.expectingNone (by rfl) (by rfl)).beginCue _

theorem State.staysWithin.slotDiscard (x : SlotId) : (u.slotDiscard x).1.staysWithin s := by
  unfold State.slotDiscard
  split
  · exact h
  · exact h.setSlot x none (Store.unpin_mem ..)

/-! ### The player's requests, strikes and waits (R165, R167, R169, R172 to R177) -/

theorem State.staysWithin.playTempo (n : Nat) (w : When) : (u.playTempo n w).1.staysWithin s := by
  unfold State.playTempo
  split_ifs
  · exact h
  · exact h
  · cases w <;> exact h.update (by rfl)

theorem State.staysWithin.playParts (parts : Parts) : (u.playParts parts).1.staysWithin s := by
  have hparts : ({ u with player := { u.player with parts } } : State).staysWithin s := h.update (by rfl)
  have hdropped := hparts.expectingNone
    (p := { ({ u.player with parts } : Player).clearWait with expected := [], waitPending := false }) (by rfl) (by rfl)
  unfold State.playParts
  split
  · exact h
  · simp only
    split
    · exact hparts
    · split
      · exact hdropped.enterPlaying
      · split <;> [exact hdropped; exact hparts]
      · exact hparts

theorem State.staysWithin.playStop (w : When) : (u.playStop w).1.staysWithin s := by
  unfold State.playStop
  split
  · exact h
  · cases w <;> [exact h.endTake _; exact h.update (by rfl)]

theorem State.staysWithin.playPause (w : When) : (u.playPause w).1.staysWithin s := by
  unfold State.playPause
  split
  case h_1 | h_5 => exact h
  case h_2 => exact h.update (by rfl)
  case h_3 | h_4 => exact h.pausePlay

theorem State.staysWithin.playContinue : u.playContinue.1.staysWithin s := by
  have hplaying : ({ u with player := { u.player with waitPending := false } } : State).enterPlaying.staysWithin s :=
    (h.update (by rfl)).enterPlaying
  unfold State.playContinue
  split
  · exact h
  · simp only
    split
    case h_1 | h_2 => exact hplaying.notify _
    case h_3 => exact hplaying

theorem State.staysWithin.waitConfig (a b : Nat) : (u.waitConfig a b).1.staysWithin s := by
  unfold State.waitConfig
  split <;> [exact h; exact h.update (by rfl)]

theorem State.staysWithin.judge (k : Nat) : (u.judge k).staysWithin s := by
  have hstruck := h.withPlayer (p := { u.player with expected := removeNat k u.player.expected })
    (Nat.le_trans (removeNat_length_le ..)) id
  have hcounted : (State.countHit { u with player := { u.player with expected := removeNat k u.player.expected } }).staysWithin s :=
    hstruck.update (by rfl)
  unfold State.judge
  split
  · simp only
    split
    · exact (hcounted.endWait ..).enterPlaying
    · exact hcounted
  · exact h.update (by rfl)

theorem State.staysWithin.matchStrike (k : Nat) (t : Time) : (u.matchStrike k t).staysWithin s := by
  unfold State.matchStrike
  split
  · exact h.withPlayer id (addRecent_length_le k t)
  · exact h.judge k
  · exact h

theorem State.staysWithin.countMisses (n : Nat) : (u.countMisses n).staysWithin s := by
  induction n generalizing u with
  | zero => exact h
  | succ n ih => exact ih (u := u.countMiss) (h.update (by rfl))

theorem State.staysWithin.waitExpires : u.waitExpires.staysWithin s := by
  have hmissed := h.countMisses u.player.expected.length
  exact ((hmissed.expectingNone (by rfl) (by rfl)).endWait ..).enterPlaying

/-! ### The router (R41, R44) -/

theorem State.staysWithin.voiceClaim (b : EventBody) : (u.voiceClaim b).staysWithin s := by
  cases b with
  | noteOn k v _ _ => exact h.noteOn .live k v
  | noteOff k _ => exact h.noteOff .live k
  | pedal _ _ => exact h.update (by rfl)

theorem State.staysWithin.matcherTakes (e : LiveEvent) : (u.matcherTakes e).staysWithin s := by
  unfold State.matcherTakes
  split
  · exact h.matchStrike ..
  · exact h

omit h in
/-- An operation behind a gate. -/
theorem State.staysWithin_gated {op : State → State} (hop : ∀ {v : State}, v.staysWithin s → (op v).staysWithin s) (b : Bool)
    (h : u.staysWithin s) : (if b then op u else u).staysWithin s := by
  split
  · exact hop h
  · exact h

theorem State.staysWithin.deliver (e : LiveEvent) (g : Gates) : (u.deliver e g).staysWithin s := by
  have hvoices := State.staysWithin_gated (fun hv => hv.voiceClaim e.body) g.voices h
  have hrecorder := State.staysWithin_gated (fun hv => hv.recordEvent e) g.recorder hvoices
  have hmatcher := State.staysWithin_gated (fun hv => hv.matcherTakes e) g.matcher hrecorder
  exact State.staysWithin_gated (fun hv => hv.streamEvent e) g.packer hmatcher

theorem State.staysWithin.route (b : EventBody) (t : Time) : (u.route b t).staysWithin s := by
  have hdelivered (e : LiveEvent) :
      (({ u with router := { u.router with passage := some e } } : State).deliver e (u.gates b)).staysWithin s :=
    (h.update (by rfl)).deliver ..
  have hdone {v : State} (hv : v.staysWithin s) : ({ v with router := { v.router with passage := none } } : State).staysWithin s :=
    hv.update (by rfl)
  exact hdone (hdelivered _)

/-! ### The scanner and the pedals (R10, R28 to R37) -/

theorem State.staysWithin.perform (t : Time) (a : KeyAct) : (u.perform t a).staysWithin s := by
  cases a with
  | flightAdded => exact h.flightAdded
  | flightRemoved => exact h.flightRemoved
  | event b => exact h.route b t
  | count c => exact h.tally c
  | notice n => exact h.notify n

/-- A key is replaced, and what it asks for is performed. -/
theorem State.staysWithin.settles (t : Time) (i : Nat) (r : Key × List KeyAct) :
    (r.2.foldl (State.perform t) (u.setKey i r.1)).staysWithin s :=
  State.staysWithin.foldl (u := u.setKey i r.1) (h.update (by rfl)) (fun a _ hv => hv.perform t a) r.2

theorem State.staysWithin.settleCal (i : Nat) (c : CalRecord) : (u.settleCal i c).1.staysWithin s := by
  unfold State.settleCal
  split
  · exact h
  · simp only
    split
    · exact h.settles ..
    · exact h.update (by rfl)

theorem State.staysWithin.pedalEvent (p : Pedal) (n : Nat) : (u.pedalEvent p n).staysWithin s := (h.update (by rfl)).route ..

theorem State.staysWithin.scanPedal (p : Pedal) (raw : Nat) : (u.scanPedal p raw).staysWithin s := by
  unfold State.scanPedal
  simp only
  split_ifs
  · exact h
  · exact (((h.update (by rfl)).pedalEvent p 0).notify _).tally _
  · exact h.update (by rfl)
  · split
    · exact (h.update (by rfl)).pedalEvent ..
    · exact h.update (by rfl)

theorem State.staysWithin.scanFrame (ks hs : List Nat) (p : PedalRaws) : (u.scanFrame ks hs p).staysWithin s := by
  have hkeys : (keyIndices.foldl (State.scanKey ks hs) u).staysWithin s := by
    refine h.foldl (fun i v hv => ?_) keyIndices
    unfold State.scanKey
    split
    · exact hv
    · exact hv.settles ..
  unfold State.scanFrame
  split
  · exact ((hkeys.scanPedal ..).scanPedal ..).scanPedal ..
  · exact h

theorem State.staysWithin.threshSet (x : Thresholds) : (u.threshSet x).1.staysWithin s := by
  unfold State.threshSet
  split <;> [exact h; exact h.update (by rfl)]

theorem State.staysWithin.curveSet (c : Curve) (ps : List CurvePoint) : (u.curveSet c ps).1.staysWithin s := by
  unfold State.curveSet
  split
  · exact h
  · cases c <;> exact h.update (by rfl)

theorem State.staysWithin.faultClear (x : FaultTarget) : (u.faultClear x).1.staysWithin s := by
  cases x with
  | other => exact h
  | pedal p =>
    unfold State.faultClear
    simp only
    split <;> [exact h.update (by rfl); exact h]
  | key i =>
    unfold State.faultClear
    simp only
    split
    · exact h
    · split
      · exact h
      · split <;> [exact h.update (by rfl); exact h]

theorem State.staysWithin.captureBegin : u.captureBegin.1.staysWithin s := by
  unfold State.captureBegin
  split <;> [exact h; exact h.update (by rfl)]

theorem State.staysWithin.pedalCal (p : Pedal) (a b : Nat) : (u.pedalCal p a b).1.staysWithin s := by
  unfold State.pedalCal
  split <;> [exact h; exact h.update (by rfl)]

theorem State.staysWithin.pedalMode (p : Pedal) (m : PedalMode) (n : Nat) : (u.pedalMode p m n).1.staysWithin s := by
  unfold State.pedalMode
  split <;> [exact h; exact h.update (by rfl)]

end

end Sys2Proof.Machine
end

section
/-! Every step keeps the memories canonical, the queues and lists bounded, and the table of kinds lawful. -/

namespace Sys2Proof.Machine

section
variable {u s : State} (h : u.staysWithin s)
include h

/-! ### The resets (R191, R193) -/

theorem State.staysWithin.fullReset (strap : Bool) : (u.fullReset strap).staysWithin s where
  soundMem := h.soundMem
  kinds := h.kinds
  storeMem := fun _ => rfl
  requests := fun _ => Nat.zero_le 4
  notices := fun _ => Nat.zero_le 16
  packer := fun _ => ⟨Nat.zero_le 8, Nat.zero_le 256⟩
  expected := fun _ => Nat.zero_le 16
  recent := fun _ => Nat.zero_le 16

/-- R145, R155, R160, R182, R193: the take being recorded is closed, and every queue and list is emptied. -/
theorem State.staysWithin.warmReset : u.warmReset.staysWithin s := by
  have hrecorder : u.warmRecorder.staysWithin s := by
    unfold State.warmRecorder
    simp only
    split
    · exact h.update (by rfl)
    · exact (h.closeRecording true).update (by rfl)
  unfold State.warmReset State.warmBlocks
  simp only
  generalize u.warmRecorder = w at hrecorder ⊢
  have hlists := hrecorder.emptied (st := w.store.warm) (p := w.player.warm) (by rfl) (by rfl) (by rfl)
  have hpacker := hlists.withPacker (p := w.packer.warm) fun _ => ⟨Nat.zero_le 8, Nat.zero_le 256⟩
  have hlink := (hpacker.withRequests (rs := []) fun _ => Nat.zero_le 4).withNotices (ns := []) fun _ => Nat.zero_le 16
  split <;> exact hlink.update (by rfl)

/-! ### A command's operation, its reply and the arbiter -/

theorem State.staysWithin.atTime {op : State → State} (hop : ∀ {v : State}, v.staysWithin s → (op v).staysWithin s) (t : Time) :
    (u.atTime t op).staysWithin s :=
  (hop (h.upTo t)).arbitrate

theorem State.staysWithin.takeRequest {run : State → State × Status × Content}
    (hr : ∀ {v : State}, v.staysWithin s → (run v).1.staysWithin s) (q : Request) (t : Time) :
    (u.takeRequest q t run).staysWithin s := by
  unfold State.takeRequest
  simp only
  split
  · exact h.upTo t
  · split
    · exact ((hr (h.upTo t).popRequest).update (by rfl)).arbitrate
    · exact h.upTo t

end

/-! ### Every command, and every step -/

theorem exec_staysWithin {c : Instr} {u s s' : State} (hu : u.staysWithin s) (h : exec c u = .next s') : s'.staysWithin s := by
  have event {op : State → State} {t : Time}
      (h : (Host.Outcome.next (u.atTime t op) : Host.Outcome State Fault Refusal) = .next s')
      (hop : ∀ {v : State}, v.staysWithin s → (op v).staysWithin s) : s'.staysWithin s := by
    cases h
    exact hu.atTime hop t
  have request {run : State → State × Status × Content} {q : Request} {t : Time}
      (h : (Host.Outcome.next (u.takeRequest q t run) : Host.Outcome State Fault Refusal) = .next s')
      (hr : ∀ {v : State}, v.staysWithin s → (run v).1.staysWithin s) : s'.staysWithin s := by
    cases h
    exact hu.takeRequest hr q t
  have due {p : Prop} [Decidable p] {u v : State} (hu : u.staysWithin s) (hv : v.staysWithin s) :
      (if p then u else v).staysWithin s := keeps_due (P := (·.staysWithin s)) hu hv
  have checked {p : Prop} [Decidable p] {u v : State} {x y : Status} (hu : u.staysWithin s) (hv : v.staysWithin s) :
      (if p then (u, x) else (v, y)).1.staysWithin s := keeps_checked (P := (·.staysWithin s)) hu hv
  have named {α β : Type} {x : Option α} {refusal : β} {run : α → State × β} {u : State} (hu : u.staysWithin s)
      (hr : ∀ a, (run a).1.staysWithin s) : (x.elim (u, refusal) run).1.staysWithin s := by
    cases x with
    | none => exact hu
    | some a => exact hr a
  cases c with
  | fullReset b =>
    cases h
    exact hu.fullReset b
  | setupAreaReadDone t => exact event h fun hv => hv.setupDone
  | autoHome t => exact event h fun hv => hv.autoHome
  | warmReset t => exact event h fun hv => due hv.warmReset hv
  | rxFrame t b | byteReceived t b => exact event h fun hv => hv.receive b
  | rxGapTimeout t => exact event h fun hv => hv.rxGap
  | unknownKind t _ => exact event h fun hv => hv.rejectFrame
  | txFrameDone t => exact event h fun hv => hv.txDone
  | scanFrame t ks hs p => exact event h fun hv => hv.scanFrame ks hs p
  | streamHoldTimer t => exact event h fun hv => due (hv.withPacker Packer.holdExpires_bounded) hv
  | settleTimer t => exact event h fun hv => due (hv.update (by rfl)) hv
  | encoderChange t x =>
    cases x with
    | step up => exact event h fun hv => hv.encoderStep up
    | illegal => exact event h fun hv => hv.encoderIllegal
  | indexEdge t b => exact event h fun hv => due (hv.update (by rfl)).indexEdge (hv.update (by rfl))
  | endSwitchClose t sw => exact event h fun hv => (hv.switchLevelSet sw true).switchCloses sw
  | endSwitchOpen t sw => exact event h fun hv => (hv.switchLevelSet sw false).switchOpens sw
  | railStall t | railTravelTimeout t => exact event h fun hv => due (hv.faultRail _) hv
  | segmentReadDone t =>
    refine event h fun {v} hv => ?_
    cases v.fetch.inFlight with
    | none => exact hv
    | some e => exact hv.segmentDone e
  | soundsetLoadDone t => exact event h fun hv => hv.loadDone
  | outputFrame t => exact event h fun hv => hv.outputFrame
  | audioBlockBoundary t => exact event h fun hv => hv.audioBoundary
  | plugDetectChange t b => exact event h fun hv => hv.plugLine b
  | plugSettleTimer t => exact event h fun hv => due hv.plugSettled hv
  | muteLineChange t b => exact event h fun hv => hv.muteLine b
  | recTakeClockTick t => exact event h fun hv => hv.update (by rfl)
  | cueDone t => exact event h fun hv => due hv.cueDone hv
  | playerTick t => exact event h fun hv => due hv.playTick hv
  | waitTimer t => exact event h fun hv => due hv.waitExpires hv
  | calSet t i r =>
    exact request h fun hv => State.calSet_keeps (P := (·.staysWithin s)) (fun i c _ hu => hu.settleCal i c) i r hv
  | threshSet t x => exact request h fun hv => hv.threshSet x
  | curveSet t x ps => exact request h fun hv => named hv fun c => hv.curveSet c ps
  | faultClear t x => exact request h fun hv => hv.faultClear x
  | captureBegin t => exact request h fun hv => hv.captureBegin
  | captureEnd t =>
    exact request h fun hv => State.captureEnd_keeps (P := (·.staysWithin s)) (fun i c _ hu => hu.settleCal i c) (hv.update (by rfl)) hv
  | captureCancel t => exact request h fun hv => State.captureCancel_keeps (P := (·.staysWithin s)) (hv.update (by rfl)) hv
  | pedalCal t p a b => exact request h fun hv => named hv fun p => hv.pedalCal p a b
  | pedalMode t p m n =>
    refine request h fun hv => ?_
    cases p <;> cases m <;> [exact hv; exact hv; exact hv; exact hv.pedalMode ..]
  | routeSet t m n x =>
    refine request h fun hv => ?_
    cases m <;> cases x <;> [exact hv; exact hv; exact hv; exact hv.routeSet ..]
  | railMove t g p =>
    refine request h fun hv => ?_
    cases g <;> cases p <;> [exact hv; exact hv; exact hv; exact hv.railMove ..]
  | railHome t => exact request h fun hv => hv.beginHome
  | railStop t => exact request h fun hv => hv.railStop
  | railConfig t a b m n l x o => exact request h fun hv => named hv fun o => hv.railConfig _
  | polySet t n p =>
    refine request h fun hv => ?_
    cases p with
    | none => exact hv
    | some p => exact checked (hv.setPoly n p) hv
  | soundOff t c => exact request h fun hv => by cases c <;> [exact hv; exact hv.update (by rfl)]
  | soundsetReload t => exact request h fun hv => checked hv (hv.update (by rfl))
  | volumeSet t m => exact request h fun hv => checked (hv.setGainPath _) hv
  | mixSet t a b x c =>
    refine request h fun hv => ?_
    cases x <;> cases c <;> [exact hv; exact hv; exact hv; exact checked (hv.setGainPath _) hv]
  | hpConfig t w p m =>
    refine request h fun hv => ?_
    cases p <;> cases m <;> [exact hv; exact hv; exact hv; exact checked (hv.setHeadphones ..) hv]
  | unmute t => exact request h fun hv => hv.unmute
  | takeRename t id name => exact request h fun hv => hv.sameMem (Store.rename_mem ..)
  | takeDelete t id => exact request h fun hv => hv.sameMem (Store.deleteTake_mem ..)
  | uploadOpen t id n name => exact request h fun hv => hv.sameMem (Store.openUpload_mem ..)
  | uploadBlock t i data => exact request h fun hv => hv.withStore (Store.uploadBlock_wf i data)
  | downloadOpen t id a n => exact request h fun hv => hv.sameMem (Store.openDownload_mem ..)
  | downloadBlock t => exact request h fun hv => hv.sameMem (Store.downloadBlock_mem _)
  | transferAbort t => exact request h fun hv => hv.sameMem (Store.abort_mem _)
  | recStart t id a n => exact request h fun hv => named hv fun a => hv.recStart id a n
  | recMark t n => exact request h fun hv => hv.recMark n
  | recPause t => exact request h fun hv => hv.recPause
  | recResume t => exact request h fun hv => hv.recResume
  | recStop t => exact request h fun hv => hv.recStop
  | streamConfig t m a b =>
    refine request h fun hv => ?_
    cases m with
    | none => exact hv
    | some m => exact hv.withPacker fun hb => Packer.configure_bounded hb m a b
  | playStart t id a b l x p r => exact request h fun hv => named hv fun p => hv.playStart id a b l x p r
  | playStop t w => exact request h fun hv => named hv fun w => hv.playStop w
  | playPause t w => exact request h fun hv => named hv fun w => hv.playPause w
  | playContinue t => exact request h fun hv => hv.playContinue
  | playTempo t n w => exact request h fun hv => named hv fun w => hv.playTempo n w
  | playParts t p => exact request h fun hv => named hv fun p => hv.playParts p
  | waitConfig t a b => exact request h fun hv => hv.waitConfig a b
  | playSuspend t x => exact request h fun hv => named hv fun x => hv.playSuspend x
  | playResume t x => exact request h fun hv => named hv fun x => hv.playResume x
  | slotDiscard t x => exact request h fun hv => named hv fun x => hv.slotDiscard x
  | statsRead t n => exact request h fun hv => hv.statsRead n
  | restart t => exact request h fun hv => hv.update (by rfl)
  | keyQuery t _ | scanQuery t | pedalQuery t | routeQuery t | railQuery t | voiceQuery t | voiceRead t _ _
  | soundsetQuery t | zoneRead t _ _ | streamRead t _ | mixQuery t | takeList t | takeInfo t _ | recQuery t | streamQuery t
  | playerQuery t | status t | identify t =>
    exact request h fun hv => hv

theorem step_staysWithin {s s' : State} (h : step s = .next s') : s'.staysWithin s := by
  obtain rfl | ⟨c, cs, -, h⟩ := step_cases h
  · exact s.staysWithin_refl.update (by rfl)
  · exact exec_staysWithin (s.staysWithin_refl.update (by rfl)) h

/-- Settles O53: no command touches the sound memory or the table of kinds, the take store is written only by operations that
keep its canonical form, and nothing joins a queue or a list that has no place for it (`State.staysWithin`). -/
theorem stepsKeepTheMemoriesAndQueues : Obligations.StepsKeepTheMemoriesAndQueues :=
  ⟨fun _ _ hs _ h => (step_staysWithin h).memoriesCanonical hs, fun _ _ hs _ h => (step_staysWithin h).queuesBounded hs,
    fun _ _ hs _ h => (step_staysWithin h).kindsLawful hs⟩

end Sys2Proof.Machine
end

section
/-! The Practice Player's operations do not see the request queue (10). -/

namespace Sys2Proof.Machine

section
variable (rest : List Frame)

/-! ### What the queue's rest leaves of the state -/

@[simp] theorem State.withRequests_clock (s : State) : (s.withRequests rest).clock = s.clock := rfl
@[simp] theorem State.withRequests_voices (s : State) : (s.withRequests rest).voices = s.voices := rfl
@[simp] theorem State.withRequests_fetch (s : State) : (s.withRequests rest).fetch = s.fetch := rfl
@[simp] theorem State.withRequests_store (s : State) : (s.withRequests rest).store = s.store := rfl
@[simp] theorem State.withRequests_player (s : State) : (s.withRequests rest).player = s.player := rfl
@[simp] theorem State.withRequests_context (src : Source) (s : State) :
    (s.withRequests rest).context src = s.context src := rfl
@[simp] theorem State.withRequests_dueRecords (s : State) : (s.withRequests rest).dueRecords = s.dueRecords := rfl

/-- Both branches commuting with a map, the choice does. -/
theorem ite_commutes {α β : Type} (g : α → β) {p : Prop} [Decidable p] {a b : α} {a' b' : β} (ha : a' = g a) (hb : b' = g b) :
    (if p then a' else b') = g (if p then a else b) := by
  rw [ha, hb, apply_ite g]

/-! ### Claims to the Voice Engine -/

theorem State.stealIfFull_withRequests (s : State) : (s.withRequests rest).stealIfFull = s.stealIfFull.withRequests rest :=
  ite_commutes (State.withRequests rest) (s.steal_withRequests rest) rfl

theorem State.allocateVoice_withRequests (src : Source) (key velocity zone gain : Nat) (s : State) :
    (s.withRequests rest).allocateVoice src key velocity zone gain =
      (s.allocateVoice src key velocity zone gain).withRequests rest := by
  simp only [State.allocateVoice, State.withRequests_voices]
  cases s.voices.free <;> rfl

theorem State.noteOn_withRequests (src : Source) (key velocity : Nat) (s : State) :
    (s.withRequests rest).noteOn src key velocity = (s.noteOn src key velocity).withRequests rest := by
  simp only [State.noteOn, State.withRequests_fetch, State.withRequests_context]
  refine ite_commutes (State.withRequests rest) rfl ?_
  cases s.fetch.chooseZone key (effectiveVelocity (s.context src).soft velocity) with
  | none => rfl
  | some z =>
    have hfull := State.stealIfFull_withRequests rest { s with voices := s.voices.restrike src key }
    exact (congrArg (State.allocateVoice src key velocity z _) hfull).trans (State.allocateVoice_withRequests ..)

theorem State.noteOff_withRequests (src : Source) (key : Nat) (s : State) :
    (s.withRequests rest).noteOff src key = (s.noteOff src key).withRequests rest := by
  simp only [State.noteOff, State.withRequests_voices]
  cases s.voices.find src key <;> rfl

theorem State.claimIf_withRequests (b : Bool) (s : State) : (s.withRequests rest).claimIf b = (s.claimIf b).withRequests rest := by
  cases b <;> rfl

theorem State.setContext_withRequests (c : PedalContext) (b : Bool) (s : State) :
    (s.withRequests rest).setContext c b = (s.setContext c b).withRequests rest := by
  let s0 : State := { s with player := { s.player with context := c } }
  change (((s0.withRequests rest).claimIf _).claimIf _).claimIf _ = _
  rw [State.claimIf_withRequests, State.claimIf_withRequests, State.claimIf_withRequests]
  rfl

theorem State.releaseOpen_withRequests (s : State) : (s.withRequests rest).releaseOpen = s.releaseOpen.withRequests rest :=
  congrArg (fun u : State => { u with player := { u.player with openNotes := [] } })
    (List.foldl_hom (State.withRequests rest) fun u k => u.noteOff_withRequests rest .playback k)

/-! ### Waits (R175, R176) -/

theorem State.offerKey_withRequests (k : Nat) (s : State) : (s.withRequests rest).offerKey k = (s.offerKey k).withRequests rest :=
  ite_commutes (State.withRequests rest) rfl (ite_commutes (State.withRequests rest) rfl rfl)

theorem State.earlyMatchKey_withRequests (k : Nat) (s : State) :
    (s.withRequests rest).earlyMatchKey k = (s.earlyMatchKey k).withRequests rest := by
  simp only [State.earlyMatchKey, State.withRequests_player, State.withRequests_clock]
  cases newestWithin k s.clock s.player.window s.player.recent <;> rfl

theorem State.earlyMatch_withRequests (s : State) : (s.withRequests rest).earlyMatch = s.earlyMatch.withRequests rest :=
  List.foldl_hom (State.withRequests rest) fun u k => u.earlyMatchKey_withRequests rest k

theorem State.endWait_withRequests (how : WaitEnd) (d : Nat) (s : State) :
    (s.withRequests rest).endWait how d = (s.endWait how d).withRequests rest :=
  State.withRequests_notify rest _ { s with player := s.player.clearWait }

theorem State.waitTest_withRequests (s : State) : (s.withRequests rest).waitTest = s.waitTest.withRequests rest := by
  simp only [State.waitTest, State.earlyMatch_withRequests, State.endWait_withRequests, State.withRequests_player]
  exact ite_commutes (State.withRequests rest) rfl (ite_commutes (State.withRequests rest) rfl rfl)

/-! ### Ends, pauses, loops and marks (R168, R170 to R172) -/

/-- R171: the player gives its take up: the wait is dropped, the ticks stop, and the take is unpinned. -/
def State.leaveTake (s : State) : State :=
  { s with
    store := match s.player.take with | some id => s.store.unpin .player id | none => s.store
    player := { s.player.dropWait.stopTicks with
      staged := none, halt := none, cueLeft := 0, resume := none, state := .idle, take := none } }

/-- R171: a take ends with its notes released and the context cleared, and the notice names the take that was played. -/
theorem State.endTake_eq (why : PlayReason) (s : State) :
    s.endTake why =
      let r := s.releaseOpen.setContext PedalContext.clear false
      r.leaveTake.notify (r.leaveTake.player.stateNotice r.player.take why) := by
  unfold State.endTake
  generalize s.releaseOpen.setContext PedalContext.clear false = r
  rfl

/-- R172: the player holds its take in PAUSED: ticks and the wait timer stop, and a wait is kept as pending. -/
def State.holdTake (s : State) : State :=
  { s with player := { s.player.stopTicks with waitTimer := none, waitPending := !s.player.expected.isEmpty, state := .paused } }

/-- R172: a pause releases the notes and keeps the context. -/
theorem State.pausePlay_eq (s : State) :
    s.pausePlay =
      let r := s.releaseOpen.holdTake
      r.notify (r.player.stateNotice r.player.take .paused) := rfl

theorem State.endTake_withRequests (why : PlayReason) (s : State) :
    (s.withRequests rest).endTake why = (s.endTake why).withRequests rest := by
  simp only [State.endTake_eq, State.releaseOpen_withRequests, State.setContext_withRequests, State.withRequests_player]
  exact State.withRequests_notify rest _ (State.leaveTake _)

theorem State.pausePlay_withRequests (s : State) : (s.withRequests rest).pausePlay = s.pausePlay.withRequests rest := by
  simp only [State.pausePlay_eq, State.releaseOpen_withRequests]
  exact State.withRequests_notify rest _ (State.holdTake _)

theorem State.loopJump_withRequests (s : State) : (s.withRequests rest).loopJump = s.loopJump.withRequests rest := by
  simp only [State.loopJump, State.releaseOpen_withRequests, State.setContext_withRequests, State.withRequests_player]
  rfl

theorem State.loopEnd_withRequests (jumped : Bool) (s : State) :
    (s.withRequests rest).loopEnd jumped = (s.loopEnd jumped).map (State.withRequests rest) id := by
  simp only [State.loopEnd, State.loopJump_withRequests, State.endTake_withRequests, State.withRequests_player]
  exact ite_commutes (Prod.map (State.withRequests rest) id) rfl rfl

theorem State.haltActs_withRequests (go : Go) (s : State) :
    (s.withRequests rest).haltActs go = (s.haltActs go).map (State.withRequests rest) id := by
  simp only [State.haltActs, State.withRequests_player]
  cases s.player.halt with
  | none => rfl
  | some h =>
    cases h with
    | stop => exact congrArg (·, Go.stop) (s.endTake_withRequests rest .stopped)
    | pause => exact congrArg (·, Go.stop) (State.pausePlay_withRequests rest { s with player := { s.player with halt := none } })

theorem State.markPassed_withRequests (n time : Nat) (s : State) :
    (s.withRequests rest).markPassed n time = (s.markPassed n time).withRequests rest := by
  let m : State := { s with player := { s.player with mark := some n } }
  have hreport : (if s.player.reportMarks then (m.withRequests rest).notify (.playerMark n time s.player.repeats)
      else m.withRequests rest) = State.withRequests rest (if s.player.reportMarks then _ else _) :=
    ite_commutes (State.withRequests rest) (State.withRequests_notify rest _ m) rfl
  unfold State.markPassed
  rw [State.withRequests_player]
  cases s.player.staged with
  | none => exact hreport
  | some t => exact congrArg (fun u : State => { u with player := { u.player with tempo := t, staged := none } }) hreport

theorem State.handleMark_withRequests (n time : Nat) (jumped : Bool) (s : State) :
    (s.withRequests rest).handleMark n time jumped = (s.handleMark n time jumped).map (State.withRequests rest) id := by
  simp only [State.handleMark, State.markPassed_withRequests, State.loopEnd_withRequests, State.withRequests_player]
  refine ite_commutes (Prod.map (State.withRequests rest) id) ?_ (State.haltActs_withRequests ..)
  obtain ⟨s2, go⟩ := (s.markPassed n time).loopEnd jumped
  cases go with
  | stop => rfl
  | next | jump => exact State.haltActs_withRequests ..

/-! ### Records (R164, R166) -/

theorem State.handleOn_withRequests (k v : Nat) (part : Part) (s : State) :
    (s.withRequests rest).handleOn k v part = (s.handleOn k v part).withRequests rest := by
  cases part with
  | sound =>
    simp only [State.handleOn, State.noteOn_withRequests]
    rfl
  | mute => rfl
  | practice => exact s.offerKey_withRequests rest k

theorem State.handleOff_withRequests (k : Nat) (s : State) :
    (s.withRequests rest).handleOff k = (s.handleOff k).withRequests rest := by
  simp only [State.handleOff, State.noteOff_withRequests, State.withRequests_player]
  exact ite_commutes (State.withRequests rest) rfl rfl

theorem State.handleRecord_withRequests (x : Timed) (jumped : Bool) (s : State) :
    (s.withRequests rest).handleRecord x jumped = (s.handleRecord x jumped).map (State.withRequests rest) id := by
  have hpos : ({ s.withRequests rest with player := { s.player with pos := x.pos + 1 } } : State) =
      State.withRequests rest { s with player := { s.player with pos := x.pos + 1 } } := rfl
  simp only [State.handleRecord, State.withRequests_player, hpos]
  cases x.record.body with
  | noteOn k v => exact congrArg (·, Go.next) (State.handleOn_withRequests ..)
  | noteOff k => exact congrArg (·, Go.next) (State.handleOff_withRequests ..)
  | pedal p l => exact congrArg (·, Go.next) (State.setContext_withRequests ..)
  | mark n => exact State.handleMark_withRequests ..
  | endTake =>
    exact ite_commutes (Prod.map (State.withRequests rest) id) (State.loopEnd_withRequests ..)
      (congrArg (·, Go.stop) (State.endTake_withRequests ..))
  | fill | gap _ | unknown _ => rfl

theorem State.handleList_withRequests (jumped : Bool) (xs : List Timed) (s : State) :
    (s.withRequests rest).handleList jumped xs = (s.handleList jumped xs).map (State.withRequests rest) id := by
  induction xs generalizing s with
  | nil => rfl
  | cons x xs ih =>
    simp only [State.handleList, State.handleRecord_withRequests]
    obtain ⟨s', go⟩ := s.handleRecord x jumped
    cases go with
    | next => exact ih s'
    | jump | stop => rfl

theorem State.handleDue_withRequests (s : State) :
    (s.withRequests rest).handleDue = s.handleDue.map (State.withRequests rest) id := by
  simp only [State.handleDue, State.handleList_withRequests, State.withRequests_dueRecords]
  obtain ⟨s', go⟩ := s.handleList false s.dueRecords
  cases go with
  | next | stop => rfl
  | jump =>
    simp only [Prod.map, State.handleList_withRequests, State.withRequests_dueRecords, id]
    obtain ⟨s'', go'⟩ := s'.handleList true s'.dueRecords
    cases go' <;> rfl

theorem State.handleAndTest_withRequests (s : State) :
    (s.withRequests rest).handleAndTest = s.handleAndTest.withRequests rest := by
  simp only [State.handleAndTest, State.handleDue_withRequests]
  obtain ⟨s', goesOn⟩ := s.handleDue
  cases goesOn with
  | true => exact s'.waitTest_withRequests rest
  | false => rfl

theorem State.enterPlaying_withRequests (s : State) : (s.withRequests rest).enterPlaying = s.enterPlaying.withRequests rest :=
  State.handleAndTest_withRequests rest { s with player := { s.player with state := .playing } }

end

end Sys2Proof.Machine
end

section
/-! PLAY_CONTINUE, PLAYER_TICK and CUE_DONE (R161, R163, R164, R173). -/

namespace Sys2Proof.Machine

/-! ### What notices leave of the state -/

@[simp] theorem State.notify_player (n : Notice) (s : State) : (s.notify n).player = s.player := by
  obtain ⟨ns, x, h⟩ := s.notify_frame n
  rw [h]

@[simp] theorem State.notify_store (n : Notice) (s : State) : (s.notify n).store = s.store := by
  obtain ⟨ns, x, h⟩ := s.notify_frame n
  rw [h]

@[simp] theorem State.notify_dueRecords (n : Notice) (s : State) : (s.notify n).dueRecords = s.dueRecords := by
  simp [State.dueRecords, State.playRecords]

/-- An operation of `sameControl` leaves the link taking. -/
theorem State.sameControl.taking {u s : State} (h : u.sameControl s) (hs : s.link.taking) : u.link.taking := by
  rw [h.link]
  exact hs

/-! ### Going on with nothing due (R164) -/

/-- R164: with no record due and nothing expected, the player goes on with a new interval. -/
theorem State.handleAndTest_nothingDue {s : State} (hd : s.dueRecords = []) (he : s.player.expected = []) :
    s.handleAndTest = { s with player := s.player.startInterval } := by
  simp [State.handleAndTest, State.handleDue, State.handleList, State.waitTest, hd, he]

theorem State.enterPlaying_nothingDue {s : State} (hd : s.dueRecords = []) (he : s.player.expected = []) :
    s.enterPlaying = { s with player := ({ s.player with state := .playing } : Player).startInterval } :=
  State.handleAndTest_nothingDue (s := { s with player := { s.player with state := .playing } }) hd he

theorem State.playTick_nothingDue {s : State}
    (hd : ({ s with player := { s.player with clock := s.player.clock + 1 } } : State).dueRecords = [])
    (he : s.player.expected = []) :
    s.playTick = { s with
      player := ({ s.player with clock := s.player.clock + 1, tickStart := s.player.pos } : Player).startInterval } :=
  State.handleAndTest_nothingDue
    (s := { s with player := { s.player with clock := s.player.clock + 1, tickStart := s.player.pos } }) hd he

/-! ### PLAY_CONTINUE (R173) -/

theorem State.playContinue_refused {s : State} (h : s.player.state ≠ .paused) : s.playContinue = (s, .refusedState) := if_pos h

/-- R173: the player as PLAY_CONTINUE leaves it, before the notice. -/
def State.goesOn (s : State) : State := ({ s with player := { s.player with waitPending := false } } : State).enterPlaying

theorem State.playContinue_paused {s : State} (h : s.player.state = .paused) :
    s.playContinue =
      (if s.goesOn.player.state = .playing ∨ s.goesOn.player.state = .waiting
        then s.goesOn.notify (s.goesOn.player.stateNotice s.goesOn.player.take .continued) else s.goesOn, .ok) := by
  have hgoes : ({ s with player := { s.player with waitPending := false } } : State).enterPlaying = s.goesOn := rfl
  rw [State.playContinue, if_neg (not_not.2 h)]
  simp only [hgoes]
  cases s.goesOn.player.state <;> simp

theorem State.playContinue_blind : queueBlind State.playContinue := by
  intro rest s
  have hgoes : (s.withRequests rest).goesOn = s.goesOn.withRequests rest :=
    State.enterPlaying_withRequests rest { s with player := { s.player with waitPending := false } }
  by_cases h : s.player.state = .paused
  · rw [State.playContinue_paused h, State.playContinue_paused (s := s.withRequests rest) h, hgoes]
    exact congrArg (·, Status.ok) (ite_commutes (State.withRequests rest) (State.withRequests_notify ..) rfl)
  · rw [State.playContinue_refused h, State.playContinue_refused (s := s.withRequests rest) h]

theorem State.goesOn_sameControl (s : State) : s.goesOn.sameControl s :=
  (State.enterPlaying_sameControl _).trans (s.sameControl_update ..)

/-- R173: PLAY_CONTINUE is refused but in PAUSED; there the notice goes out unless the take ended or paused again. -/
theorem continuingPlay : Claims.ContinuingPlay := by
  intro s t f rest h u v
  have hl : u.link.taking := State.offers_taking t h
  have hv : u.goesOn.link.taking := u.goesOn_sameControl.taking hl
  refine ⟨fun hs => ?_, fun hs hgo => ?_, fun hs hstop => ?_⟩
  · exact State.playContinue_blind.answers h (State.playContinue_refused hs) hl
  · exact State.playContinue_blind.answers h
      ((State.playContinue_paused (s := u) hs).trans (congrArg (·, Status.ok) (if_pos hgo))) (State.notify_taking _ hv)
  · have hnot : ¬(v.player.state = .playing ∨ v.player.state = .waiting) := by
      obtain hidle | hpaused := hstop
      · simp [hidle]
      · simp [hpaused]
    exact State.playContinue_blind.answers h
      ((State.playContinue_paused (s := u) hs).trans (congrArg (·, Status.ok) (if_neg hnot))) hv

/-! ### CUE_DONE (R163) -/

/-- A context that is not changed makes no claim. -/
theorem State.setContext_same (s : State) : s.setContext s.player.context false = s := by
  simp [State.setContext, State.claimIf]

/-- R163: without a from mark the cue reads no record, and playing begins at the take's start with every pedal up. -/
def State.cuedAtStart (s : State) : State :=
  { s with player := { s.player with
    snapshot := { damper := 0, sostenuto := false, soft := 0 }, loopPos := 0, loopTime := 0, pos := 0, clock := 0
    mark := none, tickStart := 0 } }

theorem State.cueEnd_atStart {s : State} (hm : s.player.fromMark = none) (hr : s.player.resume = none)
    (hc : s.player.context = PedalContext.clear) : s.cueEnd = s.cuedAtStart := by
  have hloop : s.cueLoop = { s.player with
      snapshot := { damper := 0, sostenuto := false, soft := 0 }, loopPos := 0, loopTime := 0 } := by
    simp [State.cueLoop, State.cueRecords, hm]
  have hclaims : s.cueEnd = s.cuedAtStart.setContext s.cuedAtStart.player.context false := by
    rw [show s.cuedAtStart.player.context = PedalContext.clear from hc]
    simp [State.cueEnd, State.cuedAtStart, Snapshot.context, PedalContext.clear, hloop, hr, hm]
  rw [hclaims, State.setContext_same]

theorem State.cueDone_nothingDue {s : State} (hm : s.player.fromMark = none) (hr : s.player.resume = none)
    (hc : s.player.context = PedalContext.clear) (hd : s.cuedAtStart.dueRecords = []) (he : s.player.expected = []) :
    s.cueDone =
      let v := s.cuedAtStart.notify (.playerState .playing .cued s.player.take 0 none s.player.repeats)
      { v with player := ({ s.cuedAtStart.player with state := .playing } : Player).startInterval } := by
  have henter := State.enterPlaying_nothingDue hd he
  have hplays : s.cuedAtStart.enterPlaying.player.state ≠ .waiting := by
    rw [henter]
    exact PlayerState.noConfusion
  rw [State.cueDone]
  simp only [State.cueEnd_atStart hm hr hc, if_neg hplays]
  rw [State.enterPlaying_nothingDue (by rw [State.notify_dueRecords, hd]) (by rw [State.notify_player]; exact he)]
  simp only [State.notify_player]
  rfl

/-- Settles O44: with nothing due and nothing expected the wait test starts the next interval, whichever event comes to it. -/
theorem thePlayerTicksOn : Obligations.ThePlayerTicksOn := by
  intro s t f rest u p n d frac
  refine ⟨fun h hs he hd => ?_, fun k hs hk hle he hd => ?_, fun hs hle hm hr hc he hd => ?_⟩
  · have hgo : ({ u with player := { u.player with state := .playing, waitPending := false } } : State).handleAndTest = _ :=
      State.handleAndTest_nothingDue hd he
    have hexec := (continuingPlay s t f rest h).2.1 hs (.inl (by rw [hgo]; rfl))
    rw [hexec, hgo]
    rfl
  · have hdue : u.player.tickLeft.due = true := Timer.after_due hk hle
    have hact : (if u.player.state = .playing ∧ u.player.tickLeft.due = true then u.playTick else u) = u.playTick :=
      if_pos ⟨hs, hdue⟩
    exact congrArg (fun v : State => Host.Outcome.next v.arbitrate) (hact.trans (State.playTick_nothingDue hd he))
  · have hread : u.player.cueLeft = 0 := Nat.sub_eq_zero_of_le hle
    have hact : (if u.player.state = .cueing ∧ u.player.cueLeft = 0 then u.cueDone else u) = u.cueDone := if_pos ⟨hs, hread⟩
    refine congrArg (fun v : State => Host.Outcome.next v.arbitrate)
      (hact.trans ((State.cueDone_nothingDue (s := u) hm hr hc hd he).trans ?_))
    simp only [State.notify_player]
    rfl

end Sys2Proof.Machine
end

section
/-! PLAY_TEMPO, PLAY_PARTS, WAIT_CONFIG, PLAY_STOP and PLAY_PAUSE (R165, R167, R169, R171, R172, R177). -/

namespace Sys2Proof.Machine

/-! ### The end of a take and the pause, field by field (R171, R172) -/

/-- With the notes released and the context set, only the voice table and those two fields of the player differ. -/
theorem State.released_frame (c : PedalContext) (b : Bool) (s : State) :
    ∃ tb, s.releaseOpen.setContext c b = { s with
      voices := { s.voices with table := tb }, player := { s.player with openNotes := [], context := c } } := by
  obtain ⟨tb, hr⟩ := s.releaseOpen_frame
  obtain ⟨tb', hc⟩ := s.releaseOpen.setContext_frame c b
  exact ⟨tb', by rw [hc, hr]⟩

theorem State.notify_stats (n : Notice) (s : State) :
    (s.notify n).stats = if s.link.notices.length < 16 then s.stats else (s.tally .noticesLost).stats := by
  unfold State.notify
  split <;> rfl

theorem State.endTake_player (why : PlayReason) (s : State) :
    (s.endTake why).player =
      { s.player.dropWait.stopTicks with
        openNotes := [], context := PedalContext.clear, staged := none, halt := none, cueLeft := 0, resume := none
        state := .idle, take := none } := by
  obtain ⟨tb, hr⟩ := s.released_frame PedalContext.clear false
  rw [State.endTake_eq, State.notify_player, hr]
  rfl

theorem State.endTake_store (why : PlayReason) (s : State) {id : Nat} (h : s.player.take = some id) :
    (s.endTake why).store = s.store.unpin .player id := by
  obtain ⟨tb, hr⟩ := s.released_frame PedalContext.clear false
  rw [State.endTake_eq, State.notify_store, hr]
  simp only [State.leaveTake, h]

theorem State.endTake_voices (why : PlayReason) (s : State) :
    (s.endTake why).voices = (s.releaseOpen.setContext PedalContext.clear false).voices := by
  rw [State.endTake_eq, State.notify_voices]
  rfl

theorem State.endTake_stats (why : PlayReason) (s : State) :
    (s.endTake why).stats = if s.link.notices.length < 16 then s.stats else (s.tally .noticesLost).stats := by
  obtain ⟨tb, hr⟩ := s.released_frame PedalContext.clear false
  rw [State.endTake_eq, State.notify_stats, hr]
  rfl

theorem State.pausePlay_player (s : State) :
    s.pausePlay.player =
      { s.player.stopTicks with
        openNotes := [], waitTimer := none, waitPending := !s.player.expected.isEmpty, state := .paused } := by
  obtain ⟨tb, hr⟩ := s.releaseOpen_frame
  rw [State.pausePlay_eq, State.notify_player, hr]
  rfl

theorem State.pausePlay_voices (s : State) : s.pausePlay.voices = s.releaseOpen.voices := by
  rw [State.pausePlay_eq, State.notify_voices]
  rfl

/-- R133: the player's pin leaves a take of the directory. -/
theorem Store.unpin_player {st : Store} {id : Nat} {tk : Take} (h : 1 ≤ id) (ht : st.takes[id - 1]? = some (some tk)) :
    st.unpin .player id =
      { st with takes := st.takes.set (id - 1) (some { tk with holders := { tk.holders with player := false } }) } := by
  have hfound : st.take? id = some tk := by
    rw [Store.take?, if_neg (by omega), ht]
    rfl
  rw [Store.unpin, Store.setHolder, hfound]
  exact congrArg (fun ts => ({ st with takes := ts } : Store)) (updateAt_const ..)

/-! ### The arguments -/

theorem tempoOk_iff (n : Nat) : tempoOk n = true ↔ 25 ≤ n ∧ n ≤ 200 := by simp [tempoOk, inRange]

theorem waitOk_iff (w o : Nat) : waitOk w o = true ↔ w ≤ 500 ∧ o ≤ 60000 := by simp [waitOk]

/-- R162, R167: the parts are named only when each of the three is. -/
theorem partsOf_unnamed {a : PartsArg} (h : a.left = none ∨ a.right = none ∨ a.noHand = none) : partsOf a = none := by
  unfold partsOf
  split
  next hl hr hn => simp [hl, hr, hn] at h
  next => rfl

/-! ### PLAY_STOP and PLAY_PAUSE (R169, R171, R172) -/

theorem State.playStop_idle {s : State} (h : s.player.state = .idle) (w : When) : s.playStop w = (s, .refusedState) := if_pos h

theorem State.playStop_now {s : State} (h : s.player.state ≠ .idle) : s.playStop .now = (s.endTake .stopped, .ok) := if_neg h

theorem State.playStop_atMark {s : State} (h : s.player.state ≠ .idle) :
    s.playStop .atMark = ({ s with player := { s.player with halt := some .stop } }, .ok) := if_neg h

theorem State.playStop_blind (w : When) : queueBlind (State.playStop w) := by
  intro rest s
  by_cases h : s.player.state = .idle
  · rw [State.playStop_idle h, State.playStop_idle (s := s.withRequests rest) h]
  · cases w with
    | now => rw [State.playStop_now h, State.playStop_now (s := s.withRequests rest) h, State.endTake_withRequests]
    | atMark => rw [State.playStop_atMark h, State.playStop_atMark (s := s.withRequests rest) h]; rfl

theorem State.playPause_idle {s : State} (h : s.player.state = .idle) (w : When) : s.playPause w = (s, .refusedState) := by
  simp [State.playPause, h]

theorem State.playPause_atMark {s : State} (h : s.player.state ≠ .idle) :
    s.playPause .atMark = ({ s with player := { s.player with halt := some .pause } }, .ok) := by
  unfold State.playPause
  cases hs : s.player.state with
  | idle => exact absurd hs h
  | cueing | playing | waiting | paused => rfl

theorem State.playPause_now {s : State} (h : s.player.state = .playing ∨ s.player.state = .waiting) :
    s.playPause .now = (s.pausePlay, .ok) := by
  unfold State.playPause
  obtain h | h := h <;> rw [h]

theorem State.playPause_refused {s : State} (h : s.player.state = .cueing ∨ s.player.state = .paused) :
    s.playPause .now = (s, .refusedState) := by
  unfold State.playPause
  obtain h | h := h <;> rw [h]

theorem State.playPause_blind (w : When) : queueBlind (State.playPause w) := by
  intro rest s
  simp only [State.playPause, State.withRequests_player, State.pausePlay_withRequests]
  cases s.player.state <;> cases w <;> rfl

/-- R171, R172: the end and the pause field by field, and what they leave of the rest. -/
theorem stoppingAndPausingPlay : Claims.StoppingAndPausingPlay := by
  intro s t f rest id tk hidle htake hid htk
  have hl (q : Request) (h : s.offers q f rest) : (s.upTo t).link.taking := State.offers_taking t h
  constructor
  · intro h
    refine ⟨(s.upTo t).endTake .stopped, (State.playStop_blind .now).answers h (State.playStop_now hidle)
      (((s.upTo t).endTake_sameControl .stopped).taking (hl _ h)), ?_⟩
    have hplayer := (s.upTo t).endTake_player .stopped
    have hstore := ((s.upTo t).endTake_store .stopped htake).trans (Store.unpin_player hid htk)
    have hvoices := (s.upTo t).endTake_voices .stopped
    have hstats := (s.upTo t).endTake_stats .stopped
    obtain ⟨tb, st, p, ns, x, hframe⟩ := (s.upTo t).endTake_frame .stopped
    rw [hframe] at hplayer hstore hvoices hstats ⊢
    subst hplayer
    exact ⟨rfl, rfl, rfl, rfl, rfl, rfl, rfl, rfl, rfl, rfl, rfl, rfl, rfl, rfl, hstore, hstats, hvoices, rfl⟩
  · intro hplays h
    refine ⟨(s.upTo t).pausePlay, (State.playPause_blind .now).answers h (State.playPause_now hplays)
      ((s.upTo t).pausePlay_sameControl.taking (hl _ h)), ?_⟩
    have hplayer := (s.upTo t).pausePlay_player
    have hvoices := (s.upTo t).pausePlay_voices
    obtain ⟨tb, p, ns, x, hframe⟩ := (s.upTo t).pausePlay_frame
    rw [hframe] at hplayer hvoices ⊢
    subst hplayer
    exact ⟨rfl, htake, rfl, rfl, rfl, rfl, rfl, rfl, rfl, rfl, hvoices, rfl⟩

/-! ### PLAY_TEMPO (R165) -/

theorem State.playTempo_bad {n : Nat} (h : n < 25 ∨ 200 < n) (w : When) (s : State) :
    s.playTempo n w = (s, .badArgument, .nothing) := by
  have hbad : tempoOk n = false := by rw [Bool.eq_false_iff, Ne, tempoOk_iff]; omega
  simp [State.playTempo, hbad]

theorem State.playTempo_idle {n : Nat} (h : 25 ≤ n ∧ n ≤ 200) {s : State} (hs : s.player.state = .idle) (w : When) :
    s.playTempo n w = (s, .refusedState, .nothing) := by
  simp [State.playTempo, (tempoOk_iff n).2 h, hs]

theorem State.playTempo_now {n : Nat} (h : 25 ≤ n ∧ n ≤ 200) {s : State} (hs : s.player.state ≠ .idle) :
    s.playTempo n .now = ({ s with player := { s.player with tempo := n } }, .ok, .tempo n s.player.staged) := by
  simp [State.playTempo, (tempoOk_iff n).2 h, hs]

theorem State.playTempo_atMark {n : Nat} (h : 25 ≤ n ∧ n ≤ 200) {s : State} (hs : s.player.state ≠ .idle) :
    s.playTempo n .atMark = ({ s with player := { s.player with staged := some n } }, .ok, .tempo s.player.tempo (some n)) := by
  simp [State.playTempo, (tempoOk_iff n).2 h, hs]

/-! ### PLAY_PARTS (R167) -/

/-- The player under new parts. -/
def State.withParts (p : Parts) (s : State) : State := { s with player := { s.player with parts := p } }

/-- R167: the player under new parts, and without its wait. -/
def State.withPartsUnwaited (p : Parts) (s : State) : State :=
  { s with player := { s.player.clearWait with parts := p, expected := [], waitPending := false } }

/-- R167: PLAY_PARTS, state by state. -/
theorem State.playParts_eq (p : Parts) (s : State) :
    s.playParts p =
      if s.player.state = .idle then (s, .refusedState)
      else if p.practises then (s.withParts p, .ok)
      else
        match s.player.state with
        | .waiting => ((s.withPartsUnwaited p).enterPlaying, .ok)
        | .paused => if s.player.waitPending then (s.withPartsUnwaited p, .ok) else (s.withParts p, .ok)
        | _ => (s.withParts p, .ok) := rfl

theorem State.playParts_idle {s : State} (h : s.player.state = .idle) (p : Parts) : s.playParts p = (s, .refusedState) := if_pos h

theorem State.playParts_practising {s : State} (h : s.player.state ≠ .idle) {p : Parts} (hp : p.practises = true) :
    s.playParts p = (s.withParts p, .ok) := by
  rw [State.playParts, if_neg h]
  exact if_pos hp

/-- R167: without a hand in PRACTICE there is nothing left to wait for. -/
theorem State.playParts_unpractised {s : State} (h : s.player.state ≠ .idle) {p : Parts} (hp : p.practises = false) :
    s.playParts p =
      (if s.player.state = .waiting then (s.withPartsUnwaited p).enterPlaying
        else if s.player.state = .paused ∧ s.player.waitPending = true then s.withPartsUnwaited p else s.withParts p, .ok) := by
  rw [State.playParts_eq, if_neg h, if_neg (Bool.eq_false_iff.1 hp)]
  cases hs : s.player.state with
  | idle => exact absurd hs h
  | cueing | playing | waiting => rfl
  | paused => cases s.player.waitPending <;> rfl

theorem State.playParts_blind (p : Parts) : queueBlind (State.playParts p) := by
  intro rest s
  by_cases h : s.player.state = .idle
  · rw [State.playParts_idle h, State.playParts_idle (s := s.withRequests rest) h]
  · cases hp : p.practises with
    | true =>
      rw [State.playParts_practising h hp, State.playParts_practising (s := s.withRequests rest) h hp]
      rfl
    | false =>
      rw [State.playParts_unpractised h hp, State.playParts_unpractised (s := s.withRequests rest) h hp]
      exact congrArg (·, Status.ok) (ite_commutes (State.withRequests rest)
        (State.enterPlaying_withRequests rest (s.withPartsUnwaited p)) (ite_commutes (State.withRequests rest) rfl rfl))

/-! ### The requests answered -/

theorem State.playSuspend_idle {s : State} (h : s.player.state = .idle) (x : SlotId) : s.playSuspend x = (s, .refusedState) := by
  simp [State.playSuspend, h]

theorem State.waitConfig_eq (w o : Nat) (s : State) :
    s.waitConfig w o =
      if w ≤ 500 ∧ o ≤ 60000 then ({ s with player := { s.player with window := w, timeout := o } }, .ok)
      else (s, .badArgument) := by
  by_cases h : w ≤ 500 ∧ o ≤ 60000
  · simp [State.waitConfig, (waitOk_iff w o).2 h, h]
  · have hbad : waitOk w o = false := by rwa [Bool.eq_false_iff, Ne, waitOk_iff]
    rw [State.waitConfig, hbad, if_neg h]
    rfl

/-- R165, R167, R169, R177: each request's argument is judged first, then the state, and what it sets is the player's alone. -/
theorem playerSettingsAreTaken : Claims.PlayerSettingsAreTaken := by
  intro s t f rest n w o p u q play answer parts tempo part stop pause
  have hl {r : Request} (h : s.offers r f rest) : u.link.taking := State.offers_taking t h
  have partsAnswer {v : State} (h : part) (hv : v.link.taking) (e : u.playParts p = (v, .ok)) :
      exec (.playParts t parts) s = answer v .ok .nothing := (State.playParts_blind p).answers h e hv
  refine ⟨?badTempo, ⟨?noTime, ?noStop, ?noPause, ?noPart⟩, ?tempo, ?practised, ?unpractised, ?halts, ?pauseRefused, ?idle,
    ?wait⟩
  case badTempo =>
    intro y hn h
    cases y with
    | none => exact request_answers h rfl (hl h)
    | some x => exact request_answers h (State.playTempo_bad hn x _) (hl h)
  case noTime => exact fun h => request_answers h rfl (hl h)
  case noStop => exact fun h => plainly_answers h rfl (hl h)
  case noPause => exact fun h => plainly_answers h rfl (hl h)
  case noPart =>
    intro a ha h
    exact plainly_answers h (by rw [partsOf_unnamed ha]; rfl) (hl h)
  case tempo =>
    intro hlow hhigh hs h
    have hn : 25 ≤ n ∧ n ≤ 200 := ⟨hlow, hhigh⟩
    exact ⟨request_answers h (State.playTempo_now (s := u.withRequests rest) hn hs) (hl h),
      request_answers h (State.playTempo_atMark (s := u.withRequests rest) hn hs) (hl h)⟩
  case practised =>
    intro hs hp h
    exact partsAnswer h (hl h) (State.playParts_practising (s := u) hs ((Parts.practises_iff p).2 hp))
  case unpractised =>
    intro hleft hright hnone h dropped
    have hp : p.practises = false := by simp [Bool.eq_false_iff, Parts.practises_iff, hleft, hright, hnone]
    have hunwaited : u.withPartsUnwaited p = play dropped := rfl
    have takes {v : State} (hv : v.link.taking) (hs : u.player.state ≠ .idle)
        (e : (if u.player.state = .waiting then (u.withPartsUnwaited p).enterPlaying
          else if u.player.state = .paused ∧ u.player.waitPending = true then u.withPartsUnwaited p else u.withParts p) = v) :
        exec (.playParts t parts) s = answer v .ok .nothing :=
      partsAnswer h hv ((State.playParts_unpractised hs hp).trans (congrArg (·, Status.ok) e))
    refine ⟨fun hs => ?_, fun hs hw => ?_, fun hs => ?_⟩
    · have keeps (hs : u.player.state ≠ .idle) (hwait : u.player.state ≠ .waiting)
          (hpending : ¬(u.player.state = .paused ∧ u.player.waitPending = true)) :
          exec (.playParts t parts) s = answer (u.withParts p) .ok .nothing :=
        takes (hl h) hs (by rw [if_neg hwait, if_neg hpending])
      obtain hs | hs | ⟨hs, hw⟩ := hs
      · exact keeps (by simp [u, hs]) (by simp [u, hs]) (by simp [u, hs])
      · exact keeps (by simp [u, hs]) (by simp [u, hs]) (by simp [u, hs])
      · exact keeps (by simp [u, hs]) (by simp [u, hs]) (by simp [u, hw])
    · exact takes (v := u.withPartsUnwaited p) (hl h) (by simp [u, hs]) (by simp [u, hs, hw])
    · have hgo : (play dropped).enterPlaying.link.taking := (State.enterPlaying_sameControl _).taking (s := play dropped) (hl h)
      have hwaits : u.player.state = .waiting := hs
      exact takes hgo (by simp [hwaits]) (by rw [if_pos hwaits, hunwaited])
  case halts =>
    intro hs
    exact ⟨fun h => (State.playStop_blind .atMark).answers h (State.playStop_atMark (s := u) hs) (hl h),
      fun h => (State.playPause_blind .atMark).answers h (State.playPause_atMark (s := u) hs) (hl h)⟩
  case pauseRefused =>
    exact fun hs h => (State.playPause_blind .now).answers h (State.playPause_refused (s := u) hs) (hl h)
  case idle =>
    intro hs
    refine ⟨fun x => ⟨fun h => ?_, fun h => ?_, fun hlow hhigh h => ?_⟩, fun h => ?_, fun h => ?_, fun x h => ?_⟩
    · exact (State.playStop_blind x).answers h (State.playStop_idle (s := u) hs x) (hl h)
    · exact (State.playPause_blind x).answers h (State.playPause_idle (s := u) hs x) (hl h)
    · exact request_answers h (State.playTempo_idle ⟨hlow, hhigh⟩ (s := u.withRequests rest) hs x) (hl h)
    · exact (State.playParts_blind p).answers h (State.playParts_idle (s := u) hs p) (hl h)
    · exact (continuingPlay s t f rest h).1 (by simp [hs])
    · exact plainly_answers h (State.playSuspend_idle (s := u.withRequests rest) hs x) (hl h)
  case wait =>
    intro h
    have hconfig := State.waitConfig_eq w o (u.withRequests rest)
    split
    next hok => exact plainly_answers h (hconfig.trans (if_pos hok)) (hl h)
    next hbad => exact plainly_answers h (hconfig.trans (if_neg hbad)) (hl h)

/-- Settles O45: the settings, the end and the pause, and going on. -/
theorem playerRequestsAreTaken : Obligations.PlayerRequestsAreTaken :=
  ⟨playerSettingsAreTaken, stoppingAndPausingPlay, continuingPlay⟩

end Sys2Proof.Machine
end

section
/-! STATS_READ and the requests that wait or are turned away (R183, R185, R190). -/

namespace Sys2Proof.Machine

/-! ### Counters and STATS_READ (R190) -/

theorem countingTouchesOneCounter : Claims.CountingTouchesOneCounter :=
  ⟨fun _ _ h => State.stat_tally_same h, fun s _ _ h => State.stat_tally_other h s, rfl⟩

theorem statsReadCopiesThenClears : Claims.StatsReadCopiesThenClears := by
  intro s t clear f rest h
  have htaking := State.offers_taking t h
  split_ifs with h0 h1
  · exact request_answers (v := s.upTo t) h (if_pos h0) htaking
  · exact request_answers (v := { s.upTo t with stats := List.replicate 27 0 }) h ((if_neg h0).trans (if_pos h1)) htaking
  · exact request_answers (v := s.upTo t) h ((if_neg h0).trans (if_neg h1)) htaking

/-- Settles O8: a counter is one place of the list (`Counter.place_injective`), and STATS_READ runs on the state its frame has left. -/
theorem countersCountAndStatsReadClearsThem : Obligations.CountersCountAndStatsReadClearsThem :=
  ⟨countingTouchesOneCounter, statsReadCopiesThenClears⟩

/-! ### When a frame is taken (R185) -/

/-- A request command is its request's taking (log 5). -/
theorem exec_request {c : Instr} {q : Request} {t : Time} (h : requestIn c = some (q, t)) :
    ∃ run, ∀ s, exec c s = .next (s.takeRequest q t run) := by
  cases c
  case fullReset | setupAreaReadDone | autoHome | warmReset | rxFrame | rxGapTimeout | unknownKind | txFrameDone | scanFrame
    | streamHoldTimer | settleTimer | encoderChange | indexEdge | endSwitchClose | endSwitchOpen | railStall
    | railTravelTimeout | segmentReadDone | soundsetLoadDone | outputFrame | audioBlockBoundary | plugDetectChange
    | plugSettleTimer | muteLineChange | recTakeClockTick | cueDone | playerTick | waitTimer | byteReceived => cases h
  all_goals
    cases h
    exact ⟨_, fun _ => rfl⟩

theorem requestTime_eq_some {c : Instr} {t : Time} (h : requestTime c = some t) : ∃ q, requestIn c = some (q, t) := by
  obtain ⟨⟨q, t'⟩, hin, rfl⟩ := Option.map_eq_some_iff.mp h
  exact ⟨q, hin⟩

theorem State.requestHead_of_takesNothing {s : State} (h : s.takesNothing) : s.requestHead = none := by
  unfold State.requestHead
  obtain h | h | h | h := h <;> simp [h]

theorem State.requestHead_of_takesHead {s : State} {f : Frame} {rest : List Frame} (h : s.takesHead f rest) :
    s.requestHead = some f := by
  obtain ⟨hready, -, hreply, hrestart, hrequests⟩ := h
  simp [State.requestHead, hready, hreply, hrestart, hrequests]

/-- With no frame to take only time passes. -/
theorem State.takeRequest_waits {s : State} (h : s.takesNothing) (q : Request) (t : Time)
    (run : State → State × Status × Content) : s.takeRequest q t run = s.upTo t := by
  have hnone : (s.upTo t).requestHead = none := State.requestHead_of_takesNothing (s := s.upTo t) h
  simp only [State.takeRequest, hnone]

/-- A command of a request that the head frame does not name does not take it. -/
theorem State.takeRequest_elsewhere {s : State} {f : Frame} {rest : List Frame} (h : s.takesHead f rest) {q : Request}
    (hq : s.requestOf f ≠ some q) (t : Time) (run : State → State × Status × Content) : s.takeRequest q t run = s.upTo t := by
  have hhead : (s.upTo t).requestHead = some f := State.requestHead_of_takesHead (s := s.upTo t) h
  have hother : (s.upTo t).requestOf f ≠ some q := hq
  simp only [State.takeRequest, hhead, if_neg hother]

theorem exec_waits {c : Instr} {t : Time} {s : State} (hc : requestTime c = some t) (h : s.takesNothing) :
    exec c s = .next (s.upTo t) := by
  obtain ⟨q, hin⟩ := requestTime_eq_some hc
  obtain ⟨run, hrun⟩ := exec_request hin
  rw [hrun, State.takeRequest_waits h]

/-! ### The link's four checks (R185) -/

section
variable {s : State} {f : Frame}

theorem State.linkCheck_class (h : f.cls.toNat % 16 ≠ 1) : s.linkCheck f = some .unknownKind := by
  simp [State.linkCheck, Frame.isRequest, Frame.classCode, h]

theorem State.linkCheck_tag (hclass : f.cls.toNat % 16 = 1) (h : f.tag = 0) : s.linkCheck f = some .badTag := by
  simp [State.linkCheck, Frame.isRequest, Frame.classCode, hclass, h]

/-- Past the checks of class and tag, the table of kinds decides. -/
theorem State.linkCheck_kind (hclass : f.cls.toNat % 16 = 1) (htag : f.tag ≠ 0) :
    s.linkCheck f = (s.kindOf f).elim (some .unknownKind) fun row =>
      if f.payload.length ∈ row.lengths then none else some .badLength := by
  have hrequest : (!f.isRequest) = false := by simp [Frame.isRequest, Frame.classCode, hclass]
  unfold State.linkCheck
  rw [hrequest, if_neg Bool.false_ne_true, if_neg htag]
  cases s.kindOf f with
  | none => rfl
  | some row => simp only [List.contains_iff_mem, Option.elim_some]

theorem State.linkCheck_unknown (hclass : f.cls.toNat % 16 = 1) (htag : f.tag ≠ 0) (h : ∀ row ∈ s.kinds, row.code ≠ f.kind) :
    s.linkCheck f = some .unknownKind := by
  have hnone : s.kindOf f = none := by simpa [State.kindOf] using h
  rw [State.linkCheck_kind hclass htag, hnone]
  rfl

theorem State.linkCheck_length (hclass : f.cls.toNat % 16 = 1) (htag : f.tag ≠ 0) {row : KindRow}
    (hrow : s.kinds.find? (·.code == f.kind) = some row) (h : f.payload.length ∉ row.lengths) :
    s.linkCheck f = some .badLength := by
  rw [State.linkCheck_kind hclass htag, State.kindOf, hrow]
  exact if_neg h

/-- R183, R185: a frame names a request exactly when it passes the four checks and its kind is that request's. -/
theorem State.requestOf_eq_some {q : Request} :
    s.requestOf f = some q ↔ f.cls.toNat % 16 = 1 ∧ f.tag ≠ 0 ∧ s.knowsKind q f := by
  constructor
  · intro h
    unfold State.requestOf at h
    split at h
    next => cases h
    next hnone =>
      have hclass : f.cls.toNat % 16 = 1 := by
        by_contra hne
        rw [State.linkCheck_class hne] at hnone
        cases hnone
      have htag : f.tag ≠ 0 := by
        intro htag
        rw [State.linkCheck_tag hclass htag] at hnone
        cases hnone
      obtain ⟨row, hrow, hq⟩ := Option.map_eq_some_iff.mp h
      rw [State.linkCheck_kind hclass htag, hrow] at hnone
      have hlength : f.payload.length ∈ row.lengths := by
        by_contra hne
        exact absurd (hnone.symm.trans (if_neg hne)) (by decide)
      exact ⟨hclass, htag, row, hrow, hq, hlength⟩
  · rintro ⟨hclass, htag, row, hrow, rfl, hlength⟩
    have hkind : s.kindOf f = some row := hrow
    have hnone : s.linkCheck f = none := by
      rw [State.linkCheck_kind hclass htag, hkind]
      exact if_pos hlength
    simp [State.requestOf, hnone, hkind]

/-- A frame that fails a check names no request. -/
theorem State.linkCheck_of_requestOf {q : Request} (h : s.requestOf f = some q) : s.linkCheck f = none := by
  unfold State.requestOf at h
  split at h
  next => cases h
  next hnone => exact hnone

end

/-! ### Frames turned away (R185) -/

/-- A head frame that fails a check leaves the queue and is answered with that check's status. -/
theorem exec_unknownKind_fails {s : State} {f : Frame} {rest : List Frame} (h : s.takesHead f rest) (t : Time) (known : Bool)
    {x : Status} (hx : s.linkCheck f = some x) :
    exec (.unknownKind t known) s = .next ((s.upTo t).answering f rest x .nothing) := by
  have hhead : (s.upTo t).requestHead = some f := State.requestHead_of_takesHead (s := s.upTo t) h
  have hcheck : (s.upTo t).linkCheck f = some x := hx
  obtain ⟨hready, hplace, hreply, hrestart, hrequests⟩ := h
  have hreject : (s.upTo t).rejectFrame = (s.upTo t).popRequest.placeReply f f.tag x .nothing := by
    simp only [State.rejectFrame, hhead, hcheck]
  have hanswer : ((s.upTo t).popRequest.placeReply f f.tag x .nothing).arbitrate
      = (s.upTo t).popRequest.answering f rest x .nothing :=
    State.placeReply_arbitrate f rest x .nothing hready hplace hreply (by simp [State.popRequest, hrestart])
      (by simp [State.popRequest, hrequests])
  change Host.Outcome.next (s.upTo t).rejectFrame.arbitrate = _
  rw [hreject, hanswer]
  simp only [State.answering, State.popRequest, Link.answering_requests]

/-- A head frame that passes the checks is not turned away. -/
theorem exec_unknownKind_passes {s : State} {f : Frame} {rest : List Frame} (h : s.takesHead f rest) (t : Time) (known : Bool)
    (hx : s.linkCheck f = none) : exec (.unknownKind t known) s = .next (s.upTo t).arbitrate := by
  have hhead : (s.upTo t).requestHead = some f := State.requestHead_of_takesHead (s := s.upTo t) h
  have hcheck : (s.upTo t).linkCheck f = none := hx
  have hreject : (s.upTo t).rejectFrame = s.upTo t := by simp only [State.rejectFrame, hhead, hcheck]
  change Host.Outcome.next (s.upTo t).rejectFrame.arbitrate = _
  rw [hreject]

theorem turnedAwayFramesAreAnswered : Claims.TurnedAwayFramesAreAnsweredWithTheirFirstFailure := by
  intro s t known f rest h
  refine ⟨fun hclass => ?_, fun hclass htag => ?_, fun hclass htag hkinds => ?_, fun row hclass htag hrow => ?_⟩
  · exact exec_unknownKind_fails h t known (State.linkCheck_class hclass)
  · exact exec_unknownKind_fails h t known (State.linkCheck_tag hclass htag)
  · exact exec_unknownKind_fails h t known (State.linkCheck_unknown hclass htag hkinds)
  · have hbad (hlength : f.payload.length ∉ row.lengths) :=
      exec_unknownKind_fails h t known (State.linkCheck_length hclass htag hrow hlength)
    refine ⟨hbad, fun n hlawful hfixed hne => hbad ?_⟩
    rw [hlawful row (List.mem_of_find?_eq_some hrow) n hfixed]
    simpa using hne

theorem framesAreTakenByTheirChecks : Claims.FramesAreTakenByTheirChecks := by
  intro s t known f rest h
  have elsewhere {c : Instr} {q : Request} (hc : requestIn c = some (q, t)) (hq : s.requestOf f ≠ some q) :
      exec c s = .next (s.upTo t) := by
    obtain ⟨run, hrun⟩ := exec_request hc
    rw [hrun, State.takeRequest_elsewhere h hq]
  refine ⟨fun hfails c hc => ?_, fun q hpasses => ⟨fun c q' hc hne => ?_, ?_⟩⟩
  · obtain ⟨q, hin⟩ := requestTime_eq_some hc
    exact elsewhere hin fun hq => hfails q (State.requestOf_eq_some.mp hq)
  · refine elsewhere hc fun hq => hne ?_
    exact Option.some.inj (hq.symm.trans (State.requestOf_eq_some.mpr hpasses))
  · exact exec_unknownKind_passes h t known (State.linkCheck_of_requestOf (State.requestOf_eq_some.mpr hpasses))

/-- Settles O4: a request command takes the head frame only when it names its request (`State.requestOf_eq_some`), and UNKNOWN_KIND
answers with the first check that fails. -/
theorem requestsWaitOrAreTurnedAway : Obligations.RequestsWaitOrAreTurnedAway :=
  ⟨fun _ _ _ => exec_waits, turnedAwayFramesAreAnswered, framesAreTakenByTheirChecks⟩

end Sys2Proof.Machine
end

section
/-! The receive framer: what each byte and a gap do, and how the bytes of a frame arrive (R183 to R185). -/

namespace Sys2Proof.Machine

/-! ### One byte in HUNT and in FRAME (R184) -/

/-- In HUNT a good C3h begins a frame and any other byte does nothing. -/
theorem State.receive_hunt {s : State} {now : Time} (hnow : s.clock = now) (h : s.link.rxFrame = none) (b : RxByte) :
    s.receive b = if b.stopOk = true ∧ b.value = 0xC3 then
      { s with link := { s.link with rxFrame := some [0xC3], rxLast := now } } else s := by
  subst hnow
  unfold State.receive
  rw [h]
  by_cases hb : b.stopOk = true ∧ b.value = 0xC3
  · simp [hb, startByte]
  · rw [if_neg hb]
    exact if_neg (by simpa [startByte] using hb)

/-- In FRAME a bad stop bit discards the frame. -/
theorem State.receive_badStop {s : State} {bs : List Byte} (h : s.link.rxFrame = some bs) {b : RxByte} (hb : b.stopOk = false) :
    s.receive b = s.dropFrame .linkCrc := by
  unfold State.receive
  rw [h]
  simp [hb]

/-- In FRAME a good byte joins the frame in progress. -/
theorem State.receive_grow {s : State} {now : Time} (hnow : s.clock = now) {bs : List Byte} (h : s.link.rxFrame = some bs)
    {b : RxByte} (hb : b.stopOk = true) :
    s.receive b = ({ s with link := { s.link with rxLast := now } } : State).growFrame (bs ++ [b.value]) := by
  subst hnow
  unfold State.receive
  rw [h]
  simp [hb]

theorem frameCrcOk_iff (bs : List Byte) :
    frameCrcOk bs = true ↔
      let body := (bs.drop 1).take (bs.length - 3)
      bs.drop (bs.length - 2) = [((crc16 body) >>> 8).setWidth 8, (crc16 body).setWidth 8] := by
  simp [frameCrcOk]

theorem receivedBytesAreFramed : Claims.ReceivedBytesAreFramed := by
  intro s t b c hc
  have hexec : exec c s = .next ((s.upTo t).receive b).arbitrate := by
    obtain rfl | rfl := hc <;> rfl
  have hclock : (s.upTo t).clock = t := s.upTo_clock t
  rw [hexec]
  intro u with1
  split
  next hhunt => rw [State.receive_hunt (s := s.upTo t) hclock hhunt]
  next bs hframe =>
    have hframe' : (s.upTo t).link.rxFrame = some bs := hframe
    intro all body crcOk
    refine congrArg (fun v => Host.Outcome.next (State.arbitrate v)) ?_
    by_cases hstop : b.stopOk = false
    · rw [if_pos hstop, State.receive_badStop hframe' hstop]
      rfl
    · rw [if_neg hstop, State.receive_grow hclock hframe' (Bool.eq_true_of_not_eq_false hstop)]
      unfold State.growFrame
      refine ite_congr rfl (fun _ => rfl) fun _ => ite_congr rfl (fun _ => ?_) fun _ => rfl
      unfold State.endFrame State.offerFrame
      exact ite_congr (propext (frameCrcOk_iff all)) (fun _ => ite_congr rfl (fun _ => rfl) fun _ => rfl) fun _ => rfl

theorem receiveGapTruncatesTheFrame : Claims.ReceiveGapTruncatesTheFrame := by
  intro s t
  refine congrArg (fun v => Host.Outcome.next (State.arbitrate v)) ?_
  unfold State.rxGap
  refine ite_congr ?_ (fun _ => rfl) fun _ => rfl
  simp [since, State.upTo_clock, Option.isSome_iff_ne_none]

/-- Settles O5: the framer by its state and the byte (`State.receive_hunt`, `State.receive_badStop`, `State.receive_grow`). -/
theorem receivedBytesAndGapsAreFramed : Obligations.ReceivedBytesAndGapsAreFramed :=
  ⟨receivedBytesAreFramed, receiveGapTruncatesTheFrame⟩

/-! ### The bytes of a frame arrive (R183, R184) -/

/-- The framer in FRAME with the bytes `bs`, the last of them received now. -/
def State.framing (bs : List Byte) (s : State) : State := { s with link := { s.link with rxFrame := some bs, rxLast := s.clock } }

/-- The framer has taken the frame `f` in and is back in HUNT. -/
def State.framed (f : Frame) (s : State) : State :=
  { s with link := { s.link with rxFrame := none, rxLast := s.clock, requests := s.link.requests ++ [f] } }

theorem State.receive_start {s : State} (h : s.link.rxFrame = none) :
    s.receive { value := startByte, stopOk := true } = s.framing [startByte] :=
  (State.receive_hunt rfl h _).trans (if_pos ⟨rfl, rfl⟩)

theorem State.framing_receive (bs : List Byte) (s : State) (b : Byte) :
    (s.framing bs).receive { value := b, stopOk := true } = (s.framing bs).growFrame (bs ++ [b]) :=
  State.receive_grow rfl rfl rfl

section
variable {len : Byte}

/-- A length byte of at most 240 joins the frame. -/
theorem State.framing_length (s : State) (h : len.toNat ≤ 240) :
    (s.framing [startByte]).receive { value := len, stopOk := true } = s.framing [startByte, len] := by
  have hshort : ¬(2 = 2 ∧ 240 < len.toNat) := by omega
  have hopen : ¬(2 ≤ 2 ∧ 2 = len.toNat + 7) := by omega
  rw [State.framing_receive]
  exact (if_neg hshort).trans (if_neg hopen)

/-- A byte before the last joins the frame. -/
theorem State.framing_joins (s : State) (bs : List Byte) (b : Byte) (h : bs.length + 3 < len.toNat + 7) :
    (s.framing (startByte :: len :: bs)).receive { value := b, stopOk := true } = s.framing (startByte :: len :: (bs ++ [b])) := by
  have hlength : (startByte :: len :: bs ++ [b]).length = bs.length + 3 := by simp
  have hlate : ¬((startByte :: len :: bs ++ [b]).length = 2 ∧ 240 < len.toNat) := by omega
  have hopen : ¬(2 ≤ (startByte :: len :: bs ++ [b]).length ∧ (startByte :: len :: bs ++ [b]).length = len.toNat + 7) := by omega
  rw [State.framing_receive]
  exact (if_neg hlate).trans (if_neg hopen)

/-- Bytes before the last join the frame one after another. -/
theorem State.framing_foldl (s : State) (xs bs : List Byte) (h : bs.length + xs.length + 2 < len.toNat + 7) :
    xs.foldl (fun x b => x.receive { value := b, stopOk := true }) (s.framing (startByte :: len :: bs))
      = s.framing (startByte :: len :: (bs ++ xs)) := by
  induction xs generalizing bs with
  | nil => simp
  | cons x xs ih =>
    rw [List.length_cons] at h
    rw [List.foldl_cons, State.framing_joins s bs x (by omega), ih (bs ++ [x]) (by simp; omega), List.append_assoc,
      List.singleton_append]

/-- The last byte of a frame whose CRC passes offers it to the request queue. -/
theorem State.framing_ends (s : State) (bs : List Byte) (b : Byte) (h : bs.length + 3 = len.toNat + 7)
    (hcrc : frameCrcOk (startByte :: len :: bs ++ [b]) = true) (hroom : s.link.requests.length < 4) :
    (s.framing (startByte :: len :: bs)).receive { value := b, stopOk := true }
      = s.framed (frameOf (startByte :: len :: bs ++ [b])) := by
  have hlength : (startByte :: len :: bs ++ [b]).length = bs.length + 3 := by simp
  have hlate : ¬((startByte :: len :: bs ++ [b]).length = 2 ∧ 240 < len.toNat) := by omega
  have hlast : 2 ≤ (startByte :: len :: bs ++ [b]).length ∧ (startByte :: len :: bs ++ [b]).length = len.toNat + 7 := by omega
  rw [State.framing_receive]
  exact (if_neg hlate).trans ((if_pos hlast).trans ((if_pos hcrc).trans (if_pos hroom)))

end

/-- R183: the CRC of a frame's bytes passes. -/
theorem frameCrcOk_frameBytes (cls kind tag : Byte) (payload : List Byte) :
    frameCrcOk (frameBytes cls kind tag payload) = true := by
  simp [frameCrcOk, frameBytes]

theorem frameOf_frameBytes (cls kind tag : Byte) (payload : List Byte) :
    frameOf (frameBytes cls kind tag payload) = { cls, kind, tag, payload } := by
  simp [frameOf, frameBytes]

/-- The bytes of a frame, received in HUNT with room in the queue, leave the frame at its tail. -/
theorem State.receive_frameBytes (cls kind tag : Byte) (payload : List Byte) {s : State} (hlen : payload.length ≤ 240)
    (hhunt : s.link.rxFrame = none) (hroom : s.link.requests.length < 4) :
    (frameBytes cls kind tag payload).foldl (fun x b => x.receive { value := b, stopOk := true }) s
      = s.framed { cls, kind, tag, payload } := by
  have hcode : (BitVec.ofNat 8 payload.length).toNat = payload.length := by
    rw [BitVec.toNat_ofNat]
    omega
  let crc := crc16 (BitVec.ofNat 8 payload.length :: cls :: kind :: tag :: payload)
  let inner : List Byte := cls :: kind :: tag :: payload ++ [(crc >>> 8).setWidth 8]
  have hbytes : frameBytes cls kind tag payload
      = startByte :: BitVec.ofNat 8 payload.length :: inner ++ [crc.setWidth 8] := by
    simp [frameBytes, inner, crc]
  have hinner : inner.length = payload.length + 4 := by simp [inner]
  have hcrc := frameCrcOk_frameBytes cls kind tag payload
  have hframe := frameOf_frameBytes cls kind tag payload
  rw [hbytes] at hcrc hframe ⊢
  rw [List.foldl_append, List.foldl_cons, List.foldl_nil, List.foldl_cons, State.receive_start hhunt, List.foldl_cons,
    State.framing_length s (by omega), State.framing_foldl s inner [] (by simp; omega), List.nil_append,
    State.framing_ends s inner _ (by omega) hcrc hroom, hframe]

theorem frameBytesArrive : Claims.FrameBytesArriveAsTheirFrame := by
  intro cls kind tag payload s hlen hhunt hroom
  rw [State.receive_frameBytes cls kind tag payload hlen hhunt hroom]
  exact ⟨rfl, rfl, rfl⟩

end Sys2Proof.Machine
end

section
/-! The frames the part sends: their fields, and the parts of a reply (R183, R186, R187; 11, Formats). -/

namespace Sys2Proof.Machine

/-! ### Fields (R183, R187) -/

@[simp] theorem leBytes_length (n v : Nat) : (leBytes n v).length = n := by
  induction n generalizing v with
  | zero => rfl
  | succ n ih => simp [leBytes, ih]

@[simp] theorem LiveEvent.bytes_length (e : LiveEvent) : e.bytes.length = 8 := by simp [LiveEvent.bytes]

theorem streamPayload_length (gap : Nat) (es : List LiveEvent) : (streamPayload gap es).length = 3 + 8 * es.length := by
  have hevents : (es.flatMap LiveEvent.bytes).length = 8 * es.length := by
    induction es with
    | nil => rfl
    | cons e es ih => simp [ih]; omega
  simp [streamPayload, hevents]
  omega

theorem frameBytes_length (cls kind tag : Byte) (payload : List Byte) :
    (frameBytes cls kind tag payload).length = payload.length + 7 := by
  simp [frameBytes]

theorem sentFramesHaveTheirFields : Claims.SentFramesHaveTheirFields :=
  ⟨fun _ => ⟨rfl, frameBytes_length ..⟩, fun _ _ _ => ⟨rfl, rfl, rfl⟩,
    fun n => ⟨rfl, rfl, freeBytes_length_le n 0 (Nat.zero_le _)⟩, fun n => ⟨rfl, rfl, freeBytes_length_le n 0 (Nat.zero_le _)⟩,
    fun gap es => ⟨rfl, rfl, rfl, streamPayload_length gap es⟩⟩

/-! ### The parts of a reply (R186) -/

theorem framesFor_eq_one_iff (n : Nat) : framesFor n = 1 ↔ n + 1 ≤ 240 := by
  unfold framesFor
  split <;> omega

/-- The parts of a reply reach the end of its content. -/
theorem le_framesFor (n : Nat) : n ≤ 239 * framesFor n := by
  unfold framesFor
  split <;> omega

/-- Stretches of `k`, one after another, are the beginning of the list. -/
theorem flatMap_stretches {α : Type} (k n : Nat) (xs : List α) :
    (List.range n).flatMap (fun i => (xs.drop (k * i)).take k) = xs.take (k * n) := by
  induction n with
  | zero => simp
  | succ n ih => rw [List.range_succ, List.flatMap_append, ih, Nat.mul_succ, List.take_add]; simp

theorem Reply.partBytes_flatMap (r : Reply) :
    (List.range r.content.parts).flatMap (fun i => (r.partBytes i).drop 1) = r.content.bytes :=
  (flatMap_stretches ..).trans (List.take_of_length_le (le_framesFor _))

theorem Reply.partBytes_length_le (r : Reply) (i : Nat) : (r.partBytes i).length ≤ 240 :=
  Nat.succ_le_succ (List.length_take_le ..)

/-- R19, R25: four bytes for each left-rest time. -/
theorem Content.scan_length_ge {r : ScanReport} (h : r.flights.length = 88) : 352 ≤ (Content.scan r).bytes.length := by
  have hmin : 352 ≤ min greatestContent (4 * r.flights.length) := by
    rw [h]
    decide
  exact hmin.trans (freeBytes_length_ge ..)

@[simp] theorem TakeSummary.bytes_length (x : TakeSummary) : x.bytes.length = 7 := by simp [TakeSummary.bytes]

@[simp] theorem Transfer.bytes_length (x : Transfer) : x.bytes.length = 6 := by
  cases x with
  | none => simp [Transfer.bytes, freeBytes, Nat.mod_one]
  | _ => simp [Transfer.bytes]

/-- Formats: TAKE_LIST's entries, free count and transfer record. -/
theorem Content.takeList_length {ts : List TakeSummary} (h : ts.length = 32) (free : Nat) (x : Transfer) :
    (Content.takeList ts free x).bytes.length = 232 := by
  have hentries (xs : List TakeSummary) : (xs.flatMap TakeSummary.bytes).length = 7 * xs.length := by
    induction xs with
    | nil => rfl
    | cons y ys ih => simp [ih]; omega
  simp [Content.bytes, hentries, h]

theorem repliesAreCutIntoParts : Claims.RepliesAreCutIntoParts :=
  ⟨fun r => ⟨framesFor_eq_one_iff _, fun i => ⟨rfl, r.partBytes_length_le i⟩, r.partBytes_flatMap, framesFor_le_four⟩,
    Content.parts_scan_le, Content.parts_voiceRecords_le, fun _ => Content.scan_length_ge,
    fun _ free x h => ⟨Content.takeList_length h free x,
      framesFor_eq_one ((Content.takeList_length h free x).le.trans (by decide))⟩⟩

/-- Settles O6: in FRAME each byte before the last joins the frame (`State.framing_foldl`) and the last, with the CRC right, offers it
(`State.framing_ends`); a reply's parts are stretches of 239 bytes of its content (`flatMap_stretches`). -/
theorem frameBytesArriveAsTheirFrame : Obligations.FrameBytesArriveAsTheirFrame :=
  ⟨frameBytesArrive, sentFramesHaveTheirFields, repliesAreCutIntoParts⟩

end Sys2Proof.Machine
end

section
/-! The footing: the commands that wait, the start-up phase with READY, the settings and the player's state. Which operations leave it
alone (R191, R192, R193). -/

namespace Sys2Proof.Machine

/-! ### What is looked at -/

/-- The settings of a pedal (R29, R30). -/
def PedalUnit.settings (u : PedalUnit) : Nat × Nat × PedalMode × Nat := (u.restRaw, u.fullRaw, u.mode, u.deadBand)

/-- The settings of the packer (R49, R159). -/
def Packer.settings (p : Packer) : Bool × PackMode × Nat × Nat := (p.enabled, p.mode, p.perPacket, p.hold)

/-- The settings of the Action Scanner, the pedals, the router, the rail and the mixer (R7, R17, R29, R30, R49, R56, R114, R121). -/
def State.boardSettings (s : State) : (Thresholds × List CurvePoint × List CurvePoint) × (Pedal → Nat × Nat × PedalMode × Nat)
    × (Bool × Nat × Bool) × RailConfig × GainPath × Nat × Bool × MuteMode :=
  ((s.scanner.thr, s.scanner.hammerCurve, s.scanner.keyCurve), fun p => (s.pedals.unit p).settings,
    (s.router.monitor, s.router.split, s.router.streaming), s.rail.config, s.mixer.settings, s.mixer.width, s.mixer.plugDetect,
    s.mixer.muteMode)

/-- The settings of the Voice Engine, the packer and the Practice Player (R89, R159, R177). -/
def State.playSettings (s : State) : (Nat × Priority) × (Bool × PackMode × Nat × Nat) × Nat × Nat :=
  ((s.voices.limit, s.voices.priority), s.packer.settings, s.player.window, s.player.timeout)

/-- The start-up phase, READY, and the place of the READY notice (R191, R192). -/
def State.phase (s : State) : StartPhase × Bool × Option ReadyNotice := (s.link.start, s.link.ready, s.link.readyPlace)

/-- What the arbiter leaves: the commands that wait, the settings, and the player's state. -/
def State.fixtures (s : State) := (s.pending, (s.boardSettings, s.playSettings), s.player.state)

/-- That, and the phase. -/
def State.footing (s : State) := (s.fixtures, s.phase)

/-- What no command but a reset, a load and the setup moves, the arbiter apart: the commands that wait, and the phase. -/
def State.duty (s : State) : List Instr × StartPhase × Bool × Option ReadyNotice := (s.pending, s.phase)

theorem State.sameSettings_of {a b : State} (hboard : a.boardSettings = b.boardSettings) (hplay : a.playSettings = b.playSettings) :
    a.sameSettings b := by
  simp only [State.boardSettings, State.playSettings, Packer.settings, Prod.mk.injEq] at hboard hplay
  obtain ⟨hscanner, hpedals, hrouter, hrail, hmixer⟩ := hboard
  obtain ⟨hvoices, hpacker, hplayer⟩ := hplay
  have hunit (p : Pedal) : (a.pedals.unit p).sameSettings (b.pedals.unit p) := by
    simpa only [PedalUnit.settings, PedalUnit.sameSettings, Prod.mk.injEq] using congrFun hpedals p
  exact ⟨hscanner, hunit, hrouter, hrail, hvoices, hmixer, hpacker, hplayer⟩

theorem State.duty_of_footing {a b : State} (h : a.footing = b.footing) : a.duty = b.duty :=
  congrArg (fun x => (x.1.1, x.2)) h

theorem State.sameControl.duty_eq {s' s : State} (h : s'.sameControl s) : s'.duty = s.duty := by
  simp only [State.duty, State.phase, h.pending]
  rw [h.link]

theorem State.sameControl.boardSettings_eq {s' s : State} (h : s'.sameControl s) : s'.boardSettings = s.boardSettings := by
  simp only [State.boardSettings, h.scanner, h.pedals, h.rail, h.mixer]
  rw [h.router]

/-- A fold of operations that leave the footing leaves it. -/
theorem State.foldl_footing {α : Type} {op : State → α → State} (h : ∀ u a, (op u a).footing = u.footing) (xs : List α)
    (s : State) : (xs.foldl op s).footing = s.footing :=
  State.foldl_keeps (P := fun u => u.footing = s.footing) (fun a u hu => (h u a).trans hu) xs rfl

theorem State.notify_footing (n : Notice) (s : State) : (s.notify n).footing = s.footing := by
  obtain ⟨ns, x, h⟩ := s.notify_frame n
  exact h ▸ rfl

/-! ### The rail -/

/-- A rail with the same configuration. -/
theorem State.withRail_footing {r : Rail} {s : State} (h : r.config = s.rail.config) :
    ({ s with rail := r } : State).footing = s.footing := by
  simp only [State.footing, State.fixtures, State.phase, State.boardSettings, State.playSettings, h]

theorem State.reportRail_footing (why : RailReason) (s : State) : (s.reportRail why).footing = s.footing := by
  obtain ⟨m, tm, h⟩ := s.scanner.railReport_frame s.rail.state s.rail.config.settle
  unfold State.reportRail
  rw [h]
  exact (State.notify_footing ..).trans rfl

theorem State.enterRail_footing (st : RailState) (why : RailReason) (s : State) : (s.enterRail st why).footing = s.footing := by
  unfold State.enterRail
  simp only
  split_ifs
  · rfl
  · rfl
  · exact (State.reportRail_footing ..).trans rfl
  · exact (State.reportRail_footing ..).trans rfl

theorem State.arrive_footing (why : RailReason) (s : State) : (s.arrive why).footing = s.footing := by
  unfold State.arrive
  split
  · rfl
  · exact (State.enterRail_footing ..).trans rfl

theorem State.driveMove_footing (why arrival : RailReason) (start : Bool) (s : State) :
    (s.driveMove why arrival start).footing = s.footing := by
  unfold State.driveMove
  split
  · rfl
  · simp only
    split
    · exact s.arrive_footing _
    · exact (State.enterRail_footing ..).trans rfl

theorem State.driveHome_footing (why : RailReason) (s : State) : (s.driveHome why).footing = s.footing :=
  (State.enterRail_footing ..).trans rfl

theorem State.flightAdded_footing (s : State) : s.flightAdded.footing = s.footing := by
  unfold State.flightAdded
  simp only
  split
  · exact (State.enterRail_footing ..).trans rfl
  · rfl

theorem Rail.resumed_config (r : Rail) : r.resumed.config = r.config := by
  unfold Rail.resumed
  split
  · rfl
  · split
    · split <;> rfl
    · rfl

theorem State.flightRemoved_footing (s : State) : s.flightRemoved.footing = s.footing := by
  have emptied : s.flightEmptied.footing = s.footing := by
    unfold State.flightEmptied
    simp only
    split
    · split
      · rfl
      · split
        · exact (State.driveHome_footing ..).trans rfl
        · exact (State.driveMove_footing ..).trans (State.withRail_footing (Rail.resumed_config _))
    · rfl
  exact keeps_due (P := fun u => u.footing = s.footing) emptied rfl

theorem State.faultRail_footing (kind : RailFault) (s : State) : (s.faultRail kind).footing = s.footing := by
  unfold State.faultRail
  split
  · rfl
  · exact (State.enterRail_footing ..).trans rfl

theorem State.beginHome_footing (s : State) : s.beginHome.footing = s.footing := by
  unfold State.beginHome
  simp only
  split
  · exact (State.enterRail_footing ..).trans rfl
  · exact (State.driveHome_footing ..).trans rfl

theorem State.setUpMove_footing (g : RailTarget) (p : Policy) (s : State) : (s.setUpMove g p).footing = s.footing := by
  unfold State.setUpMove
  simp only
  split
  · exact (State.enterRail_footing ..).trans rfl
  · exact (State.driveMove_footing ..).trans rfl

theorem State.replaceTarget_footing (g : RailTarget) (p : Policy) (s : State) : (s.replaceTarget g p).footing = s.footing := by
  unfold State.replaceTarget
  split
  · rfl
  · simp only
    split
    · exact (State.driveMove_footing ..).trans rfl
    · rfl

theorem State.railMove_footing (g : RailTarget) (p : Policy) (s : State) : (s.railMove g p).1.footing = s.footing := by
  have hsetUp := s.setUpMove_footing g p
  have hreplace := s.replaceTarget_footing g p
  unfold State.railMove
  split
  case h_1 | h_2 | h_3 => rfl
  case h_4 => split <;> [rfl; exact hreplace]
  case h_5 => exact hreplace
  case h_6 | h_7 => split <;> [rfl; exact hsetUp]
  case h_8 => exact hsetUp

theorem State.railStop_footing (s : State) : s.railStop.1.footing = s.footing := by
  unfold State.railStop
  simp only
  split
  case h_1 | h_2 | h_3 => exact (State.enterRail_footing ..).trans rfl
  case h_4 => rfl

theorem State.encoderStep_footing (up : Bool) (s : State) : (s.encoderStep up).footing = s.footing := by
  unfold State.encoderStep
  simp only
  split
  · exact (State.driveMove_footing ..).trans rfl
  · rfl

theorem State.encoderIllegal_footing (s : State) : s.encoderIllegal.footing = s.footing := by
  unfold State.encoderIllegal
  split
  · rfl
  · exact s.faultRail_footing _

theorem State.indexEdge_footing (s : State) : s.indexEdge.footing = s.footing := by
  unfold State.indexEdge
  split
  · simp only
    split
    · exact (State.driveMove_footing ..).trans rfl
    · split
      · exact (State.arrive_footing ..).trans rfl
      · rfl
    · rfl
  · rfl

theorem State.switchLevelSet_footing (sw : EndSwitch) (b : Bool) (s : State) : (s.switchLevelSet sw b).footing = s.footing := by
  cases sw <;> rfl

theorem State.switchCloses_footing (sw : EndSwitch) (s : State) : (s.switchCloses sw).footing = s.footing := by
  have fault (kind : RailFault) := s.faultRail_footing kind
  unfold State.switchCloses
  split
  · split <;> [rfl; exact fault _]
  · split
    · exact fault _
    · split <;> [exact fault _; rfl]
  · split
    · rfl
    · split <;> [exact fault _; rfl]
  · rfl

theorem State.switchOpens_footing (sw : EndSwitch) (s : State) : (s.switchOpens sw).footing = s.footing := by
  unfold State.switchOpens
  split
  · split <;> rfl
  · rfl

theorem State.autoHome_footing (s : State) : s.autoHome.footing = s.footing := by
  unfold State.autoHome
  split
  · simp only
    split
    · exact (State.beginHome_footing _).trans rfl
    · rfl
  · rfl

/-! ### The headphone output -/

theorem State.followSilence_footing (s : State) : s.followSilence.footing = s.footing := by
  obtain ⟨f, o, r, h⟩ := s.followSilence_frame
  exact h ▸ rfl

theorem State.muteFollows_footing (was : Bool) (s : State) : (s.muteFollows was).footing = s.footing := by
  unfold State.muteFollows
  split
  · rfl
  · exact s.notify_footing _

theorem State.plugLine_footing (b : Bool) (s : State) : (s.plugLine b).footing = s.footing := by
  unfold State.plugLine
  split
  · rfl
  · simp only
    split
    · exact (State.followSilence_footing _).trans rfl
    · rfl

theorem State.plugSettled_footing (s : State) : s.plugSettled.footing = s.footing :=
  (State.followSilence_footing _).trans ((State.notify_footing ..).trans rfl)

theorem State.muteLine_footing (b : Bool) (s : State) : (s.muteLine b).footing = s.footing := by
  unfold State.muteLine
  split
  · rfl
  · exact (State.followSilence_footing _).trans ((State.muteFollows_footing ..).trans rfl)

theorem State.unmute_footing (s : State) : s.unmute.1.footing = s.footing := by
  unfold State.unmute
  split
  · rfl
  · rfl
  · exact (State.followSilence_footing _).trans ((State.muteFollows_footing ..).trans rfl)

/-! ### Voices and fetch -/

theorem State.segmentDone_footing (e : FetchEntry) (s : State) : (s.segmentDone e).footing = s.footing := by
  have prime (i : Nat) (w : Voice) (u : State) : (u.primeDone i w).footing = u.footing := by
    unfold State.primeDone
    split <;> rfl
  have fills (w : Voice) (u : State) : (u.segmentFills e w).footing = u.footing := by
    unfold State.segmentFills
    simp only
    split
    · exact (prime ..).trans rfl
    · rfl
  have matched (u : State) : (u.segmentMatched e).footing = u.footing := by
    unfold State.segmentMatched
    split
    · split <;> [exact fills ..; rfl]
    · rfl
  exact (matched _).trans rfl

theorem State.playEntry_footing (s : State) (i : Nat) : (s.playEntry i).footing = s.footing := by
  have cross (n : Nat) (w : Voice) (z : Zone) (u : State) : (u.cross i n w z).footing = u.footing := by
    unfold State.cross
    simp only
    split
    · split <;> rfl
    · rfl
  unfold State.playEntry
  split
  · unfold State.advance
    split
    · rfl
    · split_ifs
      · rfl
      · exact cross ..
      · rfl
  · rfl

theorem State.outputFrame_footing (s : State) : s.outputFrame.footing = s.footing := by
  have send : s.sendFrame.footing = s.footing := by
    unfold State.sendFrame
    simp only
    split <;> rfl
  exact (State.foldl_footing State.playEntry_footing ..).trans send

theorem State.boundaryEntry_footing (s : State) (i : Nat) : (s.boundaryEntry i).footing = s.footing := by
  unfold State.boundaryEntry
  split
  · rfl
  · split <;> rfl

theorem State.audioBoundary_footing (s : State) : s.audioBoundary.footing = s.footing := by
  have mixer (u : State) : ({ u with mixer := u.mixer.boundary } : State).footing = u.footing := rfl
  exact (mixer _).trans (State.foldl_footing State.boundaryEntry_footing ..)

/-! ### The packer -/

theorem Packer.testReady_settings (p : Packer) : p.testReady.settings = p.settings := by
  unfold Packer.testReady
  split <;> rfl

theorem Packer.settleFor_settings (n : Nat) (p : Packer) : (p.settleFor n).settings = p.settings := by
  induction n generalizing p with
  | zero => rfl
  | succ n ih =>
    by_cases hj : p.joins
    · rw [Packer.settleFor_joins hj, ih]
      rfl
    · rw [Packer.settleFor_stays hj, Packer.testReady_settings]

theorem Packer.holdExpires_settings (p : Packer) : p.holdExpires.settings = p.settings := Packer.settleFor_settings 9 _

theorem Packer.accept_settings (e : LiveEvent) (p : Packer) : (p.accept e).settings = p.settings := by
  unfold Packer.accept
  split
  · rfl
  · exact Packer.settleFor_settings 9 _

theorem Packer.takeHead_settings {p p' : Packer} {f : TxFrame} (h : p.takeHead = some (f, p')) : p'.settings = p.settings := by
  unfold Packer.takeHead at h
  split at h
  · cases h
  · cases h
    exact Packer.settleFor_settings 9 _

/-- A packer with the same settings. -/
theorem State.withPacker_footing {p : Packer} {s : State} (h : p.settings = s.packer.settings) :
    ({ s with packer := p } : State).footing = s.footing := by
  simp only [State.footing, State.fixtures, State.phase, State.boardSettings, State.playSettings, h]

/-! ### The link -/

theorem State.receive_footing (b : RxByte) (s : State) : (s.receive b).footing = s.footing := by
  have offer (f : Frame) (u : State) : (u.offerFrame f).footing = u.footing := by
    unfold State.offerFrame
    split <;> rfl
  have ends (bs : List Byte) (u : State) : (u.endFrame bs).footing = u.footing := by
    unfold State.endFrame
    split
    · exact (offer ..).trans rfl
    · rfl
  have grow (bs : List Byte) (u : State) : (u.growFrame bs).footing = u.footing := by
    unfold State.growFrame
    split_ifs
    · rfl
    · exact ends ..
    · rfl
  unfold State.receive
  split
  · split <;> rfl
  · split
    · rfl
    · exact (grow ..).trans rfl

theorem State.rxGap_footing (s : State) : s.rxGap.footing = s.footing := by
  unfold State.rxGap
  split <;> rfl

theorem State.txDone_footing (s : State) : s.txDone.footing = s.footing := by
  unfold State.txDone
  split <;> rfl

theorem State.rejectFrame_footing (s : State) : s.rejectFrame.footing = s.footing := by
  unfold State.rejectFrame
  split
  · rfl
  · split <;> rfl

theorem State.statsRead_footing (n : Nat) (s : State) : (s.statsRead n).1.footing = s.footing := by
  unfold State.statsRead
  split_ifs <;> rfl

/-- R188: the arbiter moves the phase as it begins the READY notice, and nothing else of the footing. -/
theorem State.arbitrate_footing (s : State) :
    s.arbitrate.footing = s.footing ∨ ∃ n, s.link.readyPlace = some n ∧ s.arbitrate = s.beginReady n := by
  have packet : s.beginPacket.footing = s.footing := by
    unfold State.beginPacket
    split
    · rfl
    next f p hp => exact (State.withPacker_footing (s := { s with link := _ }) (Packer.takeHead_settings hp)).trans rfl
  unfold State.arbitrate
  split
  · exact .inl rfl
  · split
    next n hn => exact .inr ⟨n, hn, rfl⟩
    · split
      · exact .inl rfl
      · split
        · exact .inl rfl
        · exact .inl rfl
        · exact .inl packet

theorem State.beginReady_footing (n : ReadyNotice) (s : State) :
    (s.beginReady n).footing = (s.fixtures, s.link.start, true, none) :=
  (State.followSilence_footing _).trans rfl

theorem State.arbitrate_fixtures (s : State) : s.arbitrate.fixtures = s.fixtures := by
  obtain h | ⟨n, -, h⟩ := s.arbitrate_footing
  · exact congrArg Prod.fst h
  · exact h ▸ congrArg Prod.fst (s.beginReady_footing n)

/-- R192: the phase as the arbiter leaves it. -/
theorem State.arbitrate_phase (s : State) :
    s.arbitrate.phase = s.phase ∨ s.link.readyPlace ≠ none ∧ s.arbitrate.phase = (s.link.start, true, none) := by
  obtain h | ⟨n, hn, h⟩ := s.arbitrate_footing
  · exact .inl (congrArg Prod.snd h)
  · exact .inr ⟨by simp [hn], h ▸ congrArg Prod.snd (s.beginReady_footing n)⟩

end Sys2Proof.Machine
end

section
/-! The settings of the Voice Engine, the packer and the Practice Player, and the phase, under live events, playing, scan frames and a
warm reset (R164 to R177, R41 to R44, R10, R193). -/

namespace Sys2Proof.Machine

/-! ### Claims, the packer and the Recorder -/

theorem State.notify_playSettings (n : Notice) (s : State) : (s.notify n).playSettings = s.playSettings := by
  obtain ⟨ns, x, h⟩ := s.notify_frame n
  exact h ▸ rfl

theorem State.noteOn_playSettings (src : Source) (k v : Nat) (s : State) : (s.noteOn src k v).playSettings = s.playSettings := by
  obtain ⟨tb, c, f, x, h⟩ := s.noteOn_frame src k v
  exact h ▸ rfl

theorem State.noteOff_playSettings (src : Source) (k : Nat) (s : State) : (s.noteOff src k).playSettings = s.playSettings := by
  obtain ⟨tb, h⟩ := s.noteOff_frame src k
  exact h ▸ rfl

theorem State.streamEvent_playSettings (e : LiveEvent) (s : State) : (s.streamEvent e).playSettings = s.playSettings := by
  unfold State.streamEvent
  split
  · rfl
  · simp only [State.playSettings, Packer.accept_settings]

theorem State.recordEvent_playSettings (e : LiveEvent) (s : State) : (s.recordEvent e).playSettings = s.playSettings := by
  obtain ⟨st, r, ns, x, h⟩ := s.recordEvent_frame e
  exact h ▸ rfl

/-! ### Waits (R175, R176) -/

theorem State.offerKey_playSettings (k : Nat) (s : State) : (s.offerKey k).playSettings = s.playSettings := by
  unfold State.offerKey
  split_ifs <;> rfl

theorem State.endWait_playSettings (how : WaitEnd) (d : Nat) (s : State) : (s.endWait how d).playSettings = s.playSettings :=
  (State.notify_playSettings ..).trans rfl

theorem State.earlyMatch_playSettings (s : State) : s.earlyMatch.playSettings = s.playSettings := by
  refine State.foldl_keeps (P := fun u => u.playSettings = s.playSettings) (fun k u hu => ?_) s.player.expected rfl
  unfold State.earlyMatchKey
  split <;> exact hu

theorem State.waitTest_playSettings (s : State) : s.waitTest.playSettings = s.playSettings := by
  unfold State.waitTest
  split
  · rfl
  · simp only
    split
    · exact (State.endWait_playSettings ..).trans s.earlyMatch_playSettings
    · exact s.earlyMatch_playSettings

theorem State.countMisses_playSettings (n : Nat) (s : State) : (s.countMisses n).playSettings = s.playSettings := by
  induction n generalizing s with
  | zero => rfl
  | succ n ih => exact (ih s.countMiss).trans rfl

/-! ### Ends, pauses and loops (R163, R168, R170 to R172) -/

theorem State.releaseOpen_playSettings (s : State) : s.releaseOpen.playSettings = s.playSettings := by
  obtain ⟨tb, h⟩ := s.releaseOpen_frame
  exact h ▸ rfl

theorem State.setContext_playSettings (c : PedalContext) (b : Bool) (s : State) :
    (s.setContext c b).playSettings = s.playSettings := by
  obtain ⟨tb, h⟩ := s.setContext_frame c b
  exact h ▸ rfl

theorem State.endTake_playSettings (why : PlayReason) (s : State) : (s.endTake why).playSettings = s.playSettings := by
  have hreleased := (s.releaseOpen.setContext_playSettings PedalContext.clear false).trans s.releaseOpen_playSettings
  unfold State.endTake
  simp only
  generalize s.releaseOpen.setContext PedalContext.clear false = u at hreleased ⊢
  exact (State.notify_playSettings ..).trans hreleased

theorem State.pausePlay_playSettings (s : State) : s.pausePlay.playSettings = s.playSettings :=
  (State.notify_playSettings ..).trans s.releaseOpen_playSettings

theorem State.loopEnd_playSettings (j : Bool) (s : State) : (s.loopEnd j).1.playSettings = s.playSettings := by
  unfold State.loopEnd
  split
  · exact (State.setContext_playSettings ..).trans s.releaseOpen_playSettings
  · exact s.endTake_playSettings _

theorem State.haltActs_playSettings (go : Go) (s : State) : (s.haltActs go).1.playSettings = s.playSettings := by
  unfold State.haltActs
  split
  · rfl
  · exact s.endTake_playSettings _
  · exact (State.pausePlay_playSettings _).trans rfl

/-! ### Records (R164, R166, R168) -/

theorem State.markPassed_playSettings (n time : Nat) (s : State) : (s.markPassed n time).playSettings = s.playSettings := by
  have hnoticed : (if s.player.reportMarks then
        ({ s with player := { s.player with mark := some n } } : State).notify (.playerMark n time s.player.repeats)
      else { s with player := { s.player with mark := some n } }).playSettings = s.playSettings := by
    split
    · exact (State.notify_playSettings ..).trans rfl
    · rfl
  unfold State.markPassed
  simp only
  split
  · exact hnoticed
  · exact hnoticed

theorem State.handleMark_playSettings (n time : Nat) (j : Bool) (s : State) :
    (s.handleMark n time j).1.playSettings = s.playSettings := by
  have hpassed := s.markPassed_playSettings n time
  have hloop := ((s.markPassed n time).loopEnd_playSettings j).trans hpassed
  unfold State.handleMark
  simp only
  split
  · split
    next he => rw [he] at hloop; exact hloop
    next u go _ he => rw [he] at hloop; exact (u.haltActs_playSettings go).trans hloop
  · exact (State.haltActs_playSettings ..).trans hpassed

theorem State.handleRecord_playSettings (x : Timed) (j : Bool) (s : State) :
    (s.handleRecord x j).1.playSettings = s.playSettings := by
  unfold State.handleRecord
  simp only
  split
  · unfold State.handleOn
    split
    · exact (State.noteOn_playSettings ..).trans rfl
    · rfl
    · exact (State.offerKey_playSettings ..).trans rfl
  · exact keeps_due (P := fun u => u.playSettings = s.playSettings) ((State.noteOff_playSettings ..).trans rfl) rfl
  · exact (State.setContext_playSettings ..).trans rfl
  · exact (State.handleMark_playSettings ..).trans rfl
  · split
    · exact (State.loopEnd_playSettings ..).trans rfl
    · exact (State.endTake_playSettings ..).trans rfl
  all_goals rfl

theorem State.handleList_playSettings (j : Bool) (xs : List Timed) (s : State) :
    (s.handleList j xs).1.playSettings = s.playSettings := by
  induction xs generalizing s with
  | nil => rfl
  | cons x xs ih =>
    have hx := s.handleRecord_playSettings x j
    unfold State.handleList
    split
    next u he => rw [he] at hx; exact (ih u).trans hx
    next he => rw [he] at hx; exact hx

theorem State.handleDue_playSettings (s : State) : s.handleDue.1.playSettings = s.playSettings := by
  have hfirst := s.handleList_playSettings false s.dueRecords
  unfold State.handleDue
  split
  next he => rw [he] at hfirst; exact hfirst
  next he => rw [he] at hfirst; exact hfirst
  next u he =>
    rw [he] at hfirst
    have hsecond := (u.handleList_playSettings true u.dueRecords).trans hfirst
    split
    next he' => rw [he'] at hsecond; exact hsecond
    next he' => rw [he'] at hsecond; exact hsecond

theorem State.handleAndTest_playSettings (s : State) : s.handleAndTest.playSettings = s.playSettings := by
  have hdue := s.handleDue_playSettings
  unfold State.handleAndTest
  split
  next u he => rw [he] at hdue; exact u.waitTest_playSettings.trans hdue
  next he => rw [he] at hdue; exact hdue

theorem State.enterPlaying_playSettings (s : State) : s.enterPlaying.playSettings = s.playSettings :=
  (State.handleAndTest_playSettings _).trans rfl

theorem State.playTick_playSettings (s : State) : s.playTick.playSettings = s.playSettings :=
  (State.handleAndTest_playSettings _).trans rfl

theorem State.cueDone_playSettings (s : State) : s.cueDone.playSettings = s.playSettings := by
  have hcue : s.cueEnd.playSettings = s.playSettings := by
    unfold State.cueEnd
    simp only
    split <;> exact (State.setContext_playSettings ..).trans rfl
  exact (State.enterPlaying_playSettings _).trans ((State.notify_playSettings ..).trans hcue)

theorem State.waitExpires_playSettings (s : State) : s.waitExpires.playSettings = s.playSettings :=
  (State.enterPlaying_playSettings _).trans ((State.endWait_playSettings ..).trans (s.countMisses_playSettings _))

/-! ### Live events (R41, R44, R174) -/

theorem State.matchStrike_playSettings (k : Nat) (t : Time) (s : State) : (s.matchStrike k t).playSettings = s.playSettings := by
  unfold State.matchStrike
  split
  · rfl
  · unfold State.judge
    split
    · exact keeps_due (P := fun u => u.playSettings = s.playSettings)
        ((State.enterPlaying_playSettings _).trans ((State.endWait_playSettings ..).trans rfl)) rfl
    · rfl
  · rfl

theorem State.voiceClaim_playSettings (b : EventBody) (s : State) : (s.voiceClaim b).playSettings = s.playSettings := by
  cases b with
  | noteOn k v _ _ => exact s.noteOn_playSettings .live k v
  | noteOff k _ => exact s.noteOff_playSettings .live k
  | pedal _ _ => rfl

theorem State.matcherTakes_playSettings (e : LiveEvent) (s : State) : (s.matcherTakes e).playSettings = s.playSettings := by
  unfold State.matcherTakes
  split
  · exact s.matchStrike_playSettings _ _
  · rfl

theorem State.route_playSettings (b : EventBody) (t : Time) (s : State) : (s.route b t).playSettings = s.playSettings := by
  have gate (p : Bool) {v u : State} (h : v.playSettings = u.playSettings) : (if p then v else u).playSettings = u.playSettings :=
    keeps_due (P := fun w => w.playSettings = u.playSettings) h rfl
  have deliver (e : LiveEvent) (g : Gates) (u : State) : (u.deliver e g).playSettings = u.playSettings :=
    (gate _ (State.streamEvent_playSettings e _)).trans ((gate _ (State.matcherTakes_playSettings e _)).trans
      ((gate _ (State.recordEvent_playSettings e _)).trans (gate _ (u.voiceClaim_playSettings e.body))))
  exact (deliver ..).trans rfl

/-! ### Scan frames (R10, R28 to R36) -/

/-- The commands that wait, the phase and the settings are the same: what a scan frame and a tick of the player leave. -/
structure State.keepsCourse (s' s : State) : Prop where
  duty : s'.duty = s.duty
  board : s'.boardSettings = s.boardSettings
  play : s'.playSettings = s.playSettings

theorem State.keepsCourse_refl (s : State) : s.keepsCourse s := ⟨rfl, rfl, rfl⟩

theorem State.keepsCourse.trans {a b c : State} (h : a.keepsCourse b) (h' : b.keepsCourse c) : a.keepsCourse c :=
  ⟨h.duty.trans h'.duty, h.board.trans h'.board, h.play.trans h'.play⟩

theorem State.keepsCourse.sameSettings {s' s : State} (h : s'.keepsCourse s) : s'.sameSettings s :=
  State.sameSettings_of h.board h.play

theorem State.keepsCourse_of_footing {s' s : State} (h : s'.footing = s.footing) : s'.keepsCourse s :=
  ⟨State.duty_of_footing h, congrArg (·.1.2.1.1) h, congrArg (·.1.2.1.2) h⟩

theorem State.sameControl.keepsCourse {s' s : State} (h : s'.sameControl s) (hplay : s'.playSettings = s.playSettings) :
    s'.keepsCourse s :=
  ⟨h.duty_eq, h.boardSettings_eq, hplay⟩

theorem State.route_keepsCourse (b : EventBody) (t : Time) (s : State) : (s.route b t).keepsCourse s :=
  (s.route_sameControl b t).keepsCourse (s.route_playSettings b t)

theorem State.perform_keepsCourse (t : Time) (a : KeyAct) (s : State) : (s.perform t a).keepsCourse s := by
  cases a with
  | flightAdded => exact State.keepsCourse_of_footing s.flightAdded_footing
  | flightRemoved => exact State.keepsCourse_of_footing s.flightRemoved_footing
  | event b => exact s.route_keepsCourse b t
  | count c => exact State.keepsCourse_of_footing rfl
  | notice n => exact State.keepsCourse_of_footing (s.notify_footing n)

/-- A key is replaced, and what it asks for is performed. -/
theorem State.settles_keepsCourse (t : Time) (i : Nat) (r : Key × List KeyAct) (s : State) :
    (r.2.foldl (State.perform t) (s.setKey i r.1)).keepsCourse s :=
  State.foldl_keeps (P := (·.keepsCourse s)) (fun a u hu => (u.perform_keepsCourse t a).trans hu) r.2
    (State.keepsCourse_of_footing (s' := s.setKey i r.1) rfl)

theorem State.scanKey_keepsCourse (ks hs : List Nat) (i : Nat) (s : State) : (s.scanKey ks hs i).keepsCourse s := by
  unfold State.scanKey
  split
  · exact s.keepsCourse_refl
  · exact s.settles_keepsCourse ..

theorem PedalUnit.good1_settings (raw : Nat) (u : PedalUnit) : (u.good1 raw).1.settings = u.settings := by
  unfold PedalUnit.good1
  simp only
  split
  · split <;> rfl
  · split <;> rfl

theorem Pedals.setUnit_settings {ps : Pedals} {p : Pedal} {u : PedalUnit} (h : u.settings = (ps.unit p).settings) (q : Pedal) :
    ((ps.setUnit p u).unit q).settings = (ps.unit q).settings := by
  cases p with
  | damper => cases q <;> [exact h; rfl; rfl]
  | sostenuto => cases q <;> [rfl; exact h; rfl]
  | soft => cases q <;> [rfl; rfl; exact h]

/-- A pedal changes, but for its settings. -/
theorem State.setUnit_keepsCourse {p : Pedal} {u : PedalUnit} {s : State} (h : u.settings = (s.pedals.unit p).settings) :
    ({ s with pedals := s.pedals.setUnit p u } : State).keepsCourse s := by
  have hunits : (fun q => ((s.pedals.setUnit p u).unit q).settings) = fun q => (s.pedals.unit q).settings :=
    funext (Pedals.setUnit_settings h)
  refine ⟨rfl, ?_, rfl⟩
  simp only [State.boardSettings, hunits]

theorem State.pedalEvent_keepsCourse (p : Pedal) (n : Nat) (s : State) : (s.pedalEvent p n).keepsCourse s :=
  (State.route_keepsCourse ..).trans (by cases p <;> exact ⟨rfl, rfl, rfl⟩)

theorem State.pedalFails_keepsCourse (p : Pedal) (raw : Nat) {u : PedalUnit} {s : State}
    (h : u.settings = (s.pedals.unit p).settings) : (s.pedalFails p raw u).keepsCourse s := by
  have hnoticed (v : State) (n : Notice) (c : Counter) : ((v.notify n).tally c).keepsCourse v :=
    (State.keepsCourse_of_footing (s' := (v.notify n).tally c) (s := v.notify n) rfl).trans
      (State.keepsCourse_of_footing (v.notify_footing n))
  have hset : ({ s with pedals := s.pedals.setUnit p u.fault } : State).keepsCourse s := State.setUnit_keepsCourse h
  exact (hnoticed _ _ _).trans ((State.pedalEvent_keepsCourse ..).trans hset)

theorem State.scanPedal_keepsCourse (p : Pedal) (raw : Nat) (s : State) : (s.scanPedal p raw).keepsCourse s := by
  unfold State.scanPedal
  simp only
  split_ifs
  · exact s.keepsCourse_refl
  · exact State.pedalFails_keepsCourse p raw rfl
  · exact State.setUnit_keepsCourse rfl
  · have hset := State.setUnit_keepsCourse (s := s) (PedalUnit.good1_settings raw (s.pedals.unit p))
    split
    · exact (State.pedalEvent_keepsCourse ..).trans hset
    · exact hset

theorem State.scanFrame_keepsCourse (ks hs : List Nat) (p : PedalRaws) (s : State) : (s.scanFrame ks hs p).keepsCourse s := by
  have hkeys : (keyIndices.foldl (State.scanKey ks hs) s).keepsCourse s :=
    State.foldl_keeps (P := (·.keepsCourse s)) (fun i u hu => (u.scanKey_keepsCourse ks hs i).trans hu) keyIndices
      s.keepsCourse_refl
  unfold State.scanFrame
  split
  · exact (State.scanPedal_keepsCourse ..).trans ((State.scanPedal_keepsCourse ..).trans
      ((State.scanPedal_keepsCourse ..).trans hkeys))
  · exact s.keepsCourse_refl

end Sys2Proof.Machine
end

section
/-! Every command answers a next state and leaves the commands that wait, and no event of the part changes a setting (R185, R186, R191,
R193). -/

namespace Sys2Proof.Machine

/-! ### The requests' operations leave the commands that wait and the phase -/

theorem State.settleCal_duty (i : Nat) (c : CalRecord) (s : State) : (s.settleCal i c).1.duty = s.duty := by
  unfold State.settleCal
  split
  · rfl
  · simp only
    split
    · exact (State.settles_keepsCourse ..).duty
    · rfl

theorem State.calSet_duty (i : Nat) (c : CalRecord) (s : State) : (s.calSet i c).1.duty = s.duty :=
  State.calSet_keeps (P := fun u => u.duty = s.duty) (fun i c _ hu => (State.settleCal_duty i c _).trans hu) i c rfl

theorem State.threshSet_duty (x : Thresholds) (s : State) : (s.threshSet x).1.duty = s.duty := by
  unfold State.threshSet
  split <;> rfl

theorem State.curveSet_duty (c : Curve) (ps : List CurvePoint) (s : State) : (s.curveSet c ps).1.duty = s.duty := by
  unfold State.curveSet
  split
  · rfl
  · cases c <;> rfl

theorem State.faultClear_duty (x : FaultTarget) (s : State) : (s.faultClear x).1.duty = s.duty := by
  unfold State.faultClear
  split
  · rfl
  · simp only
    split <;> rfl
  · split
    · rfl
    · split
      · rfl
      · split <;> rfl

theorem State.captureBegin_duty (s : State) : s.captureBegin.1.duty = s.duty := by
  unfold State.captureBegin
  split <;> rfl

theorem State.captureEnd_duty (s : State) : s.captureEnd.1.duty = s.duty :=
  State.captureEnd_keeps (P := fun u => u.duty = s.duty) (fun i c _ hu => (State.settleCal_duty i c _).trans hu) rfl rfl

theorem State.captureCancel_duty (s : State) : s.captureCancel.1.duty = s.duty :=
  State.captureCancel_keeps (P := fun u => u.duty = s.duty) rfl rfl

theorem State.pedalCal_duty (p : Pedal) (a b : Nat) (s : State) : (s.pedalCal p a b).1.duty = s.duty := by
  unfold State.pedalCal
  split <;> rfl

theorem State.pedalMode_duty (p : Pedal) (m : PedalMode) (n : Nat) (s : State) : (s.pedalMode p m n).1.duty = s.duty := by
  unfold State.pedalMode
  split <;> rfl

theorem State.routeSet_duty (m : Bool) (n : Nat) (x : Bool) (s : State) : (s.routeSet m n x).1.duty = s.duty := by
  unfold State.routeSet
  split <;> rfl

theorem State.railConfig_duty (c : RailConfig) (s : State) : (s.railConfig c).1.duty = s.duty := by
  unfold State.railConfig
  split
  · rfl
  · split <;> rfl

theorem State.setPoly_duty (n : Nat) (p : Priority) (s : State) : (s.setPoly n p).duty = s.duty := by
  obtain ⟨tb, x, h⟩ := State.stealN_frame _ { s with voices := { s.voices with limit := n, priority := p } }
  exact (congrArg State.duty h).trans rfl

theorem State.followSilence_duty (s : State) : s.followSilence.duty = s.duty := State.duty_of_footing s.followSilence_footing

theorem State.setGainPath_duty (g : GainPath) (s : State) : (s.setGainPath g).duty = s.duty :=
  (State.followSilence_duty _).trans rfl

theorem State.setHeadphones_duty (w : Nat) (p : Bool) (m : MuteMode) (s : State) : (s.setHeadphones w p m).duty = s.duty := by
  have plug (u : State) : (u.setPlugDetect p).duty = u.duty := by
    unfold State.setPlugDetect
    split_ifs
    · rfl
    · rfl
    · rfl
    · exact (State.duty_of_footing (State.notify_footing ..)).trans rfl
  have mute (u : State) : (u.setMuteMode m).duty = u.duty := by
    unfold State.setMuteMode
    split
    · rfl
    · exact (State.duty_of_footing (State.muteFollows_footing ..)).trans rfl
  exact (State.followSilence_duty _).trans ((mute _).trans ((plug _).trans rfl))

/-! ### The start-up and the resets (R191, R193) -/

theorem State.loadDone_fixtures (s : State) : s.loadDone.fixtures = s.fixtures := by
  unfold State.loadDone
  split
  · rfl
  · simp only
    split
    · rfl
    · rfl
    · exact (congrArg Prod.fst (State.notify_footing ..)).trans rfl

theorem State.setupDone_pending (s : State) : s.setupDone.pending = s.pending := by
  unfold State.setupDone
  split <;> rfl

theorem State.closeRecording_keepsCourse (b : Bool) (s : State) : (s.closeRecording b).keepsCourse s := by
  obtain ⟨st, r, h⟩ := s.closeRecording_frame b
  exact (s.closeRecording_sameControl b).keepsCourse (h ▸ rfl)

theorem State.warmRecorder_keepsCourse (s : State) : s.warmRecorder.keepsCourse s := by
  have reset (u : State) : ({ u with recorder := Recorder.reset } : State).keepsCourse u := ⟨rfl, rfl, rfl⟩
  exact (reset _).trans (keeps_due (P := (·.keepsCourse s)) s.keepsCourse_refl (s.closeRecording_keepsCourse true))

theorem Scanner.warm_settings (st : RailState) (n : Nat) (sc : Scanner) :
    (sc.warm st n).thr = sc.thr ∧ (sc.warm st n).hammerCurve = sc.hammerCurve ∧ (sc.warm st n).keyCurve = sc.keyCurve := by
  obtain ⟨m, tm, h⟩ := Scanner.railReport_frame st n { sc with keys := sc.keys.map (Key.warm sc.thr), capturing := false }
  unfold Scanner.warm
  rw [h]
  exact ⟨rfl, rfl, rfl⟩

theorem Pedals.warm_settings (p : Pedals) : (fun q => (p.warm.unit q).settings) = fun q => (p.unit q).settings := by
  funext q
  cases q <;> rfl

/-- R27, R40, R51, R73, R93, R124, R160, R182, R193: the blocks keep their settings. -/
theorem State.warmBlocks_keepsCourse (s : State) : s.warmBlocks.keepsCourse s := by
  have hboard : s.warmBlocks.boardSettings = s.warmRecorder.boardSettings := by
    unfold State.warmBlocks
    simp only [State.boardSettings, Scanner.warm_settings, Pedals.warm_settings, Rail.warm_config]
    rfl
  exact State.keepsCourse.trans (b := s.warmRecorder) ⟨rfl, hboard, rfl⟩ s.warmRecorder_keepsCourse

/-- R193: the link starts anew, and nothing else of the course is lost. -/
theorem State.warmReset_settles (s : State) :
    s.warmReset.pending = s.pending ∧ s.warmReset.boardSettings = s.boardSettings ∧ s.warmReset.playSettings = s.playSettings := by
  obtain ⟨hduty, hboard, hplay⟩ := s.warmBlocks_keepsCourse
  have hpending : s.warmBlocks.pending = s.pending := congrArg Prod.fst hduty
  unfold State.warmReset
  simp only
  split
  · exact ⟨hpending, hboard, hplay⟩
  · exact ⟨hpending, hboard, hplay⟩

/-! ### Events -/

/-- The commands that move the phase otherwise than by the arbiter. -/
def movesPhase : Instr → Bool
  | .fullReset _ | .setupAreaReadDone _ | .warmReset _ | .soundsetLoadDone _ => true
  | _ => false

/-- The commands that can move the player's state, and are no requests. -/
def movesPlayer : Instr → Bool
  | .scanFrame _ _ _ _ | .cueDone _ | .playerTick _ | .waitTimer _ => true
  | _ => false

/-- An event of another kind leaves the footing to the arbiter. -/
theorem exec_footing {c : Instr} {s s' : State} (hreq : requestTime c = none) (hphase : movesPhase c = false)
    (hplayer : movesPlayer c = false) (h : exec c s = .next s') : ∃ u : State, u.footing = s.footing ∧ s' = u.arbitrate := by
  have event {op : State → State} {t : Time}
      (h : (Host.Outcome.next (s.atTime t op) : Host.Outcome State Fault Refusal) = .next s')
      (hop : ∀ u, (op u).footing = u.footing) : ∃ u : State, u.footing = s.footing ∧ s' = u.arbitrate := by
    cases h
    exact ⟨op (s.upTo t), (hop _).trans rfl, rfl⟩
  have due {p : Prop} [Decidable p] {u v : State} (h : u.footing = v.footing) : (if p then u else v).footing = v.footing :=
    keeps_due (P := fun x => x.footing = v.footing) h rfl
  cases c
  case fullReset | setupAreaReadDone | warmReset | soundsetLoadDone => cases hphase
  case scanFrame | cueDone | playerTick | waitTimer => cases hplayer
  case autoHome t => exact event h State.autoHome_footing
  case rxFrame t b | byteReceived t b => exact event h (State.receive_footing b)
  case rxGapTimeout t => exact event h State.rxGap_footing
  case unknownKind t _ => exact event h State.rejectFrame_footing
  case txFrameDone t => exact event h State.txDone_footing
  case streamHoldTimer t => exact event h fun u => due (State.withPacker_footing (Packer.holdExpires_settings _))
  case settleTimer t => exact event h fun _ => due rfl
  case encoderChange t x =>
    cases x with
    | step up => exact event h (State.encoderStep_footing up)
    | illegal => exact event h State.encoderIllegal_footing
  case indexEdge t b =>
    cases b with
    | false => exact event h fun _ => rfl
    | true => exact event h fun _ => (State.indexEdge_footing _).trans rfl
  case endSwitchClose t sw => exact event h fun u => (State.switchCloses_footing ..).trans (u.switchLevelSet_footing ..)
  case endSwitchOpen t sw => exact event h fun u => (State.switchOpens_footing ..).trans (u.switchLevelSet_footing ..)
  case railStall t | railTravelTimeout t => exact event h fun u => due (u.faultRail_footing _)
  case segmentReadDone t =>
    refine event h fun u => ?_
    cases u.fetch.inFlight with
    | none => rfl
    | some e => exact u.segmentDone_footing e
  case outputFrame t => exact event h State.outputFrame_footing
  case audioBlockBoundary t => exact event h State.audioBoundary_footing
  case plugDetectChange t b => exact event h (State.plugLine_footing b)
  case plugSettleTimer t => exact event h fun u => due u.plugSettled_footing
  case muteLineChange t b => exact event h (State.muteLine_footing b)
  case recTakeClockTick t => exact event h fun _ => rfl
  all_goals cases hreq

/-- Every event but the resets, the setup and a load's end leaves the commands that wait, the phase and the settings to the arbiter. -/
theorem exec_keepsCourse {c : Instr} {s s' : State} (hreq : requestTime c = none) (hphase : movesPhase c = false)
    (h : exec c s = .next s') : ∃ u : State, u.keepsCourse s ∧ s' = u.arbitrate := by
  have event {op : State → State} {t : Time}
      (h : (Host.Outcome.next (s.atTime t op) : Host.Outcome State Fault Refusal) = .next s')
      (hop : ∀ u, (op u).keepsCourse u) : ∃ u : State, u.keepsCourse s ∧ s' = u.arbitrate := by
    cases h
    exact ⟨op (s.upTo t), (hop _).trans ⟨rfl, rfl, rfl⟩, rfl⟩
  have due {p : Prop} [Decidable p] {u v : State} (h : u.keepsCourse v) : (if p then u else v).keepsCourse v :=
    keeps_due (P := (·.keepsCourse v)) h v.keepsCourse_refl
  cases hplayer : movesPlayer c with
  | false =>
    obtain ⟨u, hu, hs'⟩ := exec_footing hreq hphase hplayer h
    exact ⟨u, State.keepsCourse_of_footing hu, hs'⟩
  | true =>
    cases c with
    | scanFrame t ks hs p => exact event h (State.scanFrame_keepsCourse ks hs p)
    | cueDone t => exact event h fun u => due (u.cueDone_sameControl.keepsCourse u.cueDone_playSettings)
    | playerTick t => exact event h fun u => due (u.playTick_sameControl.keepsCourse u.playTick_playSettings)
    | waitTimer t => exact event h fun u => due (u.waitExpires_sameControl.keepsCourse u.waitExpires_playSettings)
    | _ => cases hplayer

/-! ### Requests -/

/-- A request leaves the commands that wait and the phase to the arbiter. -/
theorem exec_duty {c : Instr} {t : Time} {s s' : State} (hreq : requestTime c = some t) (h : exec c s = .next s') :
    ∃ u : State, u.duty = s.duty ∧ (s' = u ∨ s' = u.arbitrate) := by
  have request {run : State → State × Status × Content} {q : Request} {t : Time}
      (h : (Host.Outcome.next (s.takeRequest q t run) : Host.Outcome State Fault Refusal) = .next s')
      (hr : ∀ u, (run u).1.duty = u.duty) : ∃ u : State, u.duty = s.duty ∧ (s' = u ∨ s' = u.arbitrate) := by
    cases h
    unfold State.takeRequest
    simp only
    split
    · exact ⟨s.upTo t, rfl, .inl rfl⟩
    · split
      next f _ _ =>
        have hrun : (run (s.upTo t).popRequest).1.duty = s.duty := (hr _).trans rfl
        exact ⟨(run (s.upTo t).popRequest).1.placeReply f _ _ _, hrun, .inr rfl⟩
      · exact ⟨s.upTo t, rfl, .inl rfl⟩
  have checked {p : Prop} [Decidable p] {u v : State} {x y : Status} (h : u.duty = v.duty) :
      (if p then (u, x) else (v, y)).1.duty = v.duty := keeps_checked (P := fun w => w.duty = v.duty) h rfl
  have named {α β : Type} {x : Option α} {refusal : β} {run : α → State × β} {u : State} (h : ∀ a, (run a).1.duty = u.duty) :
      (x.elim (u, refusal) run).1.duty = u.duty := by
    cases x with
    | none => rfl
    | some a => exact h a
  cases c
  case calSet t i r => exact request h (State.calSet_duty i r)
  case threshSet t x => exact request h (State.threshSet_duty x)
  case curveSet t x ps => exact request h fun u => named fun c => u.curveSet_duty c ps
  case faultClear t x => exact request h (State.faultClear_duty x)
  case captureBegin t => exact request h State.captureBegin_duty
  case captureEnd t => exact request h State.captureEnd_duty
  case captureCancel t => exact request h State.captureCancel_duty
  case pedalCal t p a b => exact request h fun u => named fun p => u.pedalCal_duty p a b
  case pedalMode t p m n =>
    refine request h fun u => ?_
    cases p <;> cases m <;> [rfl; rfl; rfl; exact u.pedalMode_duty ..]
  case routeSet t m n x =>
    refine request h fun u => ?_
    cases m <;> cases x <;> [rfl; rfl; rfl; exact u.routeSet_duty ..]
  case railMove t g p =>
    refine request h fun u => ?_
    cases g <;> cases p <;> [rfl; rfl; rfl; exact State.duty_of_footing (u.railMove_footing ..)]
  case railHome t => exact request h fun u => State.duty_of_footing u.beginHome_footing
  case railStop t => exact request h fun u => State.duty_of_footing u.railStop_footing
  case railConfig t a b m n l x o => exact request h fun u => named fun o => u.railConfig_duty _
  case polySet t n p =>
    refine request h fun u => ?_
    cases p with
    | none => rfl
    | some p => exact checked (u.setPoly_duty n p)
  case soundOff t c => exact request h fun u => by cases c <;> rfl
  case soundsetReload t =>
    refine request h fun u => ?_
    exact checked (p := u.reloadBusy = true) (u := u) (v := { u with fetch := u.fetch.beginLoad }) rfl
  case volumeSet t m => exact request h fun u => checked (u.setGainPath_duty _)
  case mixSet t a b x c =>
    refine request h fun u => ?_
    cases x <;> cases c <;> [rfl; rfl; rfl; exact checked (u.setGainPath_duty _)]
  case hpConfig t w p m =>
    refine request h fun u => ?_
    cases p <;> cases m <;> [rfl; rfl; rfl; exact checked (u.setHeadphones_duty ..)]
  case unmute t => exact request h fun u => State.duty_of_footing u.unmute_footing
  case recStart t id a n => exact request h fun u => named fun a => (u.recStart_sameControl id a n).duty_eq
  case recMark t n => exact request h fun u => (u.recMark_sameControl n).duty_eq
  case recPause t => exact request h fun u => u.recPause_sameControl.duty_eq
  case recResume t => exact request h fun u => u.recResume_sameControl.duty_eq
  case recStop t => exact request h fun u => u.recStop_sameControl.duty_eq
  case streamConfig t m a b => exact request h fun u => by cases m <;> rfl
  case playStart t id a b l x p r => exact request h fun u => named fun p => (u.playStart_sameControl id a b l x p r).duty_eq
  case playStop t w => exact request h fun u => named fun w => (u.playStop_sameControl w).duty_eq
  case playPause t w => exact request h fun u => named fun w => (u.playPause_sameControl w).duty_eq
  case playContinue t => exact request h fun u => u.playContinue_sameControl.duty_eq
  case playTempo t n w => exact request h fun u => named fun w => (u.playTempo_sameControl n w).duty_eq
  case playParts t p => exact request h fun u => named fun p => (u.playParts_sameControl p).duty_eq
  case waitConfig t a b => exact request h fun u => (u.waitConfig_sameControl a b).duty_eq
  case playSuspend t x => exact request h fun u => named fun x => (u.playSuspend_sameControl x).duty_eq
  case playResume t x => exact request h fun u => named fun x => (u.playResume_sameControl x).duty_eq
  case slotDiscard t x => exact request h fun u => named fun x => (u.slotDiscard_sameControl x).duty_eq
  case statsRead t n => exact request h fun u => State.duty_of_footing (u.statsRead_footing n)
  case keyQuery | scanQuery | pedalQuery | routeQuery | railQuery | voiceQuery | voiceRead | soundsetQuery | zoneRead | streamRead
    | mixQuery | takeList | takeInfo | takeRename | takeDelete | uploadOpen | uploadBlock | downloadOpen | downloadBlock
    | transferAbort | recQuery | streamQuery | playerQuery | status | identify | restart =>
    exact request h fun _ => rfl
  all_goals cases hreq

/-! ### Every command -/

theorem everyCommandHasANextState : Claims.EveryCommandHasANextState := by
  intro c s
  cases c <;> exact ⟨_, rfl⟩

theorem State.arbitrate_pending (s : State) : s.arbitrate.pending = s.pending := congrArg Prod.fst s.arbitrate_fixtures

theorem exec_pending {c : Instr} {s s' : State} (h : exec c s = .next s') : s'.pending = s.pending := by
  have event {op : State → State} {t : Time}
      (h : (Host.Outcome.next (s.atTime t op) : Host.Outcome State Fault Refusal) = .next s')
      (hop : ∀ u, (op u).pending = u.pending) : s'.pending = s.pending := by
    cases h
    exact (State.arbitrate_pending _).trans ((hop _).trans rfl)
  cases hreq : requestTime c with
  | some t =>
    obtain ⟨u, hu, rfl | rfl⟩ := exec_duty hreq h
    · exact congrArg Prod.fst hu
    · exact u.arbitrate_pending.trans (congrArg Prod.fst hu)
  | none =>
    cases hphase : movesPhase c with
    | false =>
      obtain ⟨u, hu, rfl⟩ := exec_keepsCourse hreq hphase h
      exact u.arbitrate_pending.trans (congrArg Prod.fst hu.duty)
    | true =>
      cases c with
      | fullReset b => cases h; rfl
      | setupAreaReadDone t => exact event h State.setupDone_pending
      | warmReset t => exact event h fun u => keeps_due (P := fun v => v.pending = u.pending) u.warmReset_settles.1 rfl
      | soundsetLoadDone t => exact event h fun u => congrArg Prod.fst u.loadDone_fixtures
      | _ => cases hphase

/-- Settles O3: each arm of `exec` is a next state; the commands that wait are left by every operation (`exec_pending`), the sound
memory and the table of kinds too (`exec_staysWithin`). -/
theorem everyCommandAnswersANextState : Obligations.EveryCommandAnswersANextState :=
  ⟨everyCommandHasANextState, fun _ s _ h =>
    have hwithin := exec_staysWithin s.staysWithin_refl h
    ⟨exec_pending h, hwithin.soundMem, hwithin.kinds⟩⟩

theorem State.arbitrate_sameSettings {u s : State} (hboard : u.boardSettings = s.boardSettings)
    (hplay : u.playSettings = s.playSettings) : u.arbitrate.sameSettings s :=
  State.sameSettings_of ((congrArg (·.2.1.1) u.arbitrate_fixtures).trans hboard)
    ((congrArg (·.2.1.2) u.arbitrate_fixtures).trans hplay)

/-- Settles O51: an event leaves the settings (`exec_keepsCourse`), and so do the end of a load and a warm reset. -/
theorem settingsChangeOnlyByRequestsAndStartUp : Obligations.SettingsChangeOnlyByRequestsAndStartUp := by
  intro c s s' hreq hfull hsetup h
  cases hphase : movesPhase c with
  | false =>
    obtain ⟨u, hu, rfl⟩ := exec_keepsCourse hreq hphase h
    exact State.arbitrate_sameSettings hu.board hu.play
  | true =>
    cases c with
    | fullReset b => exact absurd rfl (hfull b)
    | setupAreaReadDone t => exact absurd rfl (hsetup t)
    | warmReset t =>
      cases h
      obtain ⟨-, hboard, hplay⟩ := (s.upTo t).warmReset_settles
      refine State.arbitrate_sameSettings ?_ ?_
      · exact keeps_due (P := fun v => v.boardSettings = s.boardSettings) (hboard.trans rfl) rfl
      · exact keeps_due (P := fun v => v.playSettings = s.playSettings) (hplay.trans rfl) rfl
    | soundsetLoadDone t =>
      cases h
      have hfixtures := (s.upTo t).loadDone_fixtures
      exact State.arbitrate_sameSettings (congrArg (·.2.1.1) hfixtures) (congrArg (·.2.1.2) hfixtures)
    | _ => cases hphase

end Sys2Proof.Machine
end

section
/-! Every step keeps a quiet start (R185, R191, R192). -/

namespace Sys2Proof.Machine

/-! ### The phase (R185, R191, R192) -/

/-- R191, R192: the link is not READY before its start-up is over, and the READY notice waits only until the link is READY. -/
def State.phaseQuiet (s : State) : Prop :=
  (s.link.start ≠ .over → s.link.ready = false ∧ s.link.readyPlace = none) ∧ (s.link.ready = true → s.link.readyPlace = none)

/-- R191: nothing is in play: no hammer in flight, every voice entry FREE, and the player IDLE. -/
def State.still (s : State) : Prop :=
  (∀ k ∈ s.scanner.keys, k.flight = none) ∧ (∀ v ∈ s.voices.table, v = none) ∧ s.player.state = .idle

theorem State.startsQuietly_iff (s : State) : s.startsQuietly ↔ s.phaseQuiet ∧ (s.link.beforeSetup → s.still) :=
  and_assoc.symm

theorem State.phase_eq_iff {s : State} {l : StartPhase} {r : Bool} {n : Option ReadyNotice} :
    s.phase = (l, r, n) ↔ s.link.start = l ∧ s.link.ready = r ∧ s.link.readyPlace = n := by
  simp only [State.phase, Prod.mk.injEq]

theorem State.phaseQuiet_of_phase {a b : State} (h : a.phase = b.phase) (hb : b.phaseQuiet) : a.phaseQuiet := by
  obtain ⟨hstart, hready, hplace⟩ := State.phase_eq_iff.mp h
  unfold State.phaseQuiet
  rwa [hstart, hready, hplace]

/-- R192: the READY notice begins only once the start-up is over, and its place empties. -/
theorem State.arbitrate_phaseQuiet {s : State} (h : s.phaseQuiet) : s.arbitrate.phaseQuiet := by
  obtain hphase | ⟨hplace, hphase⟩ := s.arbitrate_phase
  · exact State.phaseQuiet_of_phase hphase h
  · have hover : s.link.start = .over := by
      by_contra hne
      exact hplace (h.1 hne).2
    obtain ⟨hstart, -, hempty⟩ := State.phase_eq_iff.mp hphase
    exact ⟨fun hne => absurd (hstart.trans hover) hne, fun _ => hempty⟩

theorem State.arbitrate_start (s : State) : s.arbitrate.link.start = s.link.start := by
  obtain h | ⟨-, h⟩ := s.arbitrate_phase
  · exact (State.phase_eq_iff.mp h).1
  · exact (State.phase_eq_iff.mp h).1

/-- R191, R192: the end of a load goes on to the setup, or ends a warm start-up, or leaves the phase. -/
theorem State.loadDone_phase (s : State) :
    s.loadDone.phase = s.phase
      ∨ s.link.start = .loading true ∧ s.loadDone.phase = (.setup, s.link.ready, s.link.readyPlace)
      ∨ s.link.start = .loading false ∧ ∃ n, s.loadDone.phase = (.over, s.link.ready, some n) := by
  unfold State.loadDone
  split
  · exact .inl rfl
  · simp only
    split
    next hstart => exact .inr (.inl ⟨hstart, rfl⟩)
    next hstart => exact .inr (.inr ⟨hstart, _, rfl⟩)
    next => exact .inl ((congrArg Prod.snd (State.notify_footing ..)).trans rfl)

/-- R191, R192: the end of the setup ends the start-up. -/
theorem State.setupDone_phase (s : State) :
    s.setupDone = s ∨ s.link.start = .setup ∧ ∃ n, s.setupDone.phase = (.over, s.link.ready, some n) := by
  unfold State.setupDone
  split
  · exact .inl rfl
  next hstart => exact .inr ⟨not_not.mp hstart, _, rfl⟩

/-- R193: a warm reset makes a load in progress again, or ends the start-up at once. -/
theorem State.warmReset_phase (s : State) :
    s.warmReset.phase = (.loading false, false, none) ∨ ∃ n, s.warmReset.phase = (.over, false, some n) := by
  unfold State.warmReset
  simp only
  split
  · exact .inl rfl
  · exact .inr ⟨_, rfl⟩

/-- The start-up ends with READY placed and the link not yet READY. -/
theorem State.phaseQuiet_of_ended {s u : State} (h : s.phaseQuiet) (hstart : s.link.start ≠ .over) {n : ReadyNotice}
    (hphase : u.phase = (.over, s.link.ready, some n)) : u.phaseQuiet := by
  obtain ⟨hover, hready, -⟩ := State.phase_eq_iff.mp hphase
  refine ⟨fun hne => absurd hover hne, fun htrue => ?_⟩
  rw [hready, (h.1 hstart).1] at htrue
  cases htrue

theorem State.loadDone_phaseQuiet {s : State} (h : s.phaseQuiet) : s.loadDone.phaseQuiet := by
  obtain hphase | ⟨hstart, hphase⟩ | ⟨hstart, n, hphase⟩ := s.loadDone_phase
  · exact State.phaseQuiet_of_phase hphase h
  · obtain ⟨-, hready, hplace⟩ := State.phase_eq_iff.mp hphase
    obtain ⟨hnot, hnone⟩ := h.1 (by simp [hstart])
    exact ⟨fun _ => ⟨hready.trans hnot, hplace.trans hnone⟩, fun _ => hplace.trans hnone⟩
  · exact State.phaseQuiet_of_ended h (by simp [hstart]) hphase

theorem State.setupDone_phaseQuiet {s : State} (h : s.phaseQuiet) : s.setupDone.phaseQuiet := by
  obtain hsame | ⟨hstart, n, hphase⟩ := s.setupDone_phase
  · rwa [hsame]
  · exact State.phaseQuiet_of_ended h (by simp [hstart]) hphase

theorem State.warmReset_phaseQuiet (s : State) : s.warmReset.phaseQuiet := by
  obtain hphase | ⟨n, hphase⟩ := s.warmReset_phase
  · obtain ⟨-, hready, hplace⟩ := State.phase_eq_iff.mp hphase
    exact ⟨fun _ => ⟨hready, hplace⟩, fun _ => hplace⟩
  · obtain ⟨hover, hready, -⟩ := State.phase_eq_iff.mp hphase
    exact ⟨fun hne => absurd hover hne, fun htrue => by simp [hready] at htrue⟩

theorem exec_phaseQuiet {c : Instr} {s s' : State} (hs : s.phaseQuiet) (h : exec c s = .next s') : s'.phaseQuiet := by
  have of_duty {u : State} (hu : u.duty = s.duty) : u.phaseQuiet := State.phaseQuiet_of_phase (congrArg Prod.snd hu) hs
  cases hreq : requestTime c with
  | some t =>
    obtain ⟨u, hu, rfl | rfl⟩ := exec_duty hreq h
    · exact of_duty hu
    · exact State.arbitrate_phaseQuiet (of_duty hu)
  | none =>
    cases hphase : movesPhase c with
    | false =>
      obtain ⟨u, hu, rfl⟩ := exec_keepsCourse hreq hphase h
      exact State.arbitrate_phaseQuiet (of_duty hu.duty)
    | true =>
      cases c with
      | fullReset b =>
        cases h
        exact ⟨fun _ => ⟨rfl, rfl⟩, fun _ => rfl⟩
      | setupAreaReadDone t =>
        cases h
        exact State.arbitrate_phaseQuiet (State.setupDone_phaseQuiet (s := s.upTo t) hs)
      | warmReset t =>
        cases h
        exact State.arbitrate_phaseQuiet (keeps_due (State.warmReset_phaseQuiet _) hs)
      | soundsetLoadDone t =>
        cases h
        exact State.arbitrate_phaseQuiet (State.loadDone_phaseQuiet (s := s.upTo t) hs)
      | _ => cases hphase

/-! ### Before the setup nothing comes into play (R191) -/

theorem State.still_of_parts {a b : State} (hview : a.view = b.view) (hvoices : a.voices = b.voices)
    (hplayer : a.player.state = b.player.state) (hb : b.still) : a.still := by
  have hkeys : a.scanner.keys = b.scanner.keys := congrArg Prod.fst hview
  unfold State.still
  rwa [hkeys, hvoices, hplayer]

theorem State.arbitrate_still {s : State} (h : s.still) : s.arbitrate.still :=
  State.still_of_parts s.arbitrate_view s.arbitrate_voices (congrArg (·.2.2) s.arbitrate_fixtures) h

theorem Voices.voice?_of_free {v : Voices} (h : ∀ x ∈ v.table, x = none) (i : Nat) : v.voice? i = none :=
  Voices.voice?_eq_none.mpr fun w hw => nomatch h (some w) (List.mem_of_getElem? hw)

section
variable {s : State} (h : ∀ x ∈ s.voices.table, x = none)
include h

/-- R104: a completed read finds no voice. -/
theorem State.segmentDone_free (e : FetchEntry) : (s.segmentDone e).voices = s.voices := by
  have hvoice : s.voices.voice? e.voice = none := Voices.voice?_of_free h e.voice
  simp [State.segmentDone, State.segmentMatched, hvoice]

theorem State.playEntry_free (i : Nat) : s.playEntry i = s := by simp [State.playEntry, Voices.voice?_of_free h i]

theorem State.boundaryEntry_free (i : Nat) : s.boundaryEntry i = s := by simp [State.boundaryEntry, Voices.voice?_of_free h i]

end

/-- Operations on the entries that find no voice there. -/
theorem State.foldl_free {s : State} {op : State → Nat → State} (hop : ∀ i, op s i = s) (is : List Nat) : is.foldl op s = s := by
  induction is with
  | nil => rfl
  | cons i is ih => rw [List.foldl_cons, hop, ih]

theorem State.outputFrame_free {s : State} (h : ∀ x ∈ s.voices.table, x = none) : s.outputFrame.voices = s.voices := by
  have hsent : s.sendFrame.voices = s.voices := by
    unfold State.sendFrame
    simp only
    split <;> rfl
  have hfree : ∀ x ∈ s.sendFrame.voices.table, x = none := hsent ▸ h
  rw [State.outputFrame, State.foldl_free (State.playEntry_free hfree), hsent]

theorem State.audioBoundary_free {s : State} (h : ∀ x ∈ s.voices.table, x = none) : s.audioBoundary.voices = s.voices := by
  rw [State.audioBoundary, State.foldl_free (State.boundaryEntry_free h)]

/-- With every entry FREE no event but a scan frame or the player's moves the voices. -/
theorem exec_voices_free {c : Instr} {s s' : State} (hreq : requestTime c = none) (hphase : movesPhase c = false)
    (hplayer : movesPlayer c = false) (hfree : ∀ x ∈ s.voices.table, x = none) (h : exec c s = .next s') :
    s'.voices = s.voices := by
  have event {op : State → State} {t : Time}
      (h : (Host.Outcome.next (s.atTime t op) : Host.Outcome State Fault Refusal) = .next s')
      (hop : (op (s.upTo t)).voices = s.voices) : s'.voices = s.voices := by
    cases h
    exact (State.arbitrate_voices _).trans hop
  cases hvoices : movesVoices c with
  | false => exact exec_voices hvoices h
  | true =>
    cases c with
    | segmentReadDone t =>
      refine event h ?_
      cases (s.upTo t).fetch.inFlight with
      | none => rfl
      | some e => exact State.segmentDone_free (s := s.upTo t) hfree e
    | outputFrame t => exact event h (State.outputFrame_free (s := s.upTo t) hfree)
    | audioBlockBoundary t => exact event h (State.audioBoundary_free (s := s.upTo t) hfree)
    | fullReset _ | setupAreaReadDone _ | warmReset _ => cases hphase
    | scanFrame _ _ _ _ | cueDone _ | playerTick _ | waitTimer _ => cases hplayer
    | calSet _ _ _ | captureEnd _ | polySet _ _ _ | soundOff _ _ | playStop _ _ | playPause _ _ | playContinue _ | playParts _ _
    | playSuspend _ _ => cases hreq
    | _ => cases hvoices

/-- The events that move the player's state find it IDLE, and no scan is made before the setup. -/
theorem exec_movesPlayer_still {c : Instr} {s s' : State} (hc : movesPlayer c = true) (hbefore : s.link.beforeSetup)
    (hs : s.still) (h : exec c s = .next s') : s'.still := by
  have unmoved {op : State → State} {t : Time}
      (h : (Host.Outcome.next (s.atTime t op) : Host.Outcome State Fault Refusal) = .next s')
      (hop : op (s.upTo t) = s.upTo t) : s'.still := by
    cases h
    change (op (s.upTo t)).arbitrate.still
    rw [hop]
    exact State.arbitrate_still (State.still_of_parts rfl rfl rfl hs)
  have not_in {st : PlayerState} {p : Prop} (hne : .idle ≠ st) : ¬ (s.player.state = st ∧ p) := fun ⟨hst, _⟩ =>
    hne (hs.2.2.symm.trans hst)
  cases c with
  | scanFrame t ks hs p =>
    have hscan : ¬ (s.upTo t).scanning = true := by
      change ¬ (s.link.start != .loading true && s.link.start != .setup) = true
      obtain hload | hsetup := hbefore
      · simp [hload]
      · simp [hsetup]
    exact unmoved h (if_neg hscan)
  | cueDone t => exact unmoved h (if_neg (not_in (st := .cueing) nofun))
  | playerTick t => exact unmoved h (if_neg (not_in (st := .playing) nofun))
  | waitTimer t => exact unmoved h (if_neg (not_in (st := .waiting) nofun))
  | _ => cases hc

/-- An event that moves neither the phase nor the player's state, except a scan frame, leaves the keys. -/
theorem movesKeys_of_event {c : Instr} (hreq : requestTime c = none) (hphase : movesPhase c = false)
    (hplayer : movesPlayer c = false) : movesKeys c = false := by
  cases c with
  | fullReset _ | setupAreaReadDone _ | warmReset _ => cases hphase
  | scanFrame _ _ _ _ => cases hplayer
  | calSet _ _ _ | threshSet _ _ | faultClear _ _ | captureBegin _ | captureEnd _ | captureCancel _ => cases hreq
  | _ => rfl

theorem State.reset_still : State.reset.still :=
  ⟨fun _ h => (List.eq_of_mem_replicate h) ▸ rfl, fun _ h => List.eq_of_mem_replicate h, rfl⟩

theorem Link.beforeSetup_iff_of_start {a b : Link} (h : a.start = b.start) : a.beforeSetup ↔ b.beforeSetup := by
  rw [Link.beforeSetup, h, Link.beforeSetup]

theorem State.arbitrate_beforeSetup {s : State} : s.arbitrate.link.beforeSetup ↔ s.link.beforeSetup :=
  Link.beforeSetup_iff_of_start s.arbitrate_start

/-- R191: a start-up that is over, or the load of a warm start-up, is past the setup. -/
theorem State.not_beforeSetup_of_phase {s : State} {l : StartPhase} {r : Bool} {n : Option ReadyNotice}
    (h : s.phase = (l, r, n)) (hl : l ≠ .loading true ∧ l ≠ .setup) : ¬ s.link.beforeSetup := by
  obtain ⟨hstart, -, -⟩ := State.phase_eq_iff.mp h
  rw [Link.beforeSetup, hstart]
  exact not_or.mpr hl

theorem State.duty_start {a b : State} (h : a.duty = b.duty) : a.link.start = b.link.start :=
  congrArg (·.2.1) h

/-- R185, R191: before the setup the link is not READY, so a request waits and moves nothing. -/
theorem exec_request_still {c : Instr} {t : Time} {s s' : State} (hreq : requestTime c = some t) (hs : s.startsQuietly)
    (h : exec c s = .next s') (hbefore : s'.link.beforeSetup) : s'.still := by
  obtain ⟨hphase, hstill⟩ := s.startsQuietly_iff.mp hs
  have hstart : s'.link.start = s.link.start := by
    obtain ⟨u, hu, rfl | rfl⟩ := exec_duty hreq h
    · exact State.duty_start hu
    · exact u.arbitrate_start.trans (State.duty_start hu)
  have hb : s.link.beforeSetup := (Link.beforeSetup_iff_of_start hstart).mp hbefore
  have hnotOver : s.link.start ≠ .over := by
    obtain hload | hsetup := hb
    · simp [hload]
    · simp [hsetup]
  rw [exec_waits hreq (.inl (hphase.1 hnotOver).1)] at h
  cases h
  exact State.still_of_parts rfl rfl rfl (hstill hb)

/-- R191: an event that leaves the phase brings nothing into play before the setup. -/
theorem exec_event_still {c : Instr} {s s' : State} (hreq : requestTime c = none) (hphase : movesPhase c = false)
    (hs : s.startsQuietly) (h : exec c s = .next s') (hbefore : s'.link.beforeSetup) : s'.still := by
  obtain ⟨u, hu, hs'⟩ := exec_keepsCourse hreq hphase h
  have hb : s.link.beforeSetup :=
    (Link.beforeSetup_iff_of_start (State.duty_start hu.duty)).mp (State.arbitrate_beforeSetup.mp (hs' ▸ hbefore))
  have hstill : s.still := (s.startsQuietly_iff.mp hs).2 hb
  cases hplayer : movesPlayer c with
  | true => exact exec_movesPlayer_still hplayer hb hstill h
  | false =>
    have hview := exec_view (movesKeys_of_event hreq hphase hplayer) h
    have hvoices := exec_voices_free hreq hphase hplayer hstill.2.1 h
    have hstate : s'.player.state = s.player.state := by
      obtain ⟨v, hv, rfl⟩ := exec_footing hreq hphase hplayer h
      exact (congrArg (·.2.2) v.arbitrate_fixtures).trans (congrArg (·.1.2.2) hv)
    exact State.still_of_parts hview hvoices hstate hstill

/-- R191: the resets, the end of the load and the end of the setup: past the setup, or with nothing in play. -/
theorem exec_movesPhase_still {c : Instr} {s s' : State} (hphase : movesPhase c = true) (hs : s.startsQuietly)
    (h : exec c s = .next s') (hbefore : s'.link.beforeSetup) : s'.still := by
  have hstill : s.link.beforeSetup → s.still := (s.startsQuietly_iff.mp hs).2
  have upTo_still {t : Time} (hb : (s.upTo t).link.beforeSetup) : (s.upTo t).arbitrate.still :=
    State.arbitrate_still (State.still_of_parts rfl rfl rfl (hstill hb))
  cases c with
  | fullReset b =>
    cases h
    exact State.still_of_parts rfl rfl rfl State.reset_still
  | setupAreaReadDone t =>
    cases h
    have hb : (s.upTo t).setupDone.link.beforeSetup := State.arbitrate_beforeSetup.mp hbefore
    change (s.upTo t).setupDone.arbitrate.still
    obtain hsame | ⟨-, n, hover⟩ := (s.upTo t).setupDone_phase
    · rw [hsame] at hb ⊢
      exact upTo_still hb
    · exact absurd hb (State.not_beforeSetup_of_phase hover (by simp))
  | warmReset t =>
    cases h
    have hb := State.arbitrate_beforeSetup.mp hbefore
    change (if (s.upTo t).warmResetDue then (s.upTo t).warmReset else s.upTo t).link.beforeSetup at hb
    change (if (s.upTo t).warmResetDue then (s.upTo t).warmReset else s.upTo t).arbitrate.still
    split at hb
    next hdue =>
      obtain hload | ⟨n, hover⟩ := (s.upTo t).warmReset_phase
      · exact absurd hb (State.not_beforeSetup_of_phase hload (by simp))
      · exact absurd hb (State.not_beforeSetup_of_phase hover (by simp))
    next hdue =>
      rw [if_neg hdue]
      exact upTo_still hb
  | soundsetLoadDone t =>
    have hview := exec_view rfl h
    have hvoices := exec_voices rfl h
    cases h
    have hstate : (s.upTo t).loadDone.arbitrate.player.state = s.player.state :=
      (congrArg (·.2.2) (State.arbitrate_fixtures _)).trans (congrArg (·.2.2) (s.upTo t).loadDone_fixtures)
    have hb : (s.upTo t).loadDone.link.beforeSetup := State.arbitrate_beforeSetup.mp hbefore
    have hbs : s.link.beforeSetup := by
      obtain hsame | ⟨hload, -⟩ | ⟨-, n, hover⟩ := (s.upTo t).loadDone_phase
      · exact (Link.beforeSetup_iff_of_start (State.phase_eq_iff.mp hsame).1).mp hb
      · exact .inl hload
      · exact absurd hb (State.not_beforeSetup_of_phase hover (by simp))
    exact State.still_of_parts hview hvoices hstate (hstill hbs)
  | _ => cases hphase

theorem exec_startsQuietly {c : Instr} {s s' : State} (hs : s.startsQuietly) (h : exec c s = .next s') : s'.startsQuietly := by
  refine s'.startsQuietly_iff.mpr ⟨exec_phaseQuiet (s.startsQuietly_iff.mp hs).1 h, fun hbefore => ?_⟩
  cases hreq : requestTime c with
  | some t => exact exec_request_still hreq hs h hbefore
  | none =>
    cases hphase : movesPhase c with
    | false => exact exec_event_still hreq hphase hs h hbefore
    | true => exact exec_movesPhase_still hphase hs h hbefore

/-- Settles O55: the phase stays quiet (`exec_phaseQuiet`); until the setup is taken requests wait, no scan is made, the events of the
voices find none and those of the player find it IDLE. -/
theorem stepsKeepTheStartQuiet : Obligations.StepsKeepTheStartQuiet := by
  intro s s' hs _ h
  obtain rfl | ⟨c, cs, -, h⟩ := step_cases h
  · exact hs
  · exact exec_startsQuietly (s := { s with pending := cs }) hs h

end Sys2Proof.Machine
end
